-- ==== Sys2Proof/Word.lean ====
section
/-!
DEFINITION. The plain types the model is written over: a byte, a parameter value, and a sparse table.
Everything a test could show wrong (reading and writing a table, fields, byte orders) stands in Machine/Tab.lean.
-/

namespace Sys2Proof

/-- One byte. -/
abbrev Byte := BitVec 8

/-- A 64-bit parameter value (R7), also a sequencer or DXE instruction word (R175, R192). -/
abbrev Word := BitVec 64

/-- A 128-bit microword (R242) or JTAG register (R463). -/
abbrev Wide := BitVec 128

/-- A sparse table: pairs of a key and a value, keys rising. An unlisted key reads as the default its reader names. -/
abbrev Tab (α : Type) := List (Nat × α)

/-- A fine time in units of 1/256 tick (R4, R45): 256 × GT + fraction. -/
abbrev Fine := Int

end Sys2Proof
end

