-- ==== Sys2Proof/Syntax.lean ====
section
/-!
DEFINITION. The commands of the Crivon: one constructor per row of spec/opcode_table.json, and the operand types they carry.
A command is an operation the host, a pin, a link peer or a time-driven engine performs on the block; the block's own
sequencer and DXE instructions are commands that name the sequencer or engine and are fetched from its program memory.
-/

namespace Sys2Proof

/-- The twelve operating modes (R19). -/
inductive Mode where
  | reset | boot | fallback | standby | configure | calibrate | syncing | ready | run | hold | bench | shutdown
  deriving DecidableEq, Repr

/-- What a pin-level or clock-level loss names (R14): REFCLK itself or one of the five synthesizers of R13. -/
inductive ClockSource where
  | refclk | fabric | dacA | dacB | adc | serdes
  deriving DecidableEq, Repr

/-- A clock that is lost, and the ticks after which it is good again. -/
structure ClockLoss where
  src : ClockSource
  back : Nat
  deriving DecidableEq, Repr

/-- A lane that loses alignment, and whether its receiver still detects a signal. -/
structure LaneLoss where
  lane : Fin 16
  signal : Bool
  deriving DecidableEq, Repr

/-- What a training group finds: its lanes' skew in characters, and whether its pair's other member reaches the same peer. -/
structure GroupFound where
  skew : Nat
  same : Bool
  deriving DecidableEq, Repr

/-- The on-chip SRAM regions of R15, in address order. -/
inductive Region where
  | shelves | acq | dxe | seqProg | slots | decision | rings | store | mgmt | audit | link
  deriving DecidableEq, Repr

/-- A mailbox (R369, R370): a function's bootstrap mailbox, or the mailbox of a session. -/
inductive Mbox where
  | boot (func : Fin 64)
  | ses (n : Fin 1024)
  deriving DecidableEq, Repr

/-- What every mailbox command entry carries beside its arguments (R373): the mailbox it arrives on, CTAG, and whether
some reserved byte of the entry is not 0. -/
structure Cmd where
  mb : Mbox
  ctag : BitVec 16
  rsvd : Bool
  deriving DecidableEq, Repr

/-- What a shelf plays on (R73, R92): a DRV tone, a PRB tone or an FLX port. -/
inductive Target where
  | drv (p : Fin 40) (t : Fin 8)
  | prb (p : Fin 12) (t : Fin 24)
  | flx (p : Fin 24)
  deriving DecidableEq, Repr

/-- A DAC port with a calibration set (R133, R143). -/
inductive Port where
  | drv (p : Fin 40)
  | prb (p : Fin 12)
  | flx (p : Fin 24)
  deriving DecidableEq, Repr

/-- What every received frame carries beside its payload (R266): the group it arrived on, the sender's ID, whether it
holds one, and the MIRROR bit. -/
structure Rx where
  lg : Fin 4
  src : Fin 64
  srcValid : Bool
  mirror : Bool
  deriving DecidableEq, Repr

/-- A beacon's payload (R269): transmit stamp, the echoed stamps, GT_STATE and depth. -/
structure Beacon where
  txGt : BitVec 64
  txF : BitVec 8
  echoTxGt : BitVec 32
  echoTxF : BitVec 8
  echoRxGt : BitVec 32
  echoRxF : BitVec 8
  gtState : BitVec 3
  depth : BitVec 3
  echoValid : Bool
  deriving DecidableEq, Repr

/-- A control frame's payload (R273) but for its subtype, which the command is. -/
structure Ctl where
  cseq : BitVec 8
  node : Fin 64
  nodeValid : Bool
  status : BitVec 8
  originSerial : BitVec 32
  arg : BitVec 64
  subjectSerial : BitVec 32
  deriving DecidableEq, Repr

/-- Why a received frame is discarded (R268). -/
inductive FrameBad where
  | malformed | reservedType | badLen | control | badCrc | badSubtype
  deriving DecidableEq, Repr

/-- Which code error a lane receives (R259). -/
inductive CodeErr where
  | invalid | disparity
  deriving DecidableEq, Repr

/-- A control frame waiting to be sent, or another timing frame (R267, R274). -/
inductive TimingKind where
  | snapshot | control
  deriving DecidableEq, Repr

/-- How one host read of a DMA descriptor ends (R332). -/
inductive HostRead where
  | data (bytes : List (BitVec 8))
  | error
  deriving DecidableEq, Repr

/-- One write record of PARAM_LIST (R380). -/
structure WriteRec where
  id : BitVec 32
  gap : BitVec 32
  value : BitVec 64
  mask : BitVec 64
  deriving DecidableEq, Repr

/-- One record of a configuration image (R394). -/
structure CfgRec where
  id : BitVec 32
  rkind : BitVec 32
  value : BitVec 64
  deriving DecidableEq, Repr

/-- A configuration image read from host memory (R394, R397): whether its header, length and check word pass, and its
records. -/
structure CfgImage where
  headerOk : Bool
  lengthOk : Bool
  checkOk : Bool
  check : BitVec 32
  recs : List CfgRec
  deriving DecidableEq, Repr

/-- What the boot ROM reads at one entry of the flash directory (R253, R404): the first 64 bytes, whether the Falcon-1024 signature
verifies over the digest of the bytes before it, whether the GCM tag does, and the bytes that decryption gives. Of a key entry, `sigOk`
says that the digest of the key equals KEY_HASH of its slot (R405). -/
structure FlashImage where
  head : List Byte
  sigOk : Bool
  tagOk : Bool
  plain : List Byte
  deriving DecidableEq, Repr

/-- The records the Cabinet keeps in its main pool (R410). -/
inductive NvRecord where
  | board | cal | seeds | config
  deriving DecidableEq, Repr

/-- What one BOOT finds (R400–R411): the flash's 256 bytes at 0 and at 0x0001_0000, what the reads at the directory's entries 0 to 7
return, the self-test of identity generation with its comparison against the certificate, whether the main pool can be scanned, the
records of which no copy is current, and the inputs whose saved set fails its own check (R139). -/
structure BootInput where
  dir : List Byte
  dirCopy : List Byte
  images : List FlashImage
  idGenOk : Bool
  idMatches : Bool
  cabOk : Bool
  absent : List NvRecord
  savedBad : List Nat
  deriving DecidableEq, Repr

/-- The outcome of one estimator block of 4,096 ADC samples (R127), as the samples show it: its rms in 1/16 LSB, whether its power
hides the skew, and the raw estimate it yields for each sub-ADC (offset in 1/16 LSB, gain in 2^−20, skew in 1/256 ps). -/
structure EstBlock where
  rms : Nat
  skewBlind : Bool
  est : List (Int × Int × Int)
  deriving DecidableEq, Repr

/-- A DMA descriptor as it stands in host memory (R347): eight 64-bit words, word k at offset 8k. -/
structure Desc where
  w0 : BitVec 64
  w1 : BitVec 64
  w2 : BitVec 64
  w3 : BitVec 64
  w4 : BitVec 64
  w5 : BitVec 64
  w6 : BitVec 64
  w7 : BitVec 64
  deriving DecidableEq, Repr

/-- A board record read from host memory (R410, R416): the link table's 20 lane entries and four asymmetries, the flux
seed's 24 offsets, and whether each part's own check word passes. -/
structure BoardRec where
  lanes : List (BitVec 32)
  asym : List (BitVec 16)
  linkOk : Bool
  flux : List (BitVec 16)
  fluxOk : Bool
  deriving DecidableEq, Repr

/-- A BULK frame's payload (R286). -/
structure Bulk where
  chan : Fin 64
  dataLen : Nat
  last : Bool
  bseq : BitVec 16
  data : List (BitVec 8)
  deriving DecidableEq, Repr

/-- The eight bulk-port requesters (R362), in the order of their numbers. -/
inductive Requester where
  | dmaRead | dmaWrite | streamWriter | mgmt | scrubber | calEngine | linkMirror | debug
  deriving DecidableEq, Repr

/-- The register windows of a function (R335): BAR0 holds those of R17, BAR2 the MSI-X table and its pending bits. -/
inductive BarNo where
  | bar0 | bar2
  deriving DecidableEq, Repr

/-- A byte offset in a BAR. -/
structure BarAt where
  bar : BarNo
  off : BitVec 21
  deriving DecidableEq, Repr

/-- The commands, one constructor per row of spec/opcode_table.json: those with operands first, each part in the table's order. -/
inductive Instr where
  /-- SUPPLIES_LOST (R420): A rail stays below its valid threshold for more than 1 µs: converters power down, BIA outputs go to high impedance and any Cabinet write stops. -/
  | suppliesLost (aonLost : Bool)
  /-- BOOT_SEQUENCE (R400): The boot ROM and Llynlek verify, load, patch and mount in order and then leave BOOT for STANDBY or FALLBACK. -/
  | bootSequence (b : BootInput)
  /-- CLK_LOST (R26): REFCLK is lost or a synthesizer unlocks: CLK_LOST and GT_LOST are set, outputs are forced to zero and the mode reacts as R26 gives. -/
  | clkLost (src : ClockLoss)
  /-- ECC_UE (R16): An uncorrectable SRAM error sets ECC_UE and, in RUN for protected regions, invalidates the shot and moves the Crivon to HOLD. -/
  | eccUe (r : Region)
  /-- MODE_SET (R20): Command requesting a transition to a target mode at a GT, tested against the transition table and its leads. -/
  | modeSet (h : Cmd) (target : BitVec 4) (gt : BitVec 64)
  /-- EPOCH_PULSE (R36): An EPOCH pulse is sampled on REFCLK and, when armed, schedules a load; otherwise it is checked against EPOCH_PERIOD. -/
  | epochPulse (high : Bool)
  /-- EPOCH_ARM (R34): Write of 1 arms the next epoch load, accepted only in CONFIGURE, SYNCING and HOLD. -/
  | epochArm (h : Cmd) (value : Bool)
  /-- BEACON_TX (R270): A beacon frame is sent at its due tick with transmit stamps and echo fields. -/
  | beaconTx (lg : Fin 4) (gt : BitVec 64) (f : BitVec 8)
  /-- BEACON_RX (R39): A received beacon yields an exchange from which the follower computes round trip, delay and offset and updates its phase. -/
  | beaconRx (rx : Rx) (b : Beacon) (gt : BitVec 64) (f : BitVec 8)
  /-- BEACON_MISS (R49): No beacon arrives within 4,352 ticks, so GT_STATE becomes HOLDOVER; at the eighth miss GT is lost. -/
  | beaconMiss (lg : Fin 4)
  /-- SNAPSHOT_AT (R56): Command naming a future GT, scope and ID for a counter snapshot, tested in order and queued. -/
  | snapshotAt (h : Cmd) (gt : BitVec 64) (mesh : Bool) (id : BitVec 16)
  /-- SNAPSHOT_FRAME_RX (R57): A received mesh snapshot frame is queued and forwarded on the other active groups, or discarded as a duplicate. -/
  | snapshotFrameRx (rx : Rx) (gt : BitVec 64) (id : BitVec 16) (issuer : Fin 64)
  /-- CAL_SWITCH (R131): The latest complete interleave estimate is brought into force at GT n, or the switch ends with CAL_NOT_READY. -/
  | calSwitch (r : Fin 12)
  /-- SESSION_OPEN (R370): Command on a bootstrap mailbox that opens a session with its own CMD and RSP rings. -/
  | sessionOpen (h : Cmd)
  /-- SESSION_CLOSE (R371): Command that closes a session, freeing its rings, channels, streams and drawers. -/
  | sessionClose (h : Cmd) (ses : BitVec 10)
  /-- INFO (R375): Command that returns the serial, the versions and the mode. -/
  | info (h : Cmd)
  /-- RING_ALLOC (R375): Command that gives the session a COMPL, STREAM or LINK_RX ring. -/
  | ringAlloc (h : Cmd) (ty : BitVec 3)
  /-- RING_FREE (R376): Command that frees a ring the session holds unless it is in use. -/
  | ringFree (h : Cmd) (ring : BitVec 14)
  /-- DMA_ALLOC (R376): Command that gives the session a DMA channel with a submission ring and a completion ring. -/
  | dmaAlloc (h : Cmd) (ring : BitVec 14)
  /-- DMA_FREE (R376): Command that frees a DMA channel with no descriptor in flight. -/
  | dmaFree (h : Cmd) (ch : BitVec 6)
  /-- PARAM_GET (R378): Command that returns a parameter's value in force, or its pending value in a drawer; RC fields clear. -/
  | paramGet (h : Cmd) (id : BitVec 32) (drawer : BitVec 16)
  /-- PARAM_SET (R379): Command that writes the masked bits of a parameter, tested in the order of R464, or enters them into a drawer. -/
  | paramSet (h : Cmd) (id : BitVec 32) (value mask : BitVec 64) (drawer : BitVec 16)
  /-- PARAM_LIST (R380): Command that reads write records from host memory and applies all of them in one tick, or none. -/
  | paramList (h : Cmd) (count : BitVec 13) (drawer : BitVec 16) (recs : Option (List WriteRec))
  /-- DRAWER_OPEN (R385): Command that creates a drawer with a given ID. -/
  | drawerOpen (h : Cmd) (drawer : BitVec 16)
  /-- DRAWER_CLOSE (R388): Command that deletes a drawer with its entries and cancels its pending commit. -/
  | drawerClose (h : Cmd) (drawer : BitVec 16)
  /-- TXN_COMMIT (R387): Command that schedules a drawer commit at a named GT. -/
  | txnCommit (h : Cmd) (drawer : BitVec 16) (gt : BitVec 64)
  /-- GROUP_MODE (R382): Command that queries a group's mode or schedules its change. -/
  | groupMode (h : Cmd) (id : BitVec 32) (want : BitVec 2) (gt : BitVec 64)
  /-- CFG_SAVE (R396): Command that writes the configuration image to the Cabinet. -/
  | cfgSave (h : Cmd)
  /-- CFG_LOAD (R397): Command that loads a configuration image from the Cabinet or from host memory. -/
  | cfgLoad (h : Cmd) (host : Bool) (img : CfgImage)
  /-- ATTEST (R408): Command that writes a signed attestation report or the identity certificate to host memory. -/
  | attest (h : Cmd) (addr len flags : BitVec 64) (nonce : List (BitVec 64))
  /-- AUDIT_ACK (R392): Write of the count of audit entries the host has read. -/
  | auditAck (h : Cmd) (value : BitVec 48)
  /-- PLAY (R195): Sequencer instruction that posts a PLAY slot for its lane. -/
  | play (sq : Fin 64)
  /-- ACQ (R195): Sequencer instruction that posts an ACQ slot opening an integration window. -/
  | acq (sq : Fin 64)
  /-- FRM (R195): Sequencer instruction that posts a slot adding to or replacing a tone's frame. -/
  | frm (sq : Fin 64)
  /-- SETF (R195): Sequencer instruction that posts a slot setting a frequency word. -/
  | setf (sq : Fin 64)
  /-- SHOT (R203): Sequencer instruction that posts a SHOT slot and captures a checkpoint. -/
  | shot (sq : Fin 64)
  /-- MARK (R200): Sequencer instruction that posts a MARK pin action slot. -/
  | mark (sq : Fin 64)
  /-- POST (R201): Sequencer instruction that posts a slot raising a POST producer. -/
  | post (sq : Fin 64)
  /-- TXC (R201): Sequencer instruction that posts a slot committing a drawer. -/
  | txc (sq : Fin 64)
  /-- CALW (R202): Sequencer instruction that posts a slot declaring a DAC calibration gap. -/
  | calw (sq : Fin 64)
  /-- END (R203): Sequencer instruction that posts the END slot and stops issue. -/
  | endProg (sq : Fin 64)
  /-- NOP (R193): Sequencer instruction that does nothing for one tick. -/
  | nop (sq : Fin 64)
  /-- WAITT (R196): Sequencer instruction that moves the cursor to a base plus an offset. -/
  | waitt (sq : Fin 64)
  /-- WAITO (R197): Sequencer instruction that stalls until its selector names a fresh value. -/
  | waito (sq : Fin 64)
  /-- WAITO_RESUME (R197): A WAITO or BRO resumes the tick after its value becomes visible and fresh, advancing the cursor by WAITO_GAP. -/
  | waitoResume (sq : Fin 64)
  /-- WAITO_TIMEOUT (R198): No fresh value by WAITO_LIMIT: the shot being posted is invalidated and the instruction continues. -/
  | waitoTimeout (sq : Fin 64)
  /-- BRO (R228): Sequencer instruction that branches on an outcome or decision. -/
  | bro (sq : Fin 64)
  /-- LOOP (R199): Sequencer instruction that pushes a loop count. -/
  | loop (sq : Fin 64)
  /-- ENDL (R199): Sequencer instruction that decrements the loop count and repeats or pops. -/
  | endl (sq : Fin 64)
  /-- SQ_CALL (R199): Sequencer CALL that pushes a return address and jumps. -/
  | sqCall (sq : Fin 64)
  /-- SQ_RET (R199): Sequencer RET that pops the call stack. -/
  | sqRet (sq : Fin 64)
  /-- LDR (R199): Sequencer instruction that loads a register half. -/
  | ldr (sq : Fin 64)
  /-- ADDR (R199): Sequencer instruction that adds a signed immediate to a register. -/
  | addr (sq : Fin 64)
  /-- GETC (R199): Sequencer instruction that copies the cursor to a register. -/
  | getc (sq : Fin 64)
  /-- SLOT_COMMIT (R187): At n − 16, a lane latches its slot, reads the binding and chooses a late-bound alternative; a slot posted too late is LATE. -/
  | slotCommit (sq : Fin 64)
  /-- CHAIN_LATCH (R78): At B − 16, a shelf's NEXT successor is latched onto its lane. -/
  | chainLatch (t : Target)
  /-- JUMP_LATCH (R82): At the boundary's commit point, a pending jump is latched in place of the successor. -/
  | jumpLatch (t : Target)
  /-- SHELF_START (R77): At its start tick, a shelf begins to play on its lane. -/
  | shelfStart (t : Target)
  /-- SHELF_RELEASE (R74): 16 ticks after the last play interval ends, the shelf leaves ACTIVE for FILLING or VALID. -/
  | shelfRelease (shelf : Fin 8192)
  /-- WINDOW_OPEN (R124): An ACQ slot at its time opens an integration window on its channel, or refuses a third. -/
  | windowOpen (sq : Fin 64)
  /-- FRAME_UPDATE (R70): An FRM slot at its time adds to or replaces the tone frame. -/
  | frameUpdate (sq : Fin 64)
  /-- FREQUENCY_CHANGE (R68): A SETF slot at its time changes the word phase-continuously, or is refused as out of band. -/
  | frequencyChange (sq : Fin 64)
  /-- SHOT_BOUNDARY (R203): A SHOT slot executes: the shot in progress closes and is counted, a shot record is offered and a new shot opens. -/
  | shotBoundary (sq : Fin 64)
  /-- END_BOUNDARY (R203): An END slot executes: the shot closes, no shot opens and SQ_DONE is set. -/
  | endBoundary (sq : Fin 64)
  /-- MARK_ACTION (R200): A MARK slot drives, pulses or toggles its pin when it comes from the owner sequencer. -/
  | markAction (sq : Fin 64)
  /-- MARK_PULSE_END (R200): A MARK width pulse expires and the pin goes low. -/
  | markPulseEnd (pin : Fin 8)
  /-- POST_RAISE (R201): A POST slot raises its sequencer's event producer. -/
  | postRaise (sq : Fin 64)
  /-- TXC_COMMIT (R201): A TXC slot commits the named drawer in step 3 of R54. -/
  | txcCommit (sq : Fin 64)
  /-- CALW_GAP (R134): A taken window switches the port DAC to its sense load for 2,048 slot ticks. -/
  | calwGap (p : Port)
  /-- CALW_WINDOW_END (R136): A calibration window ends; the 16th window of a pass completes it, and the result is applied or DCAL_BAD is set. -/
  | calwWindowEnd (p : Port) (pass : Bool)
  /-- JUMP_SHELF (R82): Write requesting that a lane jump to a shelf at its next boundary. -/
  | jumpShelf (h : Cmd) (t : Target) (shelf : Fin 8192)
  /-- STOP (R83): Jump write that replaces the successor with nothing so the lane idles. -/
  | stopLane (h : Cmd) (t : Target)
  /-- BIA_STRING_UPDATE (R104): 100 ticks after a BIA commit, the new code enters the string. -/
  | biaStringUpdate (o : Fin 32)
  /-- SPAN_SWITCH (R105): At the end of the 0 V hold, the BIA span switches and the committed code enters the string. -/
  | spanSwitch (o : Fin 32)
  /-- FAULT_HOLD (R110): Write of 1 clearing FAULT_HOLD, which returns BIA outputs from their fault value to the value in force. -/
  | faultHold (fn : Fin 64)
  /-- BIAS_RECORD_WRITE (R111): Write of PU_CODE, PU_SPAN, FAULT_CODE or FAULT_SPAN that rewrites the bias record. -/
  | biasRecordWrite (h : Cmd) (o : Fin 32) (fault : Bool) (value mask : BitVec 64)
  /-- ESTIMATOR_BLOCK (R127): A block of 4,096 ADC samples completes and updates the interleave estimate, or is rejected. -/
  | estimatorBlock (r : Fin 12) (blk : EstBlock)
  /-- CAL_SWITCH_AT (R130): Write that schedules a read-out correction switch, or asks for one at the next tick. -/
  | calSwitchAt (h : Cmd) (r : Fin 12) (gt : BitVec 64)
  /-- CAL_SAVE (R140): Write of 1 that saves the applied calibration sets to the Cabinet. -/
  | calSave (h : Cmd) (value : Bool)
  /-- WINDOW_END (R145): At the end GT, a window's slot is freed and its accumulated value passes to the result stage. -/
  | windowEnd (e : Fin 24) (c : Fin 12) (w : Fin 2)
  /-- RESULT_ENTRY (R146): At m_last + 6, the window result enters the result queue and is offered to acquisition as a point. -/
  | resultEntry (e : Fin 24)
  /-- DXE_RUN (R174): Write that starts the engine at 0x000 or stops it. -/
  | dxeRun (h : Cmd) (e : Fin 24) (value : Bool)
  /-- DXE_MSG (R160): Write of a message that raises the HOST service request. -/
  | dxeMsg (h : Cmd) (e : Fin 24) (value : BitVec 64)
  /-- TICK_REQUEST (R160): A TICK service request becomes pending at each multiple of TICK_PERIOD. -/
  | tickRequest (e : Fin 24)
  /-- SERVICE_ACCEPT (R161): A pending unmasked service request is accepted and the handler starts. -/
  | serviceAccept (e : Fin 24)
  /-- DXE_NOP (R176): DXE instruction with no operation. -/
  | dxeNop (e : Fin 24)
  /-- LD (R153): DXE instruction that loads a word through a circular buffer. -/
  | ld (e : Fin 24)
  /-- LD2 (R153): DXE instruction that loads two words through a circular buffer. -/
  | ld2 (e : Fin 24)
  /-- ST (R176): DXE instruction that stores a word through a circular buffer. -/
  | st (e : Fin 24)
  /-- LDI (R176): DXE instruction that loads a sign-extended immediate. -/
  | ldi (e : Fin 24)
  /-- LDIH (R176): DXE instruction that loads the high word of a register. -/
  | ldih (e : Fin 24)
  /-- MOV (R176): DXE instruction that copies a register. -/
  | mov (e : Fin 24)
  /-- ADD (R176): DXE instruction that adds registers and sets flags. -/
  | add (e : Fin 24)
  /-- SUB (R176): DXE instruction that subtracts registers and sets flags. -/
  | sub (e : Fin 24)
  /-- ADDI (R176): DXE instruction that adds an immediate and sets flags. -/
  | addi (e : Fin 24)
  /-- AND (R176): DXE bitwise AND instruction. -/
  | and (e : Fin 24)
  /-- OR (R176): DXE bitwise OR instruction. -/
  | or (e : Fin 24)
  /-- XOR (R176): DXE bitwise XOR instruction. -/
  | xor (e : Fin 24)
  /-- SHA (R176): DXE arithmetic shift instruction. -/
  | sha (e : Fin 24)
  /-- MUL (R176): DXE signed 32-bit multiply instruction. -/
  | mul (e : Fin 24)
  /-- CMP (R176): DXE instruction that sets flags from a register difference. -/
  | cmp (e : Fin 24)
  /-- CMPI (R176): DXE instruction that sets flags from a register minus an immediate. -/
  | cmpi (e : Fin 24)
  /-- SAT (R176): DXE instruction that clamps a register. -/
  | sat (e : Fin 24)
  /-- MAC (R176): DXE multiply-accumulate instruction. -/
  | mac (e : Fin 24)
  /-- CMAC (R176): DXE complex multiply-accumulate instruction. -/
  | cmac (e : Fin 24)
  /-- ACLR (R176): DXE instruction that clears accumulators. -/
  | aclr (e : Fin 24)
  /-- AMOV (R176): DXE instruction that moves a shifted accumulator to a register. -/
  | amov (e : Fin 24)
  /-- POPR (R164): DXE instruction that pops the head of the result queue into CUR. -/
  | popr (e : Fin 24)
  /-- RDCUR (R164): DXE instruction that reads the description of CUR. -/
  | rdcur (e : Fin 24)
  /-- CLS (R165): DXE instruction that classifies a point with a classifier entry. -/
  | cls (e : Fin 24)
  /-- OUTC (R167): DXE instruction that posts an outcome to the outcome bus, or discards it. -/
  | outc (e : Fin 24)
  /-- TRKW (R168): DXE instruction that requests a tracking write through a loop slot. -/
  | trkw (e : Fin 24)
  /-- GETM (R176): DXE instruction that reads DXE_MSG. -/
  | getm (e : Fin 24)
  /-- RDGT (R176): DXE instruction that reads GT. -/
  | rdgt (e : Fin 24)
  /-- SETB (R154): DXE instruction that sets a circular buffer's base and length. -/
  | setb (e : Fin 24)
  /-- SETP (R153): DXE instruction that sets a buffer pointer. -/
  | setp (e : Fin 24)
  /-- GETP (R153): DXE instruction that reads a buffer pointer. -/
  | getp (e : Fin 24)
  /-- B (R158): DXE conditional branch with two delay slots. -/
  | branch (e : Fin 24)
  /-- DXE_CALL (R158): DXE CALL that saves the return address in LK. -/
  | dxeCall (e : Fin 24)
  /-- DXE_RET (R158): DXE RET that jumps to LK. -/
  | dxeRet (e : Fin 24)
  /-- RTS (R176): DXE instruction that returns from a service handler and restores the flags. -/
  | rts (e : Fin 24)
  /-- RPT (R159): DXE instruction that repeats a block a counted number of times. -/
  | rpt (e : Fin 24)
  /-- RPTR (R159): DXE repeat instruction whose count comes from a register. -/
  | rptr (e : Fin 24)
  /-- SETM (R176): DXE instruction that sets the service mask. -/
  | setm (e : Fin 24)
  /-- IDLE (R161): DXE instruction that stops issue until a request is accepted. -/
  | idle (e : Fin 24)
  /-- HALT (R174): DXE instruction that stops the engine and sets HALTED. -/
  | halt (e : Fin 24)
  /-- SEED_SAVE (R172): Write of 1 that saves all DXE seed areas to the Cabinet. -/
  | seedSave (h : Cmd) (e : Fin 24) (value : Bool)
  /-- OUTCOME_VISIBLE (R216): At o + 5, an outcome record becomes visible in its register, enters share queues and is offered to acquisition. -/
  | outcomeVisible (e : Fin 24)
  /-- DECISION_READ (R222): The tick after a source update or commit, a decision unit reads its sources and entry. -/
  | decisionRead (d : Fin 64)
  /-- DECISION_VISIBLE (R222): Five ticks after the read, the decision becomes visible and may raise the unit's producer. -/
  | decisionVisible (d : Fin 64)
  /-- OUTCOME_FRAME_TX (R274): At a period boundary, a group sends an outcome frame of up to 8 queued records. -/
  | outcomeFrameTx (lg : Fin 4)
  /-- OUTCOME_FRAME_RX (R271): A received outcome frame's records are applied to remote registers and forwarded. -/
  | outcomeFrameRx (rx : Rx) (recs : List (BitVec 64))
  /-- LANE_ALIGN (R262): An aligning lane becomes ALIGNED after four clean commas. -/
  | laneAlign (l : Fin 16)
  /-- LANE_ALIGN_LOSS (R262): The fourth code error in 256 characters returns a lane to ALIGNING. -/
  | laneAlignLoss (l : LaneLoss)
  /-- GROUP_UP (R263): After 1,024 clean ticks, a training group becomes ACTIVE or STANDBY. -/
  | groupUp (lg : Fin 4) (skew : GroupFound)
  /-- GROUP_FAIL (R264): An active or standby group fails and goes DOWN or starts a switch-over. -/
  | groupFail (lg : Fin 4)
  /-- CK_LOSS (R264): A clock lane shows no edge for 16 ticks and CK_PRESENT clears. -/
  | ckLoss (lg : Fin 4)
  /-- BUF_SLIP (R260): A receive buffer slips because the two ends run at different frequencies. -/
  | bufSlip (lg : Fin 4)
  /-- DOWN_HOLD_END (R263): 1,024 ticks after going DOWN, a group returns to TRAINING. -/
  | downHoldEnd (lg : Fin 4)
  /-- SWITCH_NOW (R283): Write of 1 that starts a commanded switch-over of a pair. -/
  | switchNow (h : Cmd) (lg : Fin 4) (value : Bool)
  /-- SWITCH (R283): A received SWITCH control frame starts a switch-over on the receiving node. -/
  | switchFrame (rx : Rx) (c : Ctl)
  /-- SWITCH_GAP_END (R284): The switch-over gap ends: the partner goes ACTIVE or DOWN and the held records are applied. -/
  | switchGapEnd (lg : Fin 4) (healthy : Bool)
  /-- JOIN_REQ (R277): A received JOIN_REQ is answered by the authority with JOIN_ACK or JOIN_NAK. -/
  | joinReq (rx : Rx) (c : Ctl)
  /-- JOIN_ACK (R277): A received JOIN_ACK gives the node its ID and updates NODE_MAP. -/
  | joinAck (rx : Rx) (c : Ctl)
  /-- JOIN_NAK (R277): A received JOIN_NAK sets JOIN_STATUS to MESH_FULL or ID_TAKEN. -/
  | joinNak (rx : Rx) (c : Ctl)
  /-- LEAVE_FRAME (R279): A received LEAVE frees the ID and makes its subscribed registers STALE. -/
  | leaveFrame (rx : Rx) (c : Ctl)
  /-- TRIG_ARM (R306): A received TRIG_ARM arms or disarms the node's mesh trigger unit. -/
  | trigArm (rx : Rx) (c : Ctl)
  /-- TRIG_FIRE (R307): A received TRIG_FIRE becomes a fire candidate, or is counted as late. -/
  | trigFire (rx : Rx) (c : Ctl)
  /-- JOIN (R276): Write of 1 that sends a JOIN_REQ. -/
  | join (h : Cmd) (value : Bool)
  /-- LEAVE (R279): Write of 1 that sends LEAVE and gives up the node's ID. -/
  | leave (h : Cmd) (value : Bool)
  /-- BULK_FRAME_TX (R286): At a free period boundary, a group sends a BULK frame. -/
  | bulkFrameTx (lg : Fin 4)
  /-- BULK_FRAME_RX (R287): A received BULK frame is accepted in sequence into a LINK_RX ring, or discarded, and then acknowledged. -/
  | bulkFrameRx (rx : Rx) (b : Bulk)
  /-- BULK_ACK (R288): A received BULK_ACK advances the sender's unacknowledged window. -/
  | bulkAck (rx : Rx) (chan : Fin 64) (next : BitVec 16)
  /-- BULK_RESEND (R288): After 4,096 ticks without progress, or at the end of a gap, the sender resends unacknowledged frames. -/
  | bulkResend (lg : Fin 4) (chan : Fin 64)
  /-- OUT_TEST_REC (R292): Write in BENCH that queues a test outcome record on the shared groups. -/
  | outTestRec (h : Cmd) (rec : BitVec 64)
  /-- EDGE_STAMP (R300): A selected TRIG edge is stamped, sets the trigger word bit, raises its producer and offers an EDGE record. -/
  | edgeStamp (p : Fin 4) (falling : Bool) (gt : BitVec 64) (f : BitVec 8)
  /-- SETTLE_EXPIRY (R307): At ⌊F₁⌋ + SETTLE, a mesh unit decides the winning candidate. -/
  | settleExpiry (t : Fin 8)
  /-- TU_REARM (R305): With AUTO, the unit re-arms HOLDOFF + 1 ticks after the decision. -/
  | tuRearm (t : Fin 8)
  /-- TU_ARM (R304): At the named GT, the scheduled arm of a trigger unit takes effect. -/
  | tuArm (t : Fin 8)
  /-- ARM_AT (R304): Write that schedules the arming of a trigger unit. -/
  | armAt (h : Cmd) (t : Fin 8) (gt : BitVec 64)
  /-- DISARM (R304): Write of 1 that returns a trigger unit to IDLE. -/
  | disarm (h : Cmd) (t : Fin 8) (value : Bool)
  /-- STREAM_EN (R312): Write that enables a stream after its ring, buffer and budget tests, or disables it. -/
  | streamEn (h : Cmd) (k : Fin 16) (value : Bool)
  /-- STREAM_RECORD_WRITE (R343): The stream writer writes a record into its ring when the ring has room, then advances PIDX. -/
  | streamRecordWrite (k : Fin 16)
  /-- GAP_RECORD (R314): When room returns after a loss, the stream writes one GAP record. -/
  | gapRecord (k : Fin 16)
  /-- EVENT_DELIVER (R317): A raised producer reaches an enabled channel's consumer input after 1 + RESYNC ticks. -/
  | eventDeliver (c : Fin 128)
  /-- MARK_EVENT_PULSE_END (R324): The event-driven MARK pulse width expires and the pin goes low. -/
  | markEventPulseEnd (pin : Fin 8)
  /-- SW_FIRE (R322): Write that raises software producers. -/
  | swFire (h : Cmd) (value : BitVec 16)
  /-- LOCK (R327): Write of 1 that locks an event channel until RESET. -/
  | lock (h : Cmd) (c : Fin 128) (value : Bool)
  /-- MARK_SRC_CHANGE (R324): A change of MARK_SRC moves a MARK pin between sequencer and event control. -/
  | markSrcChange (h : Cmd) (pin : Fin 8) (value : Bool)
  /-- DOORBELL (R344): Host write to a ring's doorbell that advances its index and may arm its interrupt. -/
  | doorbell (fn : Fin 64) (ring : Fin 16384) (value : BitVec 32)
  /-- RING_RUN (R342): Write of RING_RUN that starts a ring and resets its indexes, or stops it. -/
  | ringRun (fn : Fin 64) (ring : Fin 16384) (value : Bool)
  /-- REGISTER_WRITE (R10): Write to a BAR0 register or field that has no row of its own, such as a W1C flag clear. -/
  | registerWrite (fn : Fin 64) (off : BarAt) (size : Nat) (value : BitVec 64)
  /-- FUNCTION_LEVEL_RESET (R334): A Function Level Reset closes the sessions, rings, channels and streams of its function. -/
  | functionLevelReset (fn : Fin 64)
  /-- BOOTSTRAP_RING_RESTORE (R369): Within 100 µs after a Function Level Reset, Llynlek restores the function's bootstrap rings. -/
  | bootstrapRingRestore (fn : Fin 64)
  /-- DESCRIPTOR_FETCH (R350): A DMA channel fetches a descriptor from its submission ring. -/
  | descriptorFetch (ch : Fin 64) (d : Desc)
  /-- DESCRIPTOR_START (R348): A descriptor at the channel head starts, or completes at once with BAD_DESC. -/
  | descriptorStart (ch : Fin 64)
  /-- DMA_BURST (R351): The engine issues one burst of up to 512 B for a channel in its class round. -/
  | dmaBurst (ch : Fin 64)
  /-- HOST_READ_COMPLETION (R332): Host read data, or a completion error, arrives for a DMA read. -/
  | hostReadCompletion (ch : Fin 64) (r : HostRead)
  /-- DESCRIPTOR_COMPLETE (R358): A descriptor completes with a status, may mark its shelf VALID and forms its completion record. -/
  | descriptorComplete (ch : Fin 64)
  /-- COMPLETION_RECORD_WRITE (R360): A held completion record is written once its ring has room. -/
  | completionRecordWrite (ch : Fin 64)
  /-- CH_RESUME (R361): Write of 1 that resumes a halted DMA channel. -/
  | chResume (h : Cmd) (ch : Fin 64) (value : Bool)
  /-- CH_ABORT (R361): Write of 1 that completes every fetched descriptor of a channel with ABORTED. -/
  | chAbort (h : Cmd) (ch : Fin 64) (value : Bool)
  /-- COAL_TIME_EXPIRY (R345): COAL_TIME µs after the first uncovered entry, an armed ring sends its vector. -/
  | coalTimeExpiry (ring : Fin 16384)
  /-- BULK_PORT_DECISION (R362): The arbiter grants the bulk port to the highest-scoring requester. -/
  | bulkPortDecision (raised : List (Requester × BitVec 64)) (masked : List Requester)
  /-- ECC_CE_TRAP (R248): A correctable error in a replica word traps, rewrites the word and resumes. -/
  | eccCeTrap (sq : Fin 64) (ticks : Nat)
  /-- ECC_UE_TRAP (R248): An uncorrectable error in a replica word traps and stops the engine. -/
  | eccUeTrap (sq : Fin 64)
  /-- PEEK_TRAP (R256): A PEEK trap copies micro-state for a read of an issuing engine. -/
  | peekTrap (sq : Fin 64) (ticks : Nat)
  /-- STORE_REPAIR (R251): After an ECC_UE trap, the replica word is rewritten from the store, or STORE_BAD is raised. -/
  | storeRepair (replica : Fin 4) (regionBad : Bool)
  /-- THERMAL_SAMPLE (R423): All nine sensors are sampled, TJ_MAX is formed and every threshold is tested. -/
  | thermalSample (raw : List Int)
  /-- REFCOMP (R436): Write that switches the GQ064 compensation on or off, in STANDBY and CONFIGURE only. -/
  | refcomp (h : Cmd) (value : Bool)
  /-- SUMMARY_WRITE (R413): A pending main-pool record write starts once its spacing, credit and temperature allow, and completes. -/
  | summaryWrite (failed : List Nat)
  /-- BIAS_WRITE (R412): A bias record write to the next ring block starts at least 60 s after the previous one. -/
  | biasWrite (failed : Bool)
  /-- WEAR_MOVE (R415): Llynlek moves the least-written record block to the most-worn free block. -/
  | wearMove (failed : Bool)
  /-- BOARD_WRITE (R416): Write of 1 in BENCH that reads a board record from host memory and queues it. -/
  | boardWrite (h : Cmd) (value : Bool) (rec : Option BoardRec)
  /-- SVN_ADVANCE (R418): Write of 1 that raises SVN_MIN to the Llynlek SVN. -/
  | svnAdvance (h : Cmd) (value : Bool)
  /-- KEY_REVOKE (R418): Write that revokes key slots in the fuses. -/
  | keyRevoke (h : Cmd) (slots : BitVec 4)
  /-- SMB_WRITE_ALERT_EN (R462): SMBus write of ALERT_EN. -/
  | smbWriteAlertEn (value : BitVec 8) (pec : Option Bool)
  /-- SMB_CLEAR_ALERT_STAT (R462): SMBus write that clears ALERT_STAT bits. -/
  | smbClearAlertStat (value : BitVec 8) (pec : Option Bool)
  /-- EXTEST (R463): JTAG EXTEST on the boundary register, only while RESET_N is low. -/
  | extest (cells : BitVec 65)
  /-- SAMPLE_PRELOAD (R463): JTAG SAMPLE/PRELOAD of the boundary register. -/
  | samplePreload (cells : BitVec 65)
  /-- DBG_BULK (R463): JTAG DBG_BULK selects the 128-bit debug register in BENCH. -/
  | dbgBulk (value : BitVec 128)
  /-- BYPASS (R463): JTAG BYPASS, also taken for every unlisted code. -/
  | bypass (code : BitVec 8)
  /-- INTEGRATOR_LEN_ZERO (R155): A sample of an open window that finds LEN_c at 0 adds nothing and, while DXE_RUN is 1, raises the DXE fault LEN_ZERO. -/
  | integratorLenZero (e : Fin 24) (c : Fin 12)
  /-- FRAME_DISCARD (R268): A received frame with a malformed start column, a reserved type or length, or a bad CRC is discarded and counted, and a fourth CRC failure within 1,024 ticks fails the group. -/
  | frameDiscard (lg : Fin 4) (why : FrameBad)
  /-- CODE_ERROR (R259): A lane receives an invalid code group, an unused control character or a disparity error, which is counted in CODE_ERR_COUNT or DISP_ERR_COUNT. -/
  | codeError (l : Fin 16) (why : CodeErr)
  /-- PRBS_ERROR (R291): A lane checking a PRBS pattern in BENCH finds a bit error and counts it in PRBS_ERR_COUNT. -/
  | prbsError (l : Fin 16)
  /-- TIMING_FRAME_TX (R274): A waiting snapshot or control frame (JOIN, LEAVE, SWITCH, TRIG_ARM, TRIG_FIRE or a forwarded copy) starts on a group at the first column the timing rule allows. -/
  | timingFrameTx (lg : Fin 4)
  /-- TRANSMITTER_READY (R289): Within 2,000 ticks of being woken, a lane transmitter is ready to send and TX_UP can become 1. -/
  | transmitterReady (lane : Fin 20)
  /-- CLOCK_LANE_RETURN (R263): Edges return on a group's clock lane, so CK_PRESENT becomes 1 again and the group can train. -/
  | clockLaneReturn (lg : Fin 4)
  /-- BAR_BAD_READ (R333): A BAR read of a size or alignment other than 4 or 8 B completes with zero data and increments BAR_BAD_ACCESS. -/
  | barBadRead (fn : Fin 64) (off : BarAt) (size : Nat)
  /-- PCIE_LINK_CHANGE (R331): The PCI Express link trains up or goes down, which changes LINK_SPEED and LINK_WIDTH. -/
  | pcieLinkChange (speed width : BitVec 3)
  /-- TRIG_PIN_CHANGE (R301): A TRIG pin changes level without a stamped edge, either because the edge is not selected or because it falls within 4 ticks of the last stamp, so the level bits of the trigger word change and a missed edge is counted in EDGE_MISS_COUNT. -/
  | trigPinChange (p : Fin 4) (level : Bool) (selected : Bool)
  /-- CORRECTABLE_ERROR (R16): A correctable SRAM error is corrected on read, written back by the scrubber and counted. -/
  | correctableError (r : Region)
  /-- DXE_ILLEGAL_OP (R176): A DXE engine issues an undefined opcode, or is due to issue from address 4,096, and faults with ILLEGAL_OP or PC_RANGE. -/
  | dxeIllegalOp (e : Fin 24)
  /-- SQ_ILLEGAL_OP (R193): A sequencer issues an undefined opcode or a stray EXT, or reaches address 8,192, and faults. -/
  | sqIllegalOp (sq : Fin 64)
  /-- SUPPLIES_VALID (R419): Every rail has stayed above its valid threshold for 50 µs, so the Crivon enters RESET and its outputs leave their unpowered holds. -/
  | suppliesValid
  /-- BIAS_LOADER (R107): 16–20 µs after supplies valid, the hardware loader drives each BIA output at its power-up code and span from the bias record. -/
  | biasLoader
  /-- RESET_N_LOW (R459): The RESET_N filter declares a low and the Crivon enters RESET; a RESET with supplies valid also re-reads the bias record. -/
  | resetNLow
  /-- PE_PERST_N_LOW (R459): PE_PERST_N low takes the PCI Express link down and acts as a Function Level Reset of the PF. -/
  | pePerstNLow
  /-- BOOT_ENTRY (R20): With RESET_N high, REFCLK present, the fabric PLL locked and 20 µs elapsed since supplies valid, the Crivon enters BOOT and GT starts from 0. -/
  | bootEntry
  /-- FORCED_ZERO_END (R26): After 10 µs of stable REFCLK and lock, the forced zero ends, outputs take their mode state and every tone and channel makes a coherent load. -/
  | forcedZeroEnd
  /-- TRANSITION_COMPLETE (R20): A transition that waits for synthesizer lock, converter power or bench paths completes when they are done. -/
  | transitionComplete
  /-- RUN_START (R208): At the named RUN GT, the Crivon enters RUN; at acceptance of the MODE_SET, enabled sequencers start issuing toward it. -/
  | runStart
  /-- CALIBRATE_PASS_END (R137): The CALIBRATE pass ends or fails at the end of the current CALW window, and the Crivon returns to CONFIGURE. -/
  | calibratePassEnd
  /-- SYNC_TIMEOUT (R35): SYNCING does not align within SYNC_TIMEOUT, so SYNC_TIMEOUT is set and the Crivon returns to CONFIGURE. -/
  | syncTimeout
  /-- EPOCH_LOAD (R33): 8 ticks after the sampling edge, GT is loaded with EPOCH_GT; this GT step cancels every pending scheduled action. -/
  | epochLoad
  /-- SNAPSHOT_LATCH (R59): At the named tick, all counters are latched into the hidden latch array and a bank is given. -/
  | snapshotLatch
  /-- SNAPSHOT_BANK_COPY (R59): A latch's copy into its bank completes, setting VALID and SNAP_SEQ. -/
  | snapshotBankCopy
  /-- DRAWER_COMMIT (R387): A drawer's entries are applied in one tick at GT n, or refused as a whole. -/
  | drawerCommit
  /-- GROUP_MODE_CHANGE (R382): At its tick, a parameter group switches between COMMIT and ADAPT. -/
  | groupModeChange
  /-- AUDIT_TIME_ENTRY (R391): After 2^46 ticks with no audit entry, Llynlek appends a TIME entry. -/
  | auditTimeEntry
  /-- PERIODIC_CAL_SAVE (R140): Every SAVE_PERIOD seconds the calibration sets are saved, or the save is skipped with SAVE_FAILED. -/
  | periodicCalSave
  /-- TRACKING_WRITE_APPLY (R170): An accepted tracking write takes effect at a shot boundary or at issue + 4. -/
  | trackingWriteApply
  /-- JOIN_RETRY (R276): Every 100,000 ticks an unanswered node resends JOIN_REQ; after 1,000,000 ticks it reports NO_AUTHORITY. -/
  | joinRetry
  /-- CHAN_BLOCK (R299): Every 1,024 ticks, a block of channel samples is offered to the CHAN streams. -/
  | chanBlock
  /-- RAW_BLOCK (R299): Every 256 ticks, a block of ADC samples is offered to the RAW streams. -/
  | rawBlock
  /-- TJ_WARN_CLEAR (R428): TJ_WARN clears after 10 ms below 92 °C. -/
  | tjWarnClear
  /-- THROTTLE_FALL (R429): After a 10 ms dwell below the fall threshold, THR_LEVEL falls by one. -/
  | throttleFall
  /-- THROTTLE_HOLD_END (R430): The 100 ms hold after a sensor failure ends and a waiting fall may take place. -/
  | throttleHoldEnd
  /-- NV_WINDOW_SET (R431): NV_WINDOW is set again after 10 ms within 5–95 °C. -/
  | nvWindowSet
  /-- SENSE_RATE_RETURN (R423): Sampling returns to 1 kHz after 10 ms away from the edges. -/
  | senseRateReturn
  /-- REFCOMP_UPDATE (R436): Every 100 ms the bias compensation factor is recomputed and applied at a shot boundary. -/
  | refcompUpdate
  /-- TELEMETRY_PERIODIC (R437): Every TELEM_PERIOD ms a telemetry record is written. -/
  | telemetryPeriodic
  /-- CREDIT_TICK (R413): Every 10 s CREDIT rises by one, up to 1,024. -/
  | creditTick
  /-- SMB_READ_MODE (R462): SMBus command 0x00 returns MODE and PREV_MODE. -/
  | smbReadMode
  /-- SMB_READ_BOOT_STATUS (R462): SMBus command 0x01 returns the boot cause and status bits. -/
  | smbReadBootStatus
  /-- SMB_READ_TJ (R462): SMBus command 0x02 returns TJ_MAX and THR_LEVEL. -/
  | smbReadTj
  /-- SMB_READ_SENSOR_FAILED (R462): SMBus command 0x03 returns SENSOR_FAILED. -/
  | smbReadSensorFailed
  /-- SMB_READ_DEVICE_SERIAL (R462): SMBus command 0x04 block-reads DEVICE_SERIAL. -/
  | smbReadDeviceSerial
  /-- SMB_READ_ALERT_EN (R462): SMBus read of ALERT_EN. -/
  | smbReadAlertEn
  /-- SMB_READ_ALERT_STAT (R462): SMBus read of ALERT_STAT. -/
  | smbReadAlertStat
  /-- ALERT_RESPONSE (R461): An Alert Response Address read returns the address and releases SMB_ALERT_N. -/
  | alertResponse
  /-- CLAMP (R463): JTAG CLAMP, only while RESET_N is low. -/
  | clamp
  /-- HIGHZ (R463): JTAG HIGHZ, only while RESET_N is low. -/
  | highz
  /-- DBG_BULK_GO (R463): GO requests one 8-byte bulk-port transfer as requester debug. -/
  | dbgBulkGo
  /-- IDCODE (R463): JTAG IDCODE returns 0x0025_6A4B. -/
  | idcode
  /-- BENCH_PERIOD_TOGGLE (R28): In BENCH, at every GT multiple of BENCH_PERIOD the SQUARE flux output changes level and the toggling MARK pins change state. -/
  | benchPeriodToggle
  /-- PE_PERST_N_HIGH (R459): PE_PERST_N goes high again, so the PCI Express link may train. -/
  | pePerstNHigh
  /-- MODE_TRANSITION_AT_GT (R207): A commanded HOLD or READY takes effect at its named GT when SQ_PACER is not enabled, or its END executed before that GT. -/
  | modeTransitionAtGt
  deriving DecidableEq, Repr

end Sys2Proof
end

