-- ==== Sys2Proof/Decode.lean ====
section
/-!
DEFINITION. Decoding. No row of spec/opcode_table.json gives bits: every command arrives from outside the block, or from one
of its own engines, with its operands. The words of the sequencers and of the discrimination engines, which the spec does
encode, are read by Machine/SqWord.lean and Machine/DxeWord.lean.
-/

namespace Sys2Proof

/-- The command a word spells by the table's bits: none, since no row of the table gives bits. -/
def decodeTableWord (nbits w : Nat) : Option Instr :=
  match nbits, w with
  | _, _ => none

end Sys2Proof
end

