-- ==== Sys2Proof/Config.lean ====
section
/-!
DEFINITION. What one Crivon fixes and the spec leaves open: free values (constants with no body, so that nothing is provable
of them), and the identity of the part. Each is named in an entry of the assumption log.
-/

namespace Sys2Proof

/-- The free value drawn with a counter: a value the spec leaves open. -/
opaque Config.freeNat : Nat → Nat

/-- The code that an input's ADC gives for what its pin receives, in the low 12 bits: input, tick count at which it leaves the ADC,
sample of the tick, and RIN_FINE, which shifts the instant it represents (R118). What the cryostat returns is outside the Crivon. -/
opaque Config.adcSample : (r clk k fine : Nat) → Nat

/-- The taps of a channel's filter, over the 384 corrected samples of 32 ticks, oldest first (R116, R118, R132). The spec gives the
filter's mask and not its taps. -/
opaque Config.chTap : Nat → Rat

/-- The taps of the fractional delay that takes a sub-ADC's skew off, over 17 samples about the sample (R118, R128). -/
opaque Config.delayTap : (skew : Int) → (tap : Nat) → Rat

/-- The gain of the internal path from a PRB port to its input, held to −20 dB ± 1 dB where it is used (R141, R455). -/
opaque Config.loopGain : (r : Nat) → Rat

/-- The 60 data bytes of a RIN set that holds eight words, the 252 of a port's factory set, and the 252 of a port's set from the pass
that completed at a tick count (R138). The spec gives their lengths and not their layouts. -/
opaque Config.rinSetByte : (words : List Nat) → (k : Nat) → Byte
opaque Config.dacFactoryByte : (port k : Nat) → Byte
opaque Config.dacPassByte : (port clk k : Nat) → Byte

/-- The taps of the 32-tap polyphase filter of R79, for N from 1 to 7 and 2 GS/s (rate 0): rate, phase within the sample period in
1/24 tick, tap. The spec gives the filter's bands and not its taps. -/
opaque Config.polyTap : (rate phase tap : Nat) → Rat

/-- How the estimator rounds a mean that is no whole number of field units (R128): true rounds up. The spec gives none. -/
opaque Config.roundUp : (sum : Int) → (n : Nat) → Bool

/-- What a trap's service routine leaves in µPC (less 0x0100, modulo 256), LC0, LC1 and the micro-flags (items 0 to 3), engine and tick
count of the trap (R248, R249). The routine comes from the base image and is not followed. -/
opaque Config.serviceState : (engine item clk : Nat) → Nat

/-- C and V after an ALU operation other than a sum or a difference, C counted as bit 0 and V as bit 1, and C after a difference, which
the spec does not define (R242, R245): operation, A, B. -/
opaque Config.aluFlags : (op a b : Nat) → Nat

/-- What the top of an empty loop or call stack reads as (R245). -/
opaque Config.emptyTop : Nat

/-- The numbers of the sequencer counters for DEST 12 (R245): the spec numbers none. -/
opaque Config.counterNo : Nat → Nat

/-- Ticks less one that the service routine of a PEEK trap takes, modulo 8 (R248): engine, tick count. -/
opaque Config.peekTicks : (engine clk : Nat) → Nat

/-- What an attestation report holds that the spec leaves to the part (R407–R409): the digest that the signature of Llynlek
covers, the digest of the control store's bytes, and the identity key's signature over a report, drawn with a counter. -/
opaque Config.llynDigest : Nat → Byte
opaque Config.storeDigest : List Byte → Nat → Byte
opaque Config.signature : (n : Nat) → List Byte → Nat → Byte

/-- The bytes of the identity certificate from offset 8 on: issuing slot, public key and signature (R407). -/
opaque Config.certificate : Nat → Byte

/-- The levels that the board ties SMB_ADDR0 and SMB_ADDR1 to, as bits 0 and 1 (R461). -/
opaque Config.smbAddr : Fin 4

/-- The half of the first SQUARE period in BENCH: true starts above FLX_OFFSET (R28). The spec gives none. -/
opaque Config.squareHigh : Bool

/-- DEVICE_SERIAL, a fuse value (R407, R462). -/
opaque Config.deviceSerial : Nat

end Sys2Proof
end

