-- ==== Sys2Proof/Machine/Fields.lean ====
section
/-!
DEFINITION. Every parameter field of the spec's parameter tables: its parameter ID (R6), its lowest bit and width (R7) and
its reset value. Each definition follows the table of the rule named before it. A field whose reset value the spec takes from
the Cabinet, the fuses or the board table has 0 here; BOOT, the bias loader or State.reset gives it its value.
-/

namespace Sys2Proof.Machine

/-- One field of a parameter, or of a host window: where it lies and what it holds at reset. -/
structure Field where
  id : Nat
  lo : Nat
  w : Nat
  rst : Nat
  deriving DecidableEq, Repr

/-- The parameter ID of an item (R6): block code, which port or engine, item. -/
def pid (blk i item : Nat) : Nat := blk * 2 ^ 24 + i * 2 ^ 12 + item

namespace P

/-! R28 -/
def sysBenchDac : Field := ⟨pid 18 16 0x0, 0, 2, 0⟩
def sysBenchFlx : Field := ⟨pid 18 16 0x0, 4, 2, 0⟩
def sysBenchMark : Field := ⟨pid 18 16 0x0, 8, 2, 0⟩
def sysBenchFlxAmp : Field := ⟨pid 18 16 0x1, 0, 16, 0⟩
def sysBenchPeriod : Field := ⟨pid 18 16 0x2, 0, 24, 1000⟩
/-! R61 -/
def tlTlSource : Field := ⟨pid 1 0 0x0, 0, 2, 0⟩
def tlTlRefSel : Field := ⟨pid 1 0 0x1, 0, 1, 0⟩
def tlTlUplink : Field := ⟨pid 1 0 0x2, 0, 2, 0⟩
def tlEpochGt : Field := ⟨pid 1 0 0x3, 0, 64, 0⟩
def tlEpochArm : Field := ⟨pid 1 0 0x4, 0, 1, 0⟩
def tlEpochArmed : Field := ⟨pid 1 0 0x4, 1, 1, 0⟩
def tlEpochSkew : Field := ⟨pid 1 0 0x5, 0, 9, 0⟩
def tlEpochPeriod : Field := ⟨pid 1 0 0x6, 0, 32, 0⟩
def tlSyncTimeout : Field := ⟨pid 1 0 0x7, 0, 32, 100000⟩
def tlGtNow : Field := ⟨pid 1 0 0x10, 0, 64, 0⟩
def tlGtState : Field := ⟨pid 1 0 0x11, 0, 3, 0⟩
def tlTlDepth : Field := ⟨pid 1 0 0x11, 4, 3, 0⟩
def tlMasterNode : Field := ⟨pid 1 0 0x11, 8, 6, 0⟩
def tlTlPhase : Field := ⟨pid 1 0 0x12, 0, 9, 0⟩
def tlTlOffsetEst : Field := ⟨pid 1 0 0x13, 0, 16, 0⟩
def tlSnapPending : Field := ⟨pid 1 0 0x14, 0, 4, 0⟩
def tlSchedUsed : Field := ⟨pid 1 0 0x15, 0, 9, 0⟩
def tlGtLostCount : Field := ⟨pid 1 0 0x20, 0, 32, 0⟩
def tlSnapMissedCount : Field := ⟨pid 1 0 0x21, 0, 32, 0⟩
def tlMidshotStepCount : Field := ⟨pid 1 0 0x22, 0, 32, 0⟩
def tlgLinkRtt (g : Nat) : Field := ⟨pid 1 (g + 1) 0x0, 0, 24, 0⟩
def tlgLinkDelay (g : Nat) : Field := ⟨pid 1 (g + 1) 0x1, 0, 24, 0⟩
def tlgLinkAsym (g : Nat) : Field := ⟨pid 1 (g + 1) 0x2, 0, 10, 0⟩
def tlgBeaconRx (g : Nat) : Field := ⟨pid 1 (g + 1) 0x3, 0, 32, 0⟩
def tlgBeaconMiss (g : Nat) : Field := ⟨pid 1 (g + 1) 0x3, 32, 32, 0⟩
/-! R90 -/
def portPortEn (b n : Nat) : Field := ⟨pid b n 0x0, 0, 1, 0⟩
def portBand (b n : Nat) : Field := ⟨pid b n 0x0, 1, 2, 0⟩
def portPortDelay (b n : Nat) : Field := ⟨pid b n 0x1, 0, 6, 0⟩
def portPortFine (b n : Nat) : Field := ⟨pid b n 0x2, 0, 8, 0⟩
def portPortScale (b n : Nat) : Field := ⟨pid b n 0x3, 0, 16, 32768⟩
def portToneEn (b n : Nat) : Field := ⟨pid b n 0x4, 0, (if b == 3 then 8 else 24), (if b == 3 then 0xFF else 0xFFFFFF)⟩
def portUnderrunInvalid (b n : Nat) : Field := ⟨pid b n 0x5, 0, 1, 1⟩
def portDeferInvalid (b n : Nat) : Field := ⟨pid b n 0x5, 1, 1, 1⟩
def portUnderrun (b n : Nat) : Field := ⟨pid b n 0x10, 0, 1, 0⟩
def portClip (b n : Nat) : Field := ⟨pid b n 0x10, 1, 1, 0⟩
def portRateOver (b n : Nat) : Field := ⟨pid b n 0x10, 2, 1, 0⟩
def portPlayDeferred (b n : Nat) : Field := ⟨pid b n 0x10, 3, 1, 0⟩
def portFreqRefused (b n : Nat) : Field := ⟨pid b n 0x10, 4, 1, 0⟩
def portUnderrunCount (b n : Nat) : Field := ⟨pid b n 0x11, 0, 32, 0⟩
def portClipCount (b n : Nat) : Field := ⟨pid b n 0x12, 0, 32, 0⟩
def portRateOverCount (b n : Nat) : Field := ⟨pid b n 0x13, 0, 32, 0⟩
def portDeferCount (b n : Nat) : Field := ⟨pid b n 0x13, 32, 32, 0⟩
def portFreqRefusedCount (b n : Nat) : Field := ⟨pid b n 0x14, 0, 32, 0⟩
def portJumpReplacedCount (b n : Nat) : Field := ⟨pid b n 0x14, 32, 32, 0⟩
def portLastUnderrunShelf (b n : Nat) : Field := ⟨pid b n 0x15, 0, 13, 0⟩
def portLastUnderrunTone (b n : Nat) : Field := ⟨pid b n 0x15, 16, 5, 0⟩
def portLastUnderrunGt (b n : Nat) : Field := ⟨pid b n 0x16, 0, 64, 0⟩
def portRatePeak (b n : Nat) : Field := ⟨pid b n 0x17, 0, 24, 0⟩
def toneToneFreq (b n t : Nat) : Field := ⟨pid b n (0x100 + 16 * t), 0, 48, 0⟩
def toneToneFrameInit (b n t : Nat) : Field := ⟨pid b n (0x101 + 16 * t), 0, 32, 0⟩
def toneToneGain (b n t : Nat) : Field := ⟨pid b n (0x102 + 16 * t), 0, 16, 32768⟩
def toneToneResync (b n t : Nat) : Field := ⟨pid b n (0x103 + 16 * t), 0, 1, 0⟩
def toneFreqNow (b n t : Nat) : Field := ⟨pid b n (0x104 + 16 * t), 0, 48, 0⟩
def toneFrameNow (b n t : Nat) : Field := ⟨pid b n (0x105 + 16 * t), 0, 32, 0⟩
def toneJumpShelf (b n t : Nat) : Field := ⟨pid b n (0x106 + 16 * t), 0, 13, 0⟩
def toneStop (b n t : Nat) : Field := ⟨pid b n (0x106 + 16 * t), 13, 1, 0⟩
def toneJumpAt (b n t : Nat) : Field := ⟨pid b n (0x107 + 16 * t), 0, 64, 0⟩
/-! R91 -/
def shelfStart (s : Nat) : Field := ⟨pid 3 (0x100 + s / 1024) (s % 1024 * 4 + 0x0), 0, 23, 0⟩
def shelfLength (s : Nat) : Field := ⟨pid 3 (0x100 + s / 1024) (s % 1024 * 4 + 0x0), 24, 21, 0⟩
def shelfRate (s : Nat) : Field := ⟨pid 3 (0x100 + s / 1024) (s % 1024 * 4 + 0x0), 45, 13, 0⟩
def shelfNext (s : Nat) : Field := ⟨pid 3 (0x100 + s / 1024) (s % 1024 * 4 + 0x1), 0, 13, 0⟩
def shelfNextEn (s : Nat) : Field := ⟨pid 3 (0x100 + s / 1024) (s % 1024 * 4 + 0x1), 13, 1, 0⟩
def shelfStream (s : Nat) : Field := ⟨pid 3 (0x100 + s / 1024) (s % 1024 * 4 + 0x1), 14, 1, 0⟩
def shelfState (s : Nat) : Field := ⟨pid 3 (0x100 + s / 1024) (s % 1024 * 4 + 0x2), 0, 2, 0⟩
def shelfRefs (s : Nat) : Field := ⟨pid 3 (0x100 + s / 1024) (s % 1024 * 4 + 0x2), 16, 16, 0⟩
def wfWfWrRefused : Field := ⟨pid 3 255 0x0, 0, 32, 0⟩
def wfShelvesActive : Field := ⟨pid 3 255 0x1, 0, 14, 0⟩
/-! R113 -/
def flxPortEn (n : Nat) : Field := ⟨pid 5 n 0x0, 0, 1, 0⟩
def flxPortDelay (n : Nat) : Field := ⟨pid 5 n 0x1, 0, 6, 0⟩
def flxPortFine (n : Nat) : Field := ⟨pid 5 n 0x2, 0, 8, 0⟩
def flxFlxScale (n : Nat) : Field := ⟨pid 5 n 0x3, 0, 16, 32768⟩
def flxFlxOffset (n : Nat) : Field := ⟨pid 5 n 0x4, 0, 16, 0⟩
def flxUnderrunInvalid (n : Nat) : Field := ⟨pid 5 n 0x5, 0, 1, 1⟩
def flxDeferInvalid (n : Nat) : Field := ⟨pid 5 n 0x5, 1, 1, 1⟩
def flxSrcSel (n : Nat) : Field := ⟨pid 5 n 0x6, 0, 1, 0⟩
def flxUnderrun (n : Nat) : Field := ⟨pid 5 n 0x10, 0, 1, 0⟩
def flxClip (n : Nat) : Field := ⟨pid 5 n 0x10, 1, 1, 0⟩
def flxPlayDeferred (n : Nat) : Field := ⟨pid 5 n 0x10, 3, 1, 0⟩
def flxToneless (n : Nat) : Field := ⟨pid 5 n 0x10, 5, 1, 0⟩
def flxFlxSeedBad (n : Nat) : Field := ⟨pid 5 n 0x10, 6, 1, 0⟩
def flxUnderrunCount (n : Nat) : Field := ⟨pid 5 n 0x11, 0, 32, 0⟩
def flxClipCount (n : Nat) : Field := ⟨pid 5 n 0x12, 0, 32, 0⟩
def flxTonelessCount (n : Nat) : Field := ⟨pid 5 n 0x13, 0, 32, 0⟩
def flxDeferCount (n : Nat) : Field := ⟨pid 5 n 0x13, 32, 32, 0⟩
def flxLastUnderrunShelf (n : Nat) : Field := ⟨pid 5 n 0x15, 0, 13, 0⟩
def flxLastUnderrunGt (n : Nat) : Field := ⟨pid 5 n 0x16, 0, 64, 0⟩
def flxExpAmp (n j : Nat) : Field := ⟨pid 5 n (0x20 + j), 0, 16, 0⟩
def flxExpCoef (n j : Nat) : Field := ⟨pid 5 n (0x20 + j), 24, 24, 0⟩
def flxFirTap (n j : Nat) : Field := ⟨pid 5 n (0x30 + j), 0, 18, (if j == 0 then 0x10000 else 0)⟩
def flxCodeNow (n : Nat) : Field := ⟨pid 5 n 0x40, 0, 16, 0⟩
def flxJumpShelf (n : Nat) : Field := ⟨pid 5 n 0x41, 0, 13, 0⟩
def flxStop (n : Nat) : Field := ⟨pid 5 n 0x41, 13, 1, 0⟩
def flxJumpReplacedCount (n : Nat) : Field := ⟨pid 5 n 0x41, 32, 32, 0⟩
def flxJumpAt (n : Nat) : Field := ⟨pid 5 n 0x42, 0, 64, 0⟩
/-! R114 -/
def biaBiaCode (n : Nat) : Field := ⟨pid 6 n 0x0, 0, 18, 0⟩
def biaBiaSpan (n : Nat) : Field := ⟨pid 6 n 0x0, 20, 2, 0⟩
def biaPuCode (n : Nat) : Field := ⟨pid 6 n 0x1, 0, 18, 0⟩
def biaPuSpan (n : Nat) : Field := ⟨pid 6 n 0x1, 20, 2, 0⟩
def biaFaultCode (n : Nat) : Field := ⟨pid 6 n 0x2, 0, 18, 0⟩
def biaFaultSpan (n : Nat) : Field := ⟨pid 6 n 0x2, 20, 2, 0⟩
def biaSpanBusy (n : Nat) : Field := ⟨pid 6 n 0x10, 0, 1, 0⟩
def biaFaultDrive (n : Nat) : Field := ⟨pid 6 n 0x10, 1, 1, 0⟩
def biaNvBad (n : Nat) : Field := ⟨pid 6 n 0x10, 2, 1, 0⟩
def biaCodeNow (n : Nat) : Field := ⟨pid 6 n 0x11, 0, 18, 0⟩
def biaSpanNow (n : Nat) : Field := ⟨pid 6 n 0x11, 20, 2, 0⟩
def biaSpanChangeCount (n : Nat) : Field := ⟨pid 6 n 0x12, 0, 32, 0⟩
/-! R142 -/
def rinRinEn (n : Nat) : Field := ⟨pid 7 n 0x0, 0, 1, 0⟩
def rinBenchSrc (n : Nat) : Field := ⟨pid 7 n 0x0, 1, 1, 0⟩
def rinRinFine (n : Nat) : Field := ⟨pid 7 n 0x1, 0, 8, 0⟩
def rinSwMode (n : Nat) : Field := ⟨pid 7 n 0x2, 0, 1, 1⟩
def rinConvInvalid (n : Nat) : Field := ⟨pid 7 n 0x2, 1, 1, 1⟩
def rinSeedSrc (n : Nat) : Field := ⟨pid 7 n 0x2, 2, 1, 0⟩
def rinEstMin (n : Nat) : Field := ⟨pid 7 n 0x3, 0, 12, 64⟩
def rinEstAvg (n : Nat) : Field := ⟨pid 7 n 0x4, 0, 4, 8⟩
def rinCalSwitchAt (n : Nat) : Field := ⟨pid 7 n 0x5, 0, 64, 0⟩
def rinSwitchPending (n : Nat) : Field := ⟨pid 7 n 0x6, 0, 64, 0⟩
def rinLastSwitchGt (n : Nat) : Field := ⟨pid 7 n 0x7, 0, 64, 0⟩
def rinCalConverging (n : Nat) : Field := ⟨pid 7 n 0x10, 0, 1, 1⟩
def rinAdcOvr (n : Nat) : Field := ⟨pid 7 n 0x10, 1, 1, 0⟩
def rinEstRange (n : Nat) : Field := ⟨pid 7 n 0x10, 2, 1, 0⟩
def rinSkewBlind (n : Nat) : Field := ⟨pid 7 n 0x10, 3, 1, 0⟩
def rinCalSplit (n : Nat) : Field := ⟨pid 7 n 0x10, 4, 1, 0⟩
def rinRinSeedBad (n : Nat) : Field := ⟨pid 7 n 0x10, 5, 1, 0⟩
def rinRxRange (n : Nat) : Field := ⟨pid 7 n 0x10, 6, 1, 0⟩
def rinRxSat (n : Nat) : Field := ⟨pid 7 n 0x10, 7, 1, 0⟩
def rinAcqOver (n : Nat) : Field := ⟨pid 7 n 0x10, 8, 1, 0⟩
def rinAdcOvrCount (n : Nat) : Field := ⟨pid 7 n 0x11, 0, 32, 0⟩
def rinEstBlocks (n : Nat) : Field := ⟨pid 7 n 0x12, 0, 32, 0⟩
def rinEstReject (n : Nat) : Field := ⟨pid 7 n 0x12, 32, 32, 0⟩
def rinConvSamples (n : Nat) : Field := ⟨pid 7 n 0x13, 0, 21, 0⟩
def rinCalSplitCount (n : Nat) : Field := ⟨pid 7 n 0x14, 0, 32, 0⟩
def rinAcqOverCount (n : Nat) : Field := ⟨pid 7 n 0x14, 32, 32, 0⟩
def rinRxIgnoredCount (n : Nat) : Field := ⟨pid 7 n 0x15, 0, 32, 0⟩
def rinEstOffset (n j : Nat) : Field := ⟨pid 7 n (0x20 + j), 0, 16, 0⟩
def rinEstGain (n j : Nat) : Field := ⟨pid 7 n (0x20 + j), 16, 16, 0⟩
def rinEstSkew (n j : Nat) : Field := ⟨pid 7 n (0x20 + j), 32, 16, 0⟩
def rinAppSet (n j : Nat) : Field := ⟨pid 7 n (0x28 + j), 0, 48, 0⟩
def rinRxFreq (n c : Nat) : Field := ⟨pid 7 n (0x100 + 16 * c), 0, 48, 0⟩
def rinRxPhase (n c : Nat) : Field := ⟨pid 7 n (0x101 + 16 * c), 0, 32, 0⟩
def rinRxGain (n c : Nat) : Field := ⟨pid 7 n (0x102 + 16 * c), 0, 3, 0⟩
def rinRxResync (n c : Nat) : Field := ⟨pid 7 n (0x103 + 16 * c), 0, 1, 0⟩
def rinRxPairEn (n c : Nat) : Field := ⟨pid 7 n (0x104 + 16 * c), 0, 1, 0⟩
def rinRxPairPort (n c : Nat) : Field := ⟨pid 7 n (0x104 + 16 * c), 8, 4, 0⟩
def rinRxPairTone (n c : Nat) : Field := ⟨pid 7 n (0x104 + 16 * c), 16, 5, 0⟩
def rinRxFreqNow (n c : Nat) : Field := ⟨pid 7 n (0x105 + 16 * c), 0, 48, 0⟩
/-! R143 -/
def calDcalEn : Field := ⟨pid 19 0 0x0, 0, 1, 1⟩
def calDcalInterval : Field := ⟨pid 19 0 0x1, 0, 32, 3600⟩
def calSavePeriod : Field := ⟨pid 19 0 0x2, 0, 32, 600⟩
def calCalSave : Field := ⟨pid 19 0 0x3, 0, 1, 0⟩
def calWindowsTaken : Field := ⟨pid 19 0 0x4, 0, 32, 0⟩
def calCalwClashCount : Field := ⟨pid 19 0 0x4, 32, 32, 0⟩
def calCalwClash : Field := ⟨pid 19 0 0x5, 0, 1, 0⟩
def calSaveFailed : Field := ⟨pid 19 0 0x5, 1, 1, 0⟩
def calLastSaveGt : Field := ⟨pid 19 0 0x6, 0, 64, 0⟩
def calpDcalDone (n : Nat) : Field := ⟨pid 19 n 0x0, 0, 5, 0⟩
def calpDcalSrc (n : Nat) : Field := ⟨pid 19 n 0x0, 8, 1, 0⟩
def calpDcalBad (n : Nat) : Field := ⟨pid 19 n 0x0, 9, 1, 0⟩
def calpDcalLastGt (n : Nat) : Field := ⟨pid 19 n 0x1, 0, 64, 0⟩
/-! R179 -/
def dxeDxeRun (n : Nat) : Field := ⟨pid 8 n 0x0, 0, 1, 0⟩
def dxeHalted (n : Nat) : Field := ⟨pid 8 n 0x0, 1, 1, 0⟩
def dxeDxeMsg (n : Nat) : Field := ⟨pid 8 n 0x1, 0, 64, 0⟩
def dxeTickPeriod (n : Nat) : Field := ⟨pid 8 n 0x2, 0, 16, 0⟩
def dxeHoldoffLimit (n : Nat) : Field := ⟨pid 8 n 0x3, 0, 16, 0⟩
def dxeRshift (n j : Nat) : Field := ⟨pid 8 n (0x10 + j), 0, 5, 0⟩
def dxeDxeFault (n : Nat) : Field := ⟨pid 8 n 0x20, 0, 1, 0⟩
def dxeSeedBad (n : Nat) : Field := ⟨pid 8 n 0x20, 1, 1, 0⟩
def dxeResqOver (n : Nat) : Field := ⟨pid 8 n 0x20, 2, 1, 0⟩
def dxeHoldoffExceeded (n : Nat) : Field := ⟨pid 8 n 0x20, 3, 1, 0⟩
def dxeFaultCode (n : Nat) : Field := ⟨pid 8 n 0x21, 0, 8, 0⟩
def dxeFaultPc (n : Nat) : Field := ⟨pid 8 n 0x21, 32, 12, 0⟩
def dxeHoldoffMax (n : Nat) : Field := ⟨pid 8 n 0x22, 0, 16, 0⟩
def dxeResqOverCount (n : Nat) : Field := ⟨pid 8 n 0x23, 0, 32, 0⟩
def dxeHoldoffExcCount (n : Nat) : Field := ⟨pid 8 n 0x23, 32, 32, 0⟩
def dxeTrkRefusedCount (n : Nat) : Field := ⟨pid 8 n 0x24, 0, 32, 0⟩
def dxeTrkClampCount (n : Nat) : Field := ⟨pid 8 n 0x24, 32, 32, 0⟩
def dxeOutcDropCount (n : Nat) : Field := ⟨pid 8 n 0x25, 0, 32, 0⟩
def dxeProgWrRefused (n : Nat) : Field := ⟨pid 8 n 0x25, 32, 32, 0⟩
def dxePcNow (n : Nat) : Field := ⟨pid 8 n 0x26, 0, 12, 0⟩
def dxeResqLevel (n : Nat) : Field := ⟨pid 8 n 0x26, 16, 6, 0⟩
def dxeRepLevel (n : Nat) : Field := ⟨pid 8 n 0x26, 24, 3, 0⟩
def dxeSeedSave (n : Nat) : Field := ⟨pid 8 n 0x27, 0, 1, 0⟩
def dxeCbBase (n j : Nat) : Field := ⟨pid 8 n (0x30 + j), 0, 15, 0⟩
def dxeCbLen (n j : Nat) : Field := ⟨pid 8 n (0x30 + j), 16, 16, 0⟩
def dxePtr (n j : Nat) : Field := ⟨pid 8 n (0x40 + j), 0, 16, 0⟩
def dxeTrkMaxStep (n j : Nat) : Field := ⟨pid 8 n (0x50 + j), 0, 48, 0⟩
def dxeTrkSq (n j : Nat) : Field := ⟨pid 8 n (0x58 + j), 0, 6, 0⟩
def dxeTrkApply (n j : Nat) : Field := ⟨pid 8 n (0x58 + j), 8, 1, 0⟩
def dxeAxis (n t j : Nat) : Field := ⟨pid 8 n (0x800 + 8 * t + j), 0, 32, 0⟩
def dxeThr (n t j : Nat) : Field := ⟨pid 8 n (0x800 + 8 * t + j), 0, 32, 0⟩
def dxeMap (n t : Nat) : Field := ⟨pid 8 n (0x806 + 8 * t), 0, 16, 0⟩
def dxeNax (n t : Nat) : Field := ⟨pid 8 n (0x807 + 8 * t), 0, 2, 0⟩
/-! R213 -/
def sqSqEn (n : Nat) : Field := ⟨pid 2 n 0x0, 0, 1, 0⟩
def sqSqDone (n : Nat) : Field := ⟨pid 2 n 0x0, 1, 1, 0⟩
def sqSqIssuing (n : Nat) : Field := ⟨pid 2 n 0x0, 2, 1, 0⟩
def sqSqEntry (n : Nat) : Field := ⟨pid 2 n 0x1, 0, 13, 0⟩
def sqLookaheadMax (n : Nat) : Field := ⟨pid 2 n 0x2, 0, 31, 1000000⟩
def sqWaitoLimit (n : Nat) : Field := ⟨pid 2 n 0x3, 0, 32, 100000⟩
def sqWaitoGap (n : Nat) : Field := ⟨pid 2 n 0x3, 32, 16, 32⟩
def sqLate (n : Nat) : Field := ⟨pid 2 n 0x10, 0, 1, 0⟩
def sqBindMiss (n : Nat) : Field := ⟨pid 2 n 0x10, 1, 1, 0⟩
def sqSqFault (n : Nat) : Field := ⟨pid 2 n 0x10, 2, 1, 0⟩
def sqWaitoTimeout (n : Nat) : Field := ⟨pid 2 n 0x10, 3, 1, 0⟩
def sqWaittPast (n : Nat) : Field := ⟨pid 2 n 0x10, 4, 1, 0⟩
def sqSlotDup (n : Nat) : Field := ⟨pid 2 n 0x10, 5, 1, 0⟩
def sqMarkRefused (n : Nat) : Field := ⟨pid 2 n 0x10, 6, 1, 0⟩
def sqFaultCode (n : Nat) : Field := ⟨pid 2 n 0x11, 0, 8, 0⟩
def sqFaultPc (n : Nat) : Field := ⟨pid 2 n 0x11, 32, 13, 0⟩
def sqLateCount (n : Nat) : Field := ⟨pid 2 n 0x12, 0, 32, 0⟩
def sqBindMissCount (n : Nat) : Field := ⟨pid 2 n 0x12, 32, 32, 0⟩
def sqLastLateGt (n : Nat) : Field := ⟨pid 2 n 0x13, 0, 64, 0⟩
def sqLastLateLane (n : Nat) : Field := ⟨pid 2 n 0x14, 0, 4, 0⟩
def sqShotCount (n : Nat) : Field := ⟨pid 2 n 0x15, 0, 48, 0⟩
def sqShotInvalidCount (n : Nat) : Field := ⟨pid 2 n 0x16, 0, 48, 0⟩
def sqShotFlagsLast (n : Nat) : Field := ⟨pid 2 n 0x17, 0, 16, 0⟩
def sqShotFlagsNow (n : Nat) : Field := ⟨pid 2 n 0x17, 16, 16, 0⟩
def sqCursorNow (n : Nat) : Field := ⟨pid 2 n 0x18, 0, 64, 0⟩
def sqBoundaryGt (n : Nat) : Field := ⟨pid 2 n 0x19, 0, 64, 0⟩
def sqPcNow (n : Nat) : Field := ⟨pid 2 n 0x1a, 0, 13, 0⟩
def sqSlotsUsed (n : Nat) : Field := ⟨pid 2 n 0x1a, 16, 13, 0⟩
def sqChkptUsed (n : Nat) : Field := ⟨pid 2 n 0x1a, 32, 4, 0⟩
def sqLoopLevel (n : Nat) : Field := ⟨pid 2 n 0x1a, 40, 4, 0⟩
def sqCallLevel (n : Nat) : Field := ⟨pid 2 n 0x1a, 48, 4, 0⟩
def sqStallCause (n : Nat) : Field := ⟨pid 2 n 0x1a, 56, 3, 0⟩
def sqStallTicks (n : Nat) : Field := ⟨pid 2 n 0x1b, 0, 32, 0⟩
def sqWaittPastCount (n : Nat) : Field := ⟨pid 2 n 0x1b, 32, 32, 0⟩
def sqWaitoTimeoutCount (n : Nat) : Field := ⟨pid 2 n 0x1c, 0, 32, 0⟩
def sqSlotDupCount (n : Nat) : Field := ⟨pid 2 n 0x1c, 32, 32, 0⟩
def sqProgWrRefused (n : Nat) : Field := ⟨pid 2 n 0x1d, 0, 32, 0⟩
def sqMarkRefusedCount (n : Nat) : Field := ⟨pid 2 n 0x1d, 32, 32, 0⟩
def sqKind (n j : Nat) : Field := ⟨pid 2 n (0x20 + j), 0, 2, 0⟩
def sqTport (n j : Nat) : Field := ⟨pid 2 n (0x20 + j), 8, 6, 0⟩
def sqTtone (n j : Nat) : Field := ⟨pid 2 n (0x20 + j), 16, 5, 0⟩
def sqTValid (n j : Nat) : Field := ⟨pid 2 n (0x20 + j), 21, 1, 0⟩
def sqChInput (n j : Nat) : Field := ⟨pid 2 n (0x20 + j), 24, 4, 0⟩
def sqCh (n j : Nat) : Field := ⟨pid 2 n (0x20 + j), 32, 5, 0⟩
def sqChValid (n j : Nat) : Field := ⟨pid 2 n (0x20 + j), 37, 1, 0⟩
def sqCalwDrv (n j : Nat) : Field := ⟨pid 2 n (0x30 + j), 0, 40, 0⟩
def sqCalwPrb (n j : Nat) : Field := ⟨pid 2 n (0x30 + j), 40, 12, 0⟩
def sqCalwFlx (n j : Nat) : Field := ⟨pid 2 n (0x40 + j), 0, 24, 0⟩
/-! R214 -/
def sqSqPacer : Field := ⟨pid 2 64 0x0, 0, 6, 0⟩
def sqMarkOwner (p : Nat) : Field := ⟨pid 2 0x040 1, 6 * p, 6, 0⟩
/-! R238 -/
def outShareLg : Field := ⟨pid 9 0 0x0, 0, 4, 0⟩
def outFwdLg : Field := ⟨pid 9 0 0x0, 4, 4, 0⟩
def outOutcPosted : Field := ⟨pid 9 0 0x10, 0, 32, 0⟩
def outSharedSent : Field := ⟨pid 9 0 0x10, 32, 32, 0⟩
def outRemoteApplied : Field := ⟨pid 9 0 0x11, 0, 32, 0⟩
def outRemoteIgnored : Field := ⟨pid 9 0 0x11, 32, 32, 0⟩
def outShareDrop : Field := ⟨pid 9 0 0x12, 0, 32, 0⟩
def outStaleEvents : Field := ⟨pid 9 0 0x12, 32, 32, 0⟩
def outShareOver : Field := ⟨pid 9 0 0x13, 0, 1, 0⟩
def outAnyStale : Field := ⟨pid 9 0 0x13, 1, 1, 0⟩
def decTarget (e : Nat) : Field := ⟨pid 9 (0x100 + e / 4096) (e % 4096), 0, 13, 0⟩
def decBr (e : Nat) : Field := ⟨pid 9 (0x100 + e / 4096) (e % 4096), 13, 1, 0⟩
def decAlt (e : Nat) : Field := ⟨pid 9 (0x100 + e / 4096) (e % 4096), 14, 1, 0⟩
def decPost (e : Nat) : Field := ⟨pid 9 (0x100 + e / 4096) (e % 4096), 15, 1, 0⟩
def decCode (e : Nat) : Field := ⟨pid 9 (0x100 + e / 4096) (e % 4096), 16, 2, 0⟩
def chOregVal (n : Nat) : Field := ⟨pid 9 (0x200 + n) 0x0, 0, 2, 0⟩
def chOregFlags (n : Nat) : Field := ⟨pid 9 (0x200 + n) 0x0, 2, 4, 0⟩
def chOregValid (n : Nat) : Field := ⟨pid 9 (0x200 + n) 0x0, 6, 1, 0⟩
def chOregEndGt (n : Nat) : Field := ⟨pid 9 (0x200 + n) 0x1, 0, 64, 0⟩
def chShare (n : Nat) : Field := ⟨pid 9 (0x200 + n) 0x2, 0, 1, 0⟩
def rrRregEn (n : Nat) : Field := ⟨pid 9 (0x400 + n) 0x0, 0, 1, 0⟩
def rrRregNode (n : Nat) : Field := ⟨pid 9 (0x400 + n) 0x0, 8, 6, 0⟩
def rrRregCh (n : Nat) : Field := ⟨pid 9 (0x400 + n) 0x0, 16, 9, 0⟩
def rrRregVal (n : Nat) : Field := ⟨pid 9 (0x400 + n) 0x1, 0, 2, 0⟩
def rrRregFlags (n : Nat) : Field := ⟨pid 9 (0x400 + n) 0x1, 2, 4, 0⟩
def rrRregValid (n : Nat) : Field := ⟨pid 9 (0x400 + n) 0x1, 6, 1, 0⟩
def rrStale (n : Nat) : Field := ⟨pid 9 (0x400 + n) 0x1, 7, 1, 0⟩
def rrRregLg (n : Nat) : Field := ⟨pid 9 (0x400 + n) 0x1, 8, 2, 0⟩
def rrRregEndGt (n : Nat) : Field := ⟨pid 9 (0x400 + n) 0x2, 0, 64, 0⟩
def duNbits (n : Nat) : Field := ⟨pid 9 (0x600 + n) 0x0, 0, 5, 0⟩
def duBase (n : Nat) : Field := ⟨pid 9 (0x600 + n) 0x0, 16, 16, 0⟩
def duSrcReg (n j : Nat) : Field := ⟨pid 9 (0x600 + n) (0x10 + j), 0, 9, 0⟩
def duSrcRemote (n j : Nat) : Field := ⟨pid 9 (0x600 + n) (0x10 + j), 9, 1, 0⟩
def duSrcBit (n j : Nat) : Field := ⟨pid 9 (0x600 + n) (0x10 + j), 10, 1, 0⟩
def duIndexNow (n : Nat) : Field := ⟨pid 9 (0x600 + n) 0x20, 0, 16, 0⟩
def duEntryNow (n : Nat) : Field := ⟨pid 9 (0x600 + n) 0x20, 16, 32, 0⟩
def duDecReady (n : Nat) : Field := ⟨pid 9 (0x600 + n) 0x20, 48, 1, 0⟩
def duDecStale (n : Nat) : Field := ⟨pid 9 (0x600 + n) 0x20, 49, 1, 0⟩
def osqStalePolicy (n : Nat) : Field := ⟨pid 9 (0x800 + n) 0x0, 0, 2, 2⟩
def osqLbNotReady (n : Nat) : Field := ⟨pid 9 (0x800 + n) 0x10, 0, 1, 0⟩
def osqLbStale (n : Nat) : Field := ⟨pid 9 (0x800 + n) 0x10, 1, 1, 0⟩
def osqBroStale (n : Nat) : Field := ⟨pid 9 (0x800 + n) 0x10, 2, 1, 0⟩
def osqLbNotReadyCount (n : Nat) : Field := ⟨pid 9 (0x800 + n) 0x11, 0, 32, 0⟩
def osqLbStaleCount (n : Nat) : Field := ⟨pid 9 (0x800 + n) 0x11, 32, 32, 0⟩
def osqBroStaleCount (n : Nat) : Field := ⟨pid 9 (0x800 + n) 0x12, 0, 32, 0⟩
/-! R257 -/
def mceUpcNow (n : Nat) : Field := ⟨pid 10 n 0x0, 0, 15, 0⟩
def mceWaiting (n : Nat) : Field := ⟨pid 10 n 0x0, 15, 1, 0⟩
def mceWaitCond (n : Nat) : Field := ⟨pid 10 n 0x0, 16, 4, 0⟩
def mceTrapDepth (n : Nat) : Field := ⟨pid 10 n 0x0, 20, 4, 0⟩
def mcePeekStale (n : Nat) : Field := ⟨pid 10 n 0x0, 24, 1, 0⟩
def mceLc0 (n : Nat) : Field := ⟨pid 10 n 0x1, 0, 16, 0⟩
def mceLc1 (n : Nat) : Field := ⟨pid 10 n 0x1, 16, 16, 0⟩
def mceUflags (n : Nat) : Field := ⟨pid 10 n 0x1, 32, 5, 0⟩
def mceTNow (n : Nat) : Field := ⟨pid 10 n 0x2, 0, 64, 0⟩
def mceWaitTicks (n : Nat) : Field := ⟨pid 10 n 0x3, 0, 32, 0⟩
def mceTrapTicks (n : Nat) : Field := ⟨pid 10 n 0x3, 32, 32, 0⟩
def mceCeTraps (n : Nat) : Field := ⟨pid 10 n 0x4, 0, 32, 0⟩
def mcePeekTraps (n : Nat) : Field := ⟨pid 10 n 0x4, 32, 32, 0⟩
def mceLastTrapCause (n : Nat) : Field := ⟨pid 10 n 0x5, 0, 4, 0⟩
def mceMcFault (n : Nat) : Field := ⟨pid 10 n 0x6, 0, 1, 0⟩
def mceMcFaultCode (n : Nat) : Field := ⟨pid 10 n 0x6, 8, 8, 0⟩
def mceMcFaultUpc (n : Nat) : Field := ⟨pid 10 n 0x6, 16, 15, 0⟩
def mceTrapFrame (n j : Nat) : Field := ⟨pid 10 n (0x10 + j), 0, 64, 0⟩
def mcBaseVer : Field := ⟨pid 10 64 0x0, 0, 32, 0⟩
def mcPatchLevel : Field := ⟨pid 10 64 0x0, 32, 16, 0⟩
def mcPatchesApplied : Field := ⟨pid 10 64 0x1, 0, 3, 0⟩
def mcPatchesRejected : Field := ⟨pid 10 64 0x1, 4, 3, 0⟩
def mcPatchRejectCause : Field := ⟨pid 10 64 0x1, 8, 4, 0⟩
def mcOvlUsed : Field := ⟨pid 10 64 0x1, 12, 12, 0⟩
def mcHooksUsed : Field := ⟨pid 10 64 0x1, 24, 9, 0⟩
def mcStoreCheck : Field := ⟨pid 10 64 0x2, 0, 32, 0⟩
def mcPeekRun : Field := ⟨pid 10 64 0x3, 0, 1, 1⟩
def mcMcStoreBad : Field := ⟨pid 10 64 0x3, 1, 1, 0⟩
/-! R294 -/
def lnkNodeId : Field := ⟨pid 11 0 0x0, 0, 6, 0⟩
def lnkNodeValid : Field := ⟨pid 11 0 0x0, 6, 1, 0⟩
def lnkJoinStatus : Field := ⟨pid 11 0 0x0, 8, 3, 0⟩
def lnkNodeAuth : Field := ⟨pid 11 0 0x1, 0, 1, 0⟩
def lnkNodeReq : Field := ⟨pid 11 0 0x1, 8, 6, 0⟩
def lnkReqAny : Field := ⟨pid 11 0 0x1, 14, 1, 1⟩
def lnkJoin : Field := ⟨pid 11 0 0x2, 0, 1, 0⟩
def lnkLeave : Field := ⟨pid 11 0 0x2, 1, 1, 0⟩
def lnkPair : Field := ⟨pid 11 0 0x3, 0, 2, 0⟩
def lnkDeviceSerial : Field := ⟨pid 11 0 0x4, 0, 32, 0⟩
def lnkNodeMap : Field := ⟨pid 11 0 0x5, 0, 64, 0⟩
def lnkOutTestRec : Field := ⟨pid 11 0 0x6, 0, 64, 0⟩
def lnkAuthConflict : Field := ⟨pid 11 0 0x10, 0, 1, 0⟩
def lnkEqTableBad : Field := ⟨pid 11 0 0x10, 1, 1, 0⟩
def lnkJoinRefusedCount : Field := ⟨pid 11 0 0x11, 0, 32, 0⟩
def lnkLeaveSeenCount : Field := ⟨pid 11 0 0x11, 32, 32, 0⟩
def lgLgEn (n : Nat) : Field := ⟨pid 11 (n + 1) 0x0, 0, 1, 0⟩
def lgSwitchNow (n : Nat) : Field := ⟨pid 11 (n + 1) 0x0, 1, 1, 0⟩
def lgLgState (n : Nat) : Field := ⟨pid 11 (n + 1) 0x1, 0, 3, 0⟩
def lgTxUp (n : Nat) : Field := ⟨pid 11 (n + 1) 0x1, 3, 1, 0⟩
def lgPeerId (n : Nat) : Field := ⟨pid 11 (n + 1) 0x1, 8, 6, 0⟩
def lgPeerValid (n : Nat) : Field := ⟨pid 11 (n + 1) 0x1, 14, 1, 0⟩
def lgSkewMax (n : Nat) : Field := ⟨pid 11 (n + 1) 0x1, 16, 5, 0⟩
def lgBeaconOfs (n : Nat) : Field := ⟨pid 11 (n + 1) 0x2, 0, 12, 0⟩
def lgDeskewFail (n : Nat) : Field := ⟨pid 11 (n + 1) 0x10, 0, 1, 0⟩
def lgSwitched (n : Nat) : Field := ⟨pid 11 (n + 1) 0x10, 1, 1, 0⟩
def lgWentDown (n : Nat) : Field := ⟨pid 11 (n + 1) 0x10, 2, 1, 0⟩
def lgBufSlip (n : Nat) : Field := ⟨pid 11 (n + 1) 0x10, 3, 1, 0⟩
def lgFrameErr (n : Nat) : Field := ⟨pid 11 (n + 1) 0x10, 4, 1, 0⟩
def lgOutFramesTx (n : Nat) : Field := ⟨pid 11 (n + 1) 0x11, 0, 32, 0⟩
def lgOutFramesRx (n : Nat) : Field := ⟨pid 11 (n + 1) 0x11, 32, 32, 0⟩
def lgCrcErrCount (n : Nat) : Field := ⟨pid 11 (n + 1) 0x12, 0, 32, 0⟩
def lgFrameBadCount (n : Nat) : Field := ⟨pid 11 (n + 1) 0x12, 32, 32, 0⟩
def lgBulkTxCount (n : Nat) : Field := ⟨pid 11 (n + 1) 0x13, 0, 32, 0⟩
def lgBulkResentCount (n : Nat) : Field := ⟨pid 11 (n + 1) 0x13, 32, 32, 0⟩
def lgBulkRxCount (n : Nat) : Field := ⟨pid 11 (n + 1) 0x14, 0, 32, 0⟩
def lgBulkDiscardCount (n : Nat) : Field := ⟨pid 11 (n + 1) 0x14, 32, 32, 0⟩
def lgSwitchCount (n : Nat) : Field := ⟨pid 11 (n + 1) 0x15, 0, 32, 0⟩
def lgDownCount (n : Nat) : Field := ⟨pid 11 (n + 1) 0x15, 32, 32, 0⟩
def lgLastSwitchGt (n : Nat) : Field := ⟨pid 11 (n + 1) 0x16, 0, 64, 0⟩
def lgRecordsQueued (n : Nat) : Field := ⟨pid 11 (n + 1) 0x17, 0, 7, 0⟩
def lgBulkUnacked (n : Nat) : Field := ⟨pid 11 (n + 1) 0x17, 8, 7, 0⟩
def lgTimingFramesTx (n : Nat) : Field := ⟨pid 11 (n + 1) 0x18, 0, 32, 0⟩
def lgTimingFramesRx (n : Nat) : Field := ⟨pid 11 (n + 1) 0x18, 32, 32, 0⟩
/-! R295 -/
def laneTxSleep (n : Nat) : Field := ⟨pid 11 (0x10 + n) 0x0, 0, 1, 0⟩
def laneRxSleep (n : Nat) : Field := ⟨pid 11 (0x10 + n) 0x0, 1, 1, 0⟩
def laneLoop (n : Nat) : Field := ⟨pid 11 (0x10 + n) 0x0, 2, 2, 0⟩
def lanePattern (n : Nat) : Field := ⟨pid 11 (0x10 + n) 0x0, 4, 2, 0⟩
def laneLaneState (n : Nat) : Field := ⟨pid 11 (0x10 + n) 0x1, 0, 2, 0⟩
def laneSigDetect (n : Nat) : Field := ⟨pid 11 (0x10 + n) 0x1, 2, 1, 0⟩
def laneTxPre (n : Nat) : Field := ⟨pid 11 (0x10 + n) 0x2, 0, 4, 0⟩
def laneTxPost (n : Nat) : Field := ⟨pid 11 (0x10 + n) 0x2, 4, 5, 0⟩
def laneTxSwing (n : Nat) : Field := ⟨pid 11 (0x10 + n) 0x2, 9, 3, 0⟩
def laneRxCtle (n : Nat) : Field := ⟨pid 11 (0x10 + n) 0x2, 12, 4, 0⟩
def laneTxPol (n : Nat) : Field := ⟨pid 11 (0x10 + n) 0x2, 16, 1, 0⟩
def laneRxPol (n : Nat) : Field := ⟨pid 11 (0x10 + n) 0x2, 17, 1, 0⟩
def laneCodeErrCount (n : Nat) : Field := ⟨pid 11 (0x10 + n) 0x10, 0, 32, 0⟩
def laneDispErrCount (n : Nat) : Field := ⟨pid 11 (0x10 + n) 0x10, 32, 32, 0⟩
def laneAlignLossCount (n : Nat) : Field := ⟨pid 11 (0x10 + n) 0x11, 0, 32, 0⟩
def lanePrbsErrCount (n : Nat) : Field := ⟨pid 11 (0x10 + n) 0x11, 32, 32, 0⟩
/-! R316 -/
def trgStreamBudget : Field := ⟨pid 12 0 0x0, 0, 32, 12000000⟩
def trgBudgetUsed : Field := ⟨pid 12 0 0x1, 0, 32, 0⟩
def trgTwordNow : Field := ⟨pid 12 0 0x2, 0, 64, 0⟩
def trgOselReg (j : Nat) : Field := ⟨pid 12 0 (0x10 + j), 0, 9, 0⟩
def trgOselRemote (j : Nat) : Field := ⟨pid 12 0 (0x10 + j), 9, 1, 0⟩
def pinEdgeSel (n : Nat) : Field := ⟨pid 12 (0x30 + n) 0x0, 0, 2, 0⟩
def pinTrigFine (n : Nat) : Field := ⟨pid 12 (0x30 + n) 0x0, 8, 8, 0⟩
def pinLastEdge (n : Nat) : Field := ⟨pid 12 (0x30 + n) 0x1, 0, 64, 0⟩
def pinEdgeCount (n : Nat) : Field := ⟨pid 12 (0x30 + n) 0x2, 0, 32, 0⟩
def pinEdgeMissCount (n : Nat) : Field := ⟨pid 12 (0x30 + n) 0x2, 32, 32, 0⟩
def stStreamEn (n : Nat) : Field := ⟨pid 12 (0x10 + n) 0x0, 0, 1, 0⟩
def stTriggered (n : Nat) : Field := ⟨pid 12 (0x10 + n) 0x0, 1, 1, 0⟩
def stLossInvalid (n : Nat) : Field := ⟨pid 12 (0x10 + n) 0x0, 2, 1, 0⟩
def stRawCorr (n : Nat) : Field := ⟨pid 12 (0x10 + n) 0x0, 3, 1, 0⟩
def stKind (n : Nat) : Field := ⟨pid 12 (0x10 + n) 0x0, 4, 4, 6⟩
def stSrcSel (n : Nat) : Field := ⟨pid 12 (0x10 + n) 0x1, 0, 64, 0⟩
def stRing (n : Nat) : Field := ⟨pid 12 (0x10 + n) 0x2, 0, 14, 0⟩
def stBufBase (n : Nat) : Field := ⟨pid 12 (0x10 + n) 0x3, 0, 11, 0⟩
def stBufSize (n : Nat) : Field := ⟨pid 12 (0x10 + n) 0x3, 16, 11, 0⟩
def stRate (n : Nat) : Field := ⟨pid 12 (0x10 + n) 0x4, 0, 32, 0⟩
def stMarkTu (n : Nat) : Field := ⟨pid 12 (0x10 + n) 0x5, 0, 8, 0⟩
def stEdgePin (n : Nat) : Field := ⟨pid 12 (0x10 + n) 0x5, 8, 4, 0⟩
def stTuSel (n : Nat) : Field := ⟨pid 12 (0x10 + n) 0x5, 16, 3, 0⟩
def stPre (n : Nat) : Field := ⟨pid 12 (0x10 + n) 0x6, 0, 32, 0⟩
def stPost (n : Nat) : Field := ⟨pid 12 (0x10 + n) 0x6, 32, 32, 0⟩
def stLoss (n : Nat) : Field := ⟨pid 12 (0x10 + n) 0x10, 0, 1, 0⟩
def stShortPre (n : Nat) : Field := ⟨pid 12 (0x10 + n) 0x10, 1, 1, 0⟩
def stFireIgnored (n : Nat) : Field := ⟨pid 12 (0x10 + n) 0x10, 2, 1, 0⟩
def stLostCount (n : Nat) : Field := ⟨pid 12 (0x10 + n) 0x11, 0, 32, 0⟩
def stGapCount (n : Nat) : Field := ⟨pid 12 (0x10 + n) 0x11, 32, 32, 0⟩
def stRecords (n : Nat) : Field := ⟨pid 12 (0x10 + n) 0x12, 0, 32, 0⟩
def stFireIgnoredCount (n : Nat) : Field := ⟨pid 12 (0x10 + n) 0x12, 32, 32, 0⟩
def stFill (n : Nat) : Field := ⟨pid 12 (0x10 + n) 0x13, 0, 23, 0⟩
def stSeqNext (n : Nat) : Field := ⟨pid 12 (0x10 + n) 0x14, 0, 32, 0⟩
def tuValue (n : Nat) : Field := ⟨pid 12 (0x20 + n) 0x0, 0, 64, 0⟩
def tuCare (n : Nat) : Field := ⟨pid 12 (0x20 + n) 0x1, 0, 64, 0⟩
def tuScope (n : Nat) : Field := ⟨pid 12 (0x20 + n) 0x2, 0, 1, 0⟩
def tuMode (n : Nat) : Field := ⟨pid 12 (0x20 + n) 0x2, 1, 1, 0⟩
def tuAuto (n : Nat) : Field := ⟨pid 12 (0x20 + n) 0x2, 2, 1, 0⟩
def tuHoldoff (n : Nat) : Field := ⟨pid 12 (0x20 + n) 0x2, 16, 16, 0⟩
def tuSettle (n : Nat) : Field := ⟨pid 12 (0x20 + n) 0x3, 0, 32, 10000⟩
def tuArmAt (n : Nat) : Field := ⟨pid 12 (0x20 + n) 0x4, 0, 64, 0⟩
def tuDisarm (n : Nat) : Field := ⟨pid 12 (0x20 + n) 0x5, 0, 1, 0⟩
def tuTuState (n : Nat) : Field := ⟨pid 12 (0x20 + n) 0x6, 0, 3, 0⟩
def tuFireGt (n : Nat) : Field := ⟨pid 12 (0x20 + n) 0x7, 0, 64, 0⟩
def tuFireNode (n : Nat) : Field := ⟨pid 12 (0x20 + n) 0x8, 0, 6, 0⟩
def tuFired (n : Nat) : Field := ⟨pid 12 (0x20 + n) 0x10, 0, 1, 0⟩
def tuFireConflict (n : Nat) : Field := ⟨pid 12 (0x20 + n) 0x10, 1, 1, 0⟩
def tuArmLate (n : Nat) : Field := ⟨pid 12 (0x20 + n) 0x10, 2, 1, 0⟩
def tuFireCount (n : Nat) : Field := ⟨pid 12 (0x20 + n) 0x11, 0, 32, 0⟩
def tuFireLateCount (n : Nat) : Field := ⟨pid 12 (0x20 + n) 0x11, 32, 32, 0⟩
/-! R330 -/
def evmSwFire : Field := ⟨pid 13 0 0x0, 0, 16, 0⟩
def evmLoopRefusedCount : Field := ⟨pid 13 0 0x1, 0, 32, 0⟩
def evmStormCount : Field := ⟨pid 13 0 0x1, 32, 32, 0⟩
def evmChActive : Field := ⟨pid 13 0 0x2, 0, 8, 0⟩
def ecChEn (n : Nat) : Field := ⟨pid 13 (0x100 + n) 0x0, 0, 1, 0⟩
def ecLock (n : Nat) : Field := ⟨pid 13 (0x100 + n) 0x0, 1, 1, 0⟩
def ecResync (n : Nat) : Field := ⟨pid 13 (0x100 + n) 0x0, 2, 1, 0⟩
def ecGateInv (n : Nat) : Field := ⟨pid 13 (0x100 + n) 0x0, 3, 1, 0⟩
def ecGateSel (n : Nat) : Field := ⟨pid 13 (0x100 + n) 0x0, 8, 7, 0⟩
def ecCons (n : Nat) : Field := ⟨pid 13 (0x100 + n) 0x0, 16, 7, 127⟩
def ecWatch (n : Nat) : Field := ⟨pid 13 (0x100 + n) 0x0, 24, 1, 0⟩
def ecEnRow (n j : Nat) : Field := ⟨pid 13 (0x100 + n) (0x10 + j), 0, 64, 0⟩
def ecStorm (n : Nat) : Field := ⟨pid 13 (0x100 + n) 0x20, 0, 1, 0⟩
def ecEvSeen (n : Nat) : Field := ⟨pid 13 (0x100 + n) 0x20, 1, 1, 0⟩
def ecEvCount (n : Nat) : Field := ⟨pid 13 (0x100 + n) 0x21, 0, 32, 0⟩
def ecBlockedCount (n : Nat) : Field := ⟨pid 13 (0x100 + n) 0x21, 32, 32, 0⟩
def ecLastEvGt (n : Nat) : Field := ⟨pid 13 (0x100 + n) 0x22, 0, 64, 0⟩
def ciCoincCount (n : Nat) : Field := ⟨pid 13 (0x200 + n) 0x000, 0, 32, 0⟩
def ciArrivals (n : Nat) : Field := ⟨pid 13 (0x200 + n) 0x000, 32, 32, 0⟩
def ciMarkEvWidth (n : Nat) : Field := ⟨pid 13 (0x200 + n) 0x001, 0, 24, 8⟩
def ciMarkSrc (n : Nat) : Field := ⟨pid 13 (0x200 + n) 0x001, 24, 1, 0⟩
/-! R367 -/
def dmaInFlightTotal : Field := ⟨pid 14 0 0x0, 0, 13, 0⟩
def dmaRangeCount : Field := ⟨pid 14 0 0x1, 0, 32, 0⟩
def dmaBadDescCount : Field := ⟨pid 14 0 0x1, 32, 32, 0⟩
def arbArbBias (j : Nat) : Field := ⟨pid 14 0 (0x10 + j), 0, 10, 0⟩
def arbArbGrants (j : Nat) : Field := ⟨pid 14 0 (0x18 + j), 0, 32, 0⟩
def arbArbWaitMax (j : Nat) : Field := ⟨pid 14 0 (0x18 + j), 32, 16, 0⟩
def dchChAssigned (n : Nat) : Field := ⟨pid 14 (0x100 + n) 0x0, 0, 1, 0⟩
def dchSubRing (n : Nat) : Field := ⟨pid 14 (0x100 + n) 0x1, 0, 14, 0⟩
def dchComplRing (n : Nat) : Field := ⟨pid 14 (0x100 + n) 0x1, 16, 14, 0⟩
def dchStopOnErr (n : Nat) : Field := ⟨pid 14 (0x100 + n) 0x2, 0, 1, 1⟩
def dchChResume (n : Nat) : Field := ⟨pid 14 (0x100 + n) 0x3, 0, 1, 0⟩
def dchChAbort (n : Nat) : Field := ⟨pid 14 (0x100 + n) 0x3, 1, 1, 0⟩
def dchChHalted (n : Nat) : Field := ⟨pid 14 (0x100 + n) 0x10, 0, 1, 0⟩
def dchChErr (n : Nat) : Field := ⟨pid 14 (0x100 + n) 0x10, 1, 1, 0⟩
def dchEvPending (n : Nat) : Field := ⟨pid 14 (0x100 + n) 0x10, 2, 1, 0⟩
def dchInFlight (n : Nat) : Field := ⟨pid 14 (0x100 + n) 0x11, 0, 7, 0⟩
def dchDescDone (n : Nat) : Field := ⟨pid 14 (0x100 + n) 0x12, 0, 32, 0⟩
def dchDescErr (n : Nat) : Field := ⟨pid 14 (0x100 + n) 0x12, 32, 32, 0⟩
def dchComplStall (n : Nat) : Field := ⟨pid 14 (0x100 + n) 0x13, 0, 32, 0⟩
def dchEvMergedCount (n : Nat) : Field := ⟨pid 14 (0x100 + n) 0x13, 32, 32, 0⟩
def dchShelfMarkMissed (n : Nat) : Field := ⟨pid 14 (0x100 + n) 0x14, 0, 32, 0⟩
def dchLastStatus (n : Nat) : Field := ⟨pid 14 (0x100 + n) 0x15, 0, 8, 0⟩
def dchLastErrTag (n : Nat) : Field := ⟨pid 14 (0x100 + n) 0x16, 0, 64, 0⟩
/-! R368 -/
def hstLinkSpeed : Field := ⟨pid 15 0 0x0, 0, 3, 0⟩
def hstLinkWidth : Field := ⟨pid 15 0 0x0, 4, 3, 0⟩
def hstNumVfs : Field := ⟨pid 15 0 0x1, 0, 6, 0⟩
def hstBarBadAccess : Field := ⟨pid 15 0 0x2, 0, 32, 0⟩
def hstBarIgnored : Field := ⟨pid 15 0 0x2, 32, 32, 0⟩
def hstDbIgnored : Field := ⟨pid 15 0 0x3, 0, 32, 0⟩
def hevHevVector (j : Nat) : Field := ⟨pid 15 0 (0x20 + j), 0, 11, 0⟩
def hevHevFunc (j : Nat) : Field := ⟨pid 15 0 (0x20 + j), 16, 6, 0⟩
def hevHevEn (j : Nat) : Field := ⟨pid 15 0 (0x20 + j), 24, 1, 0⟩
def rxRxRing (n j : Nat) : Field := ⟨pid 15 (0x100 + n) j, 0, 14, 0⟩
def rxRxEn (n j : Nat) : Field := ⟨pid 15 (0x100 + n) j, 16, 1, 0⟩
def rxRxRingFullCount (n : Nat) : Field := ⟨pid 15 (0x100 + n) 0x40, 0, 32, 0⟩
/-! R398 -/
def sysSessionsOpen : Field := ⟨pid 18 0 0x0, 0, 11, 0⟩
def sysDrawersOpen : Field := ⟨pid 18 0 0x0, 16, 7, 0⟩
def sysAuditTotal : Field := ⟨pid 18 0 0x1, 0, 48, 0⟩
def sysAuditAck : Field := ⟨pid 18 0 0x2, 0, 48, 0⟩
def sysAuditOverrun : Field := ⟨pid 18 0 0x3, 0, 32, 0⟩
def sysRsvdWriteCount : Field := ⟨pid 18 0 0x3, 32, 32, 0⟩
def sysTxcMissCount : Field := ⟨pid 18 0 0x4, 0, 32, 0⟩
def sysTxcFailCount : Field := ⟨pid 18 0 0x4, 32, 32, 0⟩
def sysVfWriteEn : Field := ⟨pid 18 0 0x5, 1, 63, 0⟩
def sysCfgLoaded : Field := ⟨pid 18 0 0x6, 0, 1, 0⟩
def sysCfgRecords : Field := ⟨pid 18 0 0x6, 16, 16, 0⟩
def sysLastCfgSaveGt : Field := ⟨pid 18 0 0x7, 0, 64, 0⟩
/-! R418 -/
def secLlynCopy : Field := ⟨pid 16 0 0x0, 0, 1, 0⟩
def secLlynSvn : Field := ⟨pid 16 0 0x0, 8, 8, 0⟩
def secSvnMin : Field := ⟨pid 16 0 0x0, 16, 7, 0⟩
def secKeySlot : Field := ⟨pid 16 0 0x0, 24, 2, 0⟩
def secKeyRevoked : Field := ⟨pid 16 0 0x0, 28, 4, 0⟩
def secLlynVer : Field := ⟨pid 16 0 0x1, 0, 32, 0⟩
def secBootFailCause : Field := ⟨pid 16 0 0x1, 32, 4, 0⟩
def secSvnAdvance : Field := ⟨pid 16 0 0x2, 0, 1, 0⟩
def secKeyRevoke : Field := ⟨pid 16 0 0x2, 4, 4, 0⟩
def secIdMismatch : Field := ⟨pid 16 0 0x3, 0, 1, 0⟩
def secCabBad : Field := ⟨pid 16 0 0x3, 1, 1, 0⟩
def secNvAbandoned : Field := ⟨pid 16 0 0x3, 2, 1, 0⟩
def secBlockRetired : Field := ⟨pid 16 0 0x3, 3, 1, 0⟩
def secCredit : Field := ⟨pid 16 0 0x10, 0, 11, 0⟩
def secNvBlockWrites : Field := ⟨pid 16 0 0x11, 0, 32, 0⟩
def secNvAbandonCount : Field := ⟨pid 16 0 0x11, 32, 32, 0⟩
def secWearMax : Field := ⟨pid 16 0 0x12, 0, 17, 0⟩
def secWearMean : Field := ⟨pid 16 0 0x12, 32, 17, 0⟩
def secBlocksRetired : Field := ⟨pid 16 0 0x13, 0, 11, 0⟩
def secNvLastGt : Field := ⟨pid 16 0 0x14, 0, 64, 0⟩
def secBoardAddr : Field := ⟨pid 16 0 0x20, 0, 64, 0⟩
def secBoardWrite : Field := ⟨pid 16 0 0x21, 0, 1, 0⟩
def secBoardStatus : Field := ⟨pid 16 0 0x21, 8, 3, 0⟩
/-! R439 -/
def thmRefcomp : Field := ⟨pid 17 0 0x0, 0, 1, 0⟩
def thmSenseFast : Field := ⟨pid 17 0 0x0, 1, 1, 0⟩
def thmSensorsLow : Field := ⟨pid 17 0 0x0, 2, 1, 0⟩
def thmShotPause : Field := ⟨pid 17 0 0x1, 0, 24, 100000⟩
def thmTelemPeriod : Field := ⟨pid 17 0 0x2, 0, 16, 100⟩
def thmHoldRemain : Field := ⟨pid 17 0 0x3, 0, 17, 0⟩
def thmSensorFailEvt : Field := ⟨pid 17 0 0x10, 0, 1, 0⟩
def thmThrottled : Field := ⟨pid 17 0 0x10, 1, 1, 0⟩
def thmTopLevel : Field := ⟨pid 17 0 0x10, 2, 1, 0⟩
def thmThrEntryCount : Field := ⟨pid 17 0 0x11, 0, 32, 0⟩
def thmWarnCount : Field := ⟨pid 17 0 0x11, 32, 32, 0⟩
def thmThrMs : Field := ⟨pid 17 0 0x12, 0, 32, 0⟩
def thmShotPauses : Field := ⟨pid 17 0 0x12, 32, 32, 0⟩
def thmTelemCount : Field := ⟨pid 17 0 0x13, 0, 48, 0⟩
def senSensorRaw (n : Nat) : Field := ⟨pid 17 (0x100 + n) 0x0, 0, 12, 0⟩
def senFailed (n : Nat) : Field := ⟨pid 17 (0x100 + n) 0x0, 16, 1, 0⟩
def senDisagree (n : Nat) : Field := ⟨pid 17 (0x100 + n) 0x0, 20, 4, 0⟩
def senFailGt (n : Nat) : Field := ⟨pid 17 (0x100 + n) 0x1, 0, 64, 0⟩
/-! R295 -/
def ckTxSleep (n : Nat) : Field := ⟨pid 11 (0x20 + n) 0x0, 0, 1, 0⟩
def ckRxSleep (n : Nat) : Field := ⟨pid 11 (0x20 + n) 0x0, 1, 1, 0⟩
def ckLoop (n : Nat) : Field := ⟨pid 11 (0x20 + n) 0x0, 2, 2, 0⟩
def ckLaneState (n : Nat) : Field := ⟨pid 11 (0x20 + n) 0x1, 0, 2, 0⟩
def ckSigDetect (n : Nat) : Field := ⟨pid 11 (0x20 + n) 0x1, 2, 1, 0⟩
def ckCkPresent (n : Nat) : Field := ⟨pid 11 (0x20 + n) 0x1, 4, 1, 0⟩
def ckCkLossCount (n : Nat) : Field := ⟨pid 11 (0x20 + n) 0x1, 32, 32, 0⟩
def ckTxPre (n : Nat) : Field := ⟨pid 11 (0x20 + n) 0x2, 0, 4, 0⟩
def ckTxPost (n : Nat) : Field := ⟨pid 11 (0x20 + n) 0x2, 4, 5, 0⟩
def ckTxSwing (n : Nat) : Field := ⟨pid 11 (0x20 + n) 0x2, 9, 3, 0⟩
def ckRxCtle (n : Nat) : Field := ⟨pid 11 (0x20 + n) 0x2, 12, 4, 0⟩
def ckTxPol (n : Nat) : Field := ⟨pid 11 (0x20 + n) 0x2, 16, 1, 0⟩
def ckRxPol (n : Nat) : Field := ⟨pid 11 (0x20 + n) 0x2, 17, 1, 0⟩
def ckCodeErrCount (n : Nat) : Field := ⟨pid 11 (0x20 + n) 0x10, 0, 32, 0⟩
def ckAlignLossCount (n : Nat) : Field := ⟨pid 11 (0x20 + n) 0x11, 0, 32, 0⟩

end P

end Sys2Proof.Machine
end

