-- ==== Sys2Proof/Machine/Windows.lean ====
section
/-!
DEFINITION. The fields of the BAR0 windows (R17, R18, R60, R328, R338, R339) and of the SMBus registers (R462), written as
fields whose IDs lie above every parameter ID: bar off for BAR0, smb cmd for SMBus. The ring table is not here: a ring is a
record of the state.
-/

namespace Sys2Proof.Machine

/-- The field ID of a BAR0 offset. -/
def bar (off : Nat) : Nat := 2 ^ 32 + off

/-- The field ID of an SMBus command code. -/
def smb (c : Nat) : Nat := 2 ^ 33 + c

namespace W

/-! R18: the mode word is read from the state; the flags are fields. -/
def bootFailed : Field := ⟨bar 0x10004, 0, 1, 0⟩
def cfgDefaulted : Field := ⟨bar 0x10004, 1, 1, 0⟩
def patchRejected : Field := ⟨bar 0x10004, 2, 1, 0⟩
def clkLost : Field := ⟨bar 0x10004, 3, 1, 0⟩
def gtLost : Field := ⟨bar 0x10004, 4, 1, 0⟩
def eccUe : Field := ⟨bar 0x10004, 5, 1, 0⟩
def calFailed : Field := ⟨bar 0x10004, 6, 1, 0⟩
def syncTimeout : Field := ⟨bar 0x10004, 7, 1, 0⟩
def faultHold : Field := ⟨bar 0x10004, 8, 1, 0⟩
/-! R338 -/
def linkSpeed : Field := ⟨bar 0x10008, 0, 3, 0⟩
def linkWidth : Field := ⟨bar 0x10008, 4, 3, 0⟩
def dmaErr : Field := ⟨bar 0x1000C, 0, 1, 0⟩
def ringErr : Field := ⟨bar 0x1000C, 1, 1, 0⟩
def streamLoss : Field := ⟨bar 0x1000C, 2, 1, 0⟩
def pcieAer : Field := ⟨bar 0x1000C, 3, 1, 0⟩
/-! R60: bank b = 0, 1 of the snapshot window. -/
def snapGtLo (b : Nat) : Field := ⟨bar (0x11000 + 0x800 * b), 0, 32, 0⟩
def snapGtHi (b : Nat) : Field := ⟨bar (0x11004 + 0x800 * b), 0, 32, 0⟩
def snapId (b : Nat) : Field := ⟨bar (0x11008 + 0x800 * b), 0, 16, 0⟩
def snapValid (b : Nat) : Field := ⟨bar (0x11008 + 0x800 * b), 16, 1, 0⟩
def snapScope (b : Nat) : Field := ⟨bar (0x11008 + 0x800 * b), 17, 1, 0⟩
def snapUnaligned (b : Nat) : Field := ⟨bar (0x11008 + 0x800 * b), 18, 1, 0⟩
def snapMissed (b : Nat) : Field := ⟨bar (0x11008 + 0x800 * b), 19, 1, 0⟩
def snapSeq (b : Nat) : Field := ⟨bar (0x1100C + 0x800 * b), 0, 32, 0⟩
def snapSlot (b k : Nat) : Field := ⟨bar (0x11010 + 0x800 * b + 8 * k), 0, 64, 0⟩
/-! R339 -/
def tjMax : Field := ⟨bar 0x12000, 0, 12, 0⟩
def thrLevel : Field := ⟨bar 0x12000, 12, 3, 0⟩
def tjWarn : Field := ⟨bar 0x12000, 16, 1, 0⟩
def shutdownLatched : Field := ⟨bar 0x12000, 17, 1, 0⟩
def nvWindow : Field := ⟨bar 0x12000, 18, 1, 0⟩
def refcompOn : Field := ⟨bar 0x12000, 19, 1, 0⟩
def sensorFailed (s : Nat) : Field := ⟨bar 0x12004, s, 1, 0⟩
def sampleGt : Field := ⟨bar 0x12008, 0, 32, 0⟩
def sensorT (s : Nat) : Field := ⟨bar (0x12010 + 4 * s), 0, 12, 0⟩
/-! R462 -/
def alertEn : Field := ⟨smb 5, 0, 3, 7⟩
def alertStat (n : Nat) : Field := ⟨smb 6, n, 1, 0⟩

end W

end Sys2Proof.Machine
end

