-- ==== Sys2Proof/Machine/State.lean ====
section
/-!
DEFINITION. The state of the Crivon as plain data, its reset value, and the reasons a step could stop. Parameter fields, BAR0
window fields and SMBus fields live in `regs`, one entry per field (Fields.lean, Windows.lean); on-chip SRAM lives in `mem`;
everything the spec gives the machine that is neither stands in the sub-structures, one per chapter.
-/

namespace Sys2Proof.Machine

/-- The reasons a step could stop with a fault. No meaning of this model raises one: every command has the effect the spec
gives it, and a command whose condition does not hold leaves the chip as it is (safe: nothing is proved of a stop). -/
inductive Fault where
  /-- Raised by no meaning; kept so that the type has a name a statement can rule out. Safe. -/
  | unreachable
  deriving DecidableEq, Repr

/-- The reasons a command is not carried out by the model. -/
inductive Refusal where
  /-- Raised only by a dispatch arm of a command that has no meaning yet. Safe: it claims nothing of the command. -/
  | notModelled (mnemonic : String)
  deriving DecidableEq, Repr

/-! ### What the block puts out -/

/-- A character of the Henmund link: K28.5, K27.7 or a data character (R259). -/
inductive LinkChar where
  | k285 | k277
  | data (b : Nat)
  deriving DecidableEq, Repr

/-- What a lane's transmit pins carry while a frame is sent: its characters, a test pattern (R291), or the characters the lane
receives (R290). -/
inductive LanePins where
  | chars (l : List LinkChar)
  | prbs7 | prbs31
  | echo
  deriving DecidableEq, Repr

/-- What leaves the Crivon: responses, host writes, vectors, frames, pin changes and converter starts. -/
inductive Output where
  /-- A mailbox response entry (R373): ring function and mailbox, opcode, CTAG, status, FINAL, SCHEDULED, ACCEPT_GT, DONE_GT, results. -/
  | rsp (mb : Mbox) (opcode ctag status : Nat) (final scheduled : Bool) (acceptGt doneGt : Nat) (res : List Nat)
  /-- A write to host memory by a function. -/
  | hostWrite (fn addr : Nat) (bytes : List Byte)
  /-- A read request to host memory by a function: address and length. -/
  | hostRead (fn addr len : Nat)
  /-- An MSI-X vector of a function, with the address and data of its table entry (R336, R345, R346). -/
  | vector (fn vec addr data : Nat)
  /-- The columns of a Henmund frame sent on a group, from its start column to its CRC column, as its four lanes carry them
  (R265–R273). -/
  | frame (lg : Nat) (lanes : List LanePins)
  /-- A MARK pin's edge: pin, level and the fine time it leaves the pin (R46, R200, R324). -/
  | mark (pin : Nat) (level : Bool) (at256 : Int)
  /-- A shelf's first sample: target number, shelf, slot GT, the fine time it leaves the pin (R46, R72, R97). -/
  | shelf (t : Target) (s : Nat) (gt : Nat) (at256 : Int)
  /-- A BIA output's new code and span, the voltage it moves to, and the GT (R103–R105). -/
  | bias (o code span : Nat) (volts : Rat) (gt : Nat)
  /-- What an SMBus transfer returns (R462). -/
  | smbus (bytes : List Nat)
  /-- What a JTAG data register shifts out (R463). -/
  | jtag (v : Nat)
  /-- A read of the boot flash by the SPI master: command, address bytes and address, dummy cycles, data lines, bytes read, and D of
  SCK = REFCLK / D (R402). -/
  | spi (cmd addrBytes addr dummy lanes n div : Nat)
  /-- What a BAR0 read returns (R333). -/
  | barRead (fn : Nat) (bar : BarNo) (off v : Nat)
  deriving DecidableEq, Repr

/-! ### Modes, clocks and supplies (01, 16, 18) -/

/-- The supplies, the reference and the synthesizers as the monitors see them (R13, R14, R26, R419–R421, R459). -/
structure Power where
  /-- Supplies valid (R419). -/
  supplies : Bool
  /-- The tick count at which the supplies became valid. -/
  suppliesAt : Nat
  /-- The bias loader has run since supplies valid (R107). -/
  biasLoaded : Bool
  /-- RESET_N as the filter has it: high (R459). -/
  resetN : Bool
  /-- REFCLK, the fabric PLL, DAC PLL A, DAC PLL B, the ADC PLL and the SerDes PLL (R13): the tick count from which each has been
  present or locked without a break; none while no such tick is known (R14, R26). -/
  goodAt : List (Option Nat)
  /-- The forced zero of R14 is in force. -/
  forcedZero : Bool
  /-- The analog core's converters are powered (R27). -/
  analog : Bool
  /-- The SHUTDOWN latch of the VDD_AON domain (R421). -/
  aonLatch : Bool
  deriving DecidableEq, Repr

/-- Who is to receive a command's final response: mailbox, CTAG, opcode, the acceptance GT, and the results it returns when
it succeeds and nothing at its end gives others (R374). -/
structure Issuer where
  mb : Mbox
  ctag : Nat
  opcode : Nat
  acceptGt : Nat
  res : List Nat
  deriving DecidableEq, Repr

/-- The operating mode and the transition under way (R18–R23). -/
structure Modes where
  mode : Mode
  prev : Mode
  /-- The target of the transition in progress; IN_TRANSITION is 1 while there is one (R18). -/
  trans : Option Mode
  /-- The transition in progress was commanded with this GT; 0 means as soon as allowed. -/
  transGt : Nat
  /-- The transition in progress is a fault's entry to HOLD (R20). -/
  fault : Bool
  /-- The tick count at which the transition was accepted; at which a fault's takes place. -/
  transAt : Nat
  /-- BENCH was entered from FALLBACK (else STANDBY): the mode it may return to (R20). -/
  benchFrom : Mode
  /-- The GT of the RUN transition in force: the run GT of the run in progress or pending (R208). -/
  runGt : Nat
  /-- A configuration load passed its check word since FALLBACK was entered (R20). -/
  cfgPassed : Bool
  /-- Verification failed: BOOT is left only through RESET or SHUTDOWN, whatever becomes of the flag BOOT_FAILED (R24). -/
  bootStopped : Bool
  /-- The boot ROM waits at a flash read until REFCLK is present and the fabric PLL locked (R26): what the sequence then finds. -/
  bootWaits : Option BootInput
  /-- Who receives the final response of the transition in progress (R374). -/
  transIssuer : Option Issuer
  deriving DecidableEq, Repr

/-! ### The timeline (02) -/

/-- What a scheduled action does at its tick (R51, R54). -/
inductive Act where
  | drawer (d : Nat)
  | group (id : Nat) (adapt : Bool)
  | calSwitch (r : Nat)
  | arm (t : Nat)
  deriving DecidableEq, Repr

/-- An entry of the scheduled-action queue (R51–R53). -/
structure Sched where
  act : Act
  gt : Nat
  /-- Named with GT 0: never cancelled by R53. -/
  gt0 : Bool
  /-- Accepted while GT_STATE was ALIGNED or HOLDOVER (R53). -/
  vouched : Bool
  issuer : Option Issuer
  deriving DecidableEq, Repr

/-- A pending snapshot (R55–R57): its GT, ID and scope, the node that issued it, and who is to receive final responses. -/
structure Snap where
  gt : Nat
  id : Nat
  mesh : Bool
  node : Nat
  issuers : List Issuer
  deriving DecidableEq, Repr

/-- A snapshot latched (or missed), waiting for its copy into a bank (R59). -/
structure Latch where
  gt : Nat
  id : Nat
  mesh : Bool
  unaligned : Bool
  missed : Bool
  bank : Nat
  totals : Tab Nat
  deriving DecidableEq, Repr

/-- The beacon state of one link group (R38, R39, R49, R269, R270). -/
structure BeaconPort where
  /-- A beacon has been received since the group began to carry traffic. -/
  seen : Bool
  /-- The last beacon's transmit stamp and our stamp of its reception, in 1/256 tick: what the next beacon echoes. -/
  lastTx : Nat
  lastRx : Nat
  /-- The tick count of the last beacon, from which the next miss is counted; none since timing frames were last off (R49). -/
  lastClk : Option Nat
  /-- Consecutive misses (R49). -/
  missed : Nat
  /-- The GT from which the next beacon is due to be sent, if one is (R270). -/
  txDue : Option Nat
  deriving DecidableEq, Repr

/-- Where a follower stands in the alignment of R40. -/
inductive AlignStep where
  | idle | waitUp | measure | load | collect | verify
  /-- Waiting for an epoch load (R35). -/
  | waitEpoch
  deriving DecidableEq, Repr

/-- Global Timeline (02): the count, its state, and everything scheduled. -/
structure Timeline where
  /-- GT (R29). -/
  gt : Nat
  /-- GT counts (BOOT to HOLD); false in RESET and SHUTDOWN. -/
  counting : Bool
  /-- GT_STATE, coded as R31 gives. -/
  state : Nat
  /-- The last EPOCH sample was high (R36). -/
  epochHigh : Bool
  /-- The effect tick of the loading pulse (R33), as a tick count. -/
  epochAt : Option Nat
  /-- The GT of the epoch load has been made, so that R36 checks later pulses. -/
  epochLoaded : Bool
  align : AlignStep
  /-- Exchanges counted in the current step of R40. -/
  alignN : Nat
  /-- The window of θ (R39), newest first, at most 16. -/
  thetas : List Int
  /-- The pending change of TL_PHASE (R43). -/
  phasePending : Int
  /-- The tick count at which SYNCING was entered (R35). -/
  syncAt : Nat
  beacon : List BeaconPort
  sched : List Sched
  snaps : List Snap
  /-- Mesh snapshots already queued: issuing node and ID (R57). -/
  snapSeen : List (Nat × Nat)
  /-- Latches waiting for their copies, oldest first (R59). -/
  latches : List Latch
  /-- The tick count at which the copy in progress started. -/
  copyAt : Nat
  /-- The bank the next latch is given: 0 or 1 (R59). -/
  nextBank : Nat
  deriving DecidableEq, Repr

/-! ### The event matrix (12) -/

/-- An event between its producer and its consumer input: channel, input, watch bit and the ticks of raise and arrival (R317, R319). -/
structure Flight where
  ch : Nat
  cons : Nat
  watch : Bool
  raised : Nat
  arrive : Nat
  deriving DecidableEq, Repr

/-- Event Matrix (12). -/
structure Events where
  flights : List Flight
  /-- Per channel, the arrival ticks of the events it delivered in the last 128 ticks (R326). -/
  history : Tab (List Nat)
  /-- Per consumer input, the tick of its last delivery and the channels that delivered in it (R320). -/
  arrivals : Tab (Nat × List Nat)
  /-- Channels stopped by the gate in this tick, so that several producers count one event (R317). -/
  blocked : List Nat
  /-- The settings of the channels written in this tick, as they stood at its start: control word, EN_ROW 0–3 (R319). -/
  old : Tab (List Nat)
  /-- Per MARK pin, the tick counts at which an event pulse begins and ends (R324). -/
  pulses : Tab (Nat × Nat)
  /-- MARK_SRC of the pins whose source was written in this tick, as it stood at its start (R324). -/
  srcOld : Tab Nat
  deriving DecidableEq, Repr

/-! ### Sessions, drawers and groups (14) -/

/-- An open session (R370): its function and its CMD and RSP rings. -/
structure Session where
  fn : Nat
  cmdRing : Nat
  rspRing : Nat
  deriving DecidableEq, Repr

/-- A pending write of a drawer (R384): parameter ID, value and mask of pending bits. -/
structure Entry where
  id : Nat
  value : Nat
  mask : Nat
  deriving DecidableEq, Repr

/-- A drawer (R384, R385): the session that owns it and its entries, in the order in which their IDs first entered. -/
structure Drawer where
  owner : Nat
  entries : List Entry
  deriving DecidableEq, Repr

/-- A write to a timed-path field accepted in HOLD, or held over for its next commit (R19, R384): parameter, value and mask. -/
structure HeldWrite where
  id : Nat
  value : Nat
  mask : Nat
  /-- KIND and DETAIL of its audit entry, and whether a drawer commit, a TXC slot's, made it (R390). -/
  who : Nat
  commit : Bool
  txc : Bool
  deriving DecidableEq, Repr

/-- Mailbox and Parameters (14). -/
structure Mail where
  sessions : Tab Session
  drawers : Tab Drawer
  /-- The groups in ADAPT, by group key (R381, R382). -/
  adapt : List Nat
  /-- The tick count of the last audit entry (R391). -/
  auditAt : Nat
  /-- The tick count at which the last CFG_SAVE was accepted (R396). -/
  cfgSaveAt : Option Nat
  /-- Writes that wait for HOLD to be left (R19), oldest first. -/
  held : List HeldWrite
  deriving DecidableEq, Repr

/-! ### Drive, probe, flux and bias outputs (03, 04) -/

/-- A stretch of an oscillator's past: from the tick count `at_` on, its word and the accumulator it started from. -/
structure Turn where
  fw : Nat
  acc : Nat
  at_ : Nat
  deriving DecidableEq, Repr

/-- A tone's oscillator and frame (R63, R68–R70). The accumulator at tick count `at` is `acc`; it advances by 24 × fw a tick. -/
structure Tone where
  fw : Nat
  acc : Nat
  at_ : Nat
  frame : Nat
  /-- What held before the tick `at_`, newest first: a channel mixes samples of past ticks down (R118, R123). -/
  past : List Turn
  deriving DecidableEq, Repr

/-- What started a shelf on a lane (R77, R78, R82). -/
inductive StartKind where
  | play | chain | jump
  deriving DecidableEq, Repr

/-- A play interval [start, stop) of a lane, latched at its commit point (R74, R77). -/
structure Play where
  shelf : Nat
  start : Nat
  stop : Nat
  /-- A PLAY's amplitude, in 1/32,768; none for a shelf started by chaining or a jump (R63). -/
  amp : Option Int
  /-- Zero amplitude for its duration: an underrun (R84) or a refusal by R80. -/
  silent : Bool
  /-- It underruns: its port flags it when the shelf was due to start (R84). -/
  underrun : Bool
  kind : StartKind
  /-- The GT of the commit point that latched it. -/
  latched : Nat
  /-- Its successor, as its descriptor gives it at the commit point (R78, R84). -/
  next : Option Nat
  /-- The shelf's first sample has been started (R77). -/
  begun : Bool
  deriving DecidableEq, Repr

/-- A pending jump (R82, R83): its shelf (none: STOP), its boundary and its request tick. -/
structure Jump where
  shelf : Option Nat
  boundary : Nat
  req : Nat
  deriving DecidableEq, Repr

/-- The play state of one target (R73, R92): the intervals in play, latched or still holding a shelf, the pending jump and
the amplitude in force. -/
structure Lane where
  plays : List Play
  jump : Option Jump
  amp : Int
  deriving DecidableEq, Repr

/-- A bias output's string (R104–R106, R109, R110): codes on their way in, and the span change in progress. -/
structure BiasOut where
  /-- High-impedance with its pull-down (R107, R419, R420). -/
  hiZ : Bool
  /-- Codes due to enter the string, with their tick counts. -/
  updates : List (Nat × Nat)
  /-- The tick count of the span switch, while SPAN_BUSY. -/
  switchAt : Option Nat
  pendCode : Nat
  pendSpan : Nat
  /-- The tick count in which an output that drives its fault value follows a new one (R111). -/
  followAt : Option Nat
  deriving DecidableEq, Repr

/-- An FLX port's correction filter (R95, R96): s_0 to s_3, and the FIR history, newest first, carried without loss (R94). -/
structure Filter where
  s : List Rat
  hist : List Rat
  deriving DecidableEq, Repr

/-- A shelf's first sample in the pipeline: the tick count in which it reaches the pin, its target, shelf, slot GT and the fine
time it leaves the pin (R72, R97). -/
structure Leaving where
  due : Nat
  t : Target
  shelf : Nat
  gt : Nat
  at256 : Int
  deriving DecidableEq, Repr

/-- Drive and Probe Synthesis, Flux and Bias Outputs. -/
structure Synth where
  /-- Tones by target key (tones only). -/
  tones : Tab Tone
  /-- Lanes by target key. -/
  lanes : Tab Lane
  bias : Tab BiasOut
  /-- Shelves written in this tick, as they stood at its start: START, LENGTH, RATE, NEXT, NEXT_EN, STREAM, STATE (R76). -/
  shelfOld : Tab (List Nat)
  filters : Tab Filter
  /-- First samples on their way to the pins; discarded by a lane stop (R86, R99). -/
  pipe : List Leaving
  /-- Per FLX port, the codes of the ticks whose samples are in the pipeline, newest first: the second sample of each (R97). -/
  codes : Tab (List Int)
  /-- Per PRB port whose output an input samples by the internal path, the 24 codes of each tick's stream, newest first (R141). -/
  loop : Tab (List (List Int))
  /-- BENCH: the level of the SQUARE outputs and the toggling MARK pins (R28). -/
  benchHigh : Bool
  /-- The tick count at which BENCH was entered: where the RAMP codes start from (R28). -/
  benchAt : Nat
  deriving DecidableEq, Repr

/-! ### Read-out inputs and calibration (05) -/

/-- An integration window (R124–R126, R145–R147), open or in its channel's result stage. -/
structure Window where
  /-- Global channel, 0–287, and slot 0 or 1 (R144, R145). -/
  ch : Nat
  w : Nat
  start : Nat
  /-- Its end GT n + L; the tick of an abort once aborted. -/
  stop : Nat
  /-- The sequencer whose ACQ opened it, and the number of the shot it belongs to (R205). -/
  sq : Nat
  shot : Nat
  /-- The accumulator and the sample index (R145). -/
  accI : Int
  accQ : Int
  idx : Nat
  /-- The start, in common time, in 1/256 tick (R47, R124). -/
  stamp : Int
  kchg : Bool
  /-- The first switch whose mixed stretch it may contain: it opened before that switch's GT + 39 (R132). -/
  sw : Option Nat
  conv : Bool
  aborted : Bool
  /-- It has closed; its result entry is due at this GT (R146). -/
  due : Option Nat
  deriving DecidableEq, Repr

/-- A channel's own oscillator (R122), as a tone's. -/
structure Osc where
  fw : Nat
  acc : Nat
  at_ : Nat
  past : List Turn
  deriving DecidableEq, Repr

/-- A switch of an input's corrections (R131, R132): its GT, its tick count, and the eight words it replaced. -/
structure SetSwitch where
  gt : Nat
  clk : Nat
  old : List Nat
  deriving DecidableEq, Repr

/-- An input's estimator and correction stage (R120, R127–R132). -/
structure Estimator where
  /-- Offsets and gains of the blocks that updated the estimate, newest first (R128). -/
  hist : List (List (Int × Int))
  /-- Skews of the blocks that updated them: the blocks above without the skew-blind ones (R127). -/
  skews : List (List Int)
  /-- The tick count at which the ADC began to sample, where the blocks start from. -/
  from_ : Option Nat
  /-- The block under way holds an overrange sample (R120). -/
  ovr : Bool
  /-- A block has ended in this tick; true: it held an overrange sample. -/
  ended : Option Bool
  /-- Counted blocks since the last complete estimate; the first needs 256 (R129, R130). -/
  since : Nat
  /-- The latest complete estimate. -/
  latest : Option (List (Int × Int × Int))
  /-- A complete estimate waits for the first shot boundary after this tick count (R130). -/
  waiting : Option Nat
  /-- The complete estimate as it stood at the start of the tick `now` names (R131). -/
  prior : Option (List (Int × Int × Int))
  /-- The tick count at which SW_MODE BOUNDARY brings the estimate into force, outside RUN (R130). -/
  autoAt : Option Nat
  /-- A switch at GT 0 is due in the tick of this tick count (R130). -/
  soonAt : Option Nat
  /-- The tick count of the last switch: two switches in one tick act as one (R131). -/
  lastAt : Option Nat
  /-- The switches of late, newest first (R132). -/
  switches : List SetSwitch
  deriving DecidableEq, Repr

/-- A gap declared by a CALW slot on one port (R133–R136). -/
structure Gap where
  port : Nat
  start : Nat
  taken : Bool
  /-- The sequencer whose CALW declared it; none for a window of a CALIBRATE pass (R137). -/
  sq : Option Nat
  /-- The window began before or ran into a clock loss: it does not count (R26). -/
  spoiled : Bool
  deriving DecidableEq, Repr

/-- Read-out Input Chain. -/
structure Readout where
  windows : List Window
  oscs : Tab Osc
  ests : Tab Estimator
  gaps : List Gap
  /-- Per port number, the tick count at which its last pass completed (R133). -/
  passAt : Tab Nat
  /-- Ports a CALIBRATE pass still has to serve (R137). -/
  calTodo : List Nat
  /-- The tick count of the last periodic or written save (R140). -/
  saveAt : Nat
  /-- Channels whose paired word was illegal in the last tick (R123). -/
  rangeBad : List Nat
  /-- The applied DAC set of a port: 0 none, 1 factory, 2 a pass (R136, R139). -/
  dacSet : Tab Nat
  deriving DecidableEq, Repr

/-! ### Discrimination engines (06) -/

/-- An entry of an engine's result queue (R146, R147): local channel, slot, value, flags, the window's end GT, and what
acquisition and the shot need: sequencer, shot and the tick the entry entered the queue (R162). -/
structure Result where
  c : Nat
  w : Nat
  i : Int
  q : Int
  aborted : Bool
  kchg : Bool
  split : Bool
  conv : Bool
  sat : Bool
  endGt : Nat
  sq : Nat
  entered : Nat
  deriving DecidableEq, Repr

/-- Where a result of an instruction goes (R157). -/
inductive Dest where
  | g (n : Nat) (v : BitVec 64)
  | a (n : Nat) (v : BitVec 56)
  | flags (z n c v : Bool)
  | zero (z : Bool)
  | cb (b base len : Nat)
  | ptr (b v : Nat)
  | srm (v : Nat)
  /-- The engine stops at the end of the tick, with HALTED set (R174). -/
  | stop
  /-- A data word (ST): it reaches memory at the end of its tick, after any bulk-port write (R151). -/
  | mem (addr v : Nat)
  deriving DecidableEq, Repr

/-- A result on its way to its register, with the tick count in which it can first be read. -/
structure Late where
  due : Nat
  dest : Dest
  deriving DecidableEq, Repr

/-- A control transfer waiting for its delay slots (R158). -/
structure Xfer where
  slots : Nat
  /-- None: a branch not taken; its two delay slots issue all the same. -/
  target : Option Nat
  /-- It ends a handler: flags return from SFL (R161, R176). -/
  rts : Bool
  deriving DecidableEq, Repr

/-- An active repeat (R159): first and last address of its block, and the passes still to make, this one included. -/
structure Rep where
  first : Nat
  last : Nat
  left : Nat
  deriving DecidableEq, Repr

/-- A discrimination engine's program processor (R152–R162). -/
structure Engine where
  pc : Nat
  g : Tab (BitVec 64)
  a : Tab (BitVec 56)
  p : Tab Nat
  fz : Bool
  fn : Bool
  fc : Bool
  fv : Bool
  /-- LK; none before any CALL since the start (R173). -/
  lk : Option Nat
  spc : Nat
  sfl : Nat
  srm : Nat
  /-- Innermost first. -/
  reps : List Rep
  xfer : Option Xfer
  late : List Late
  /-- A handler runs (R161). -/
  handler : Bool
  /-- IDLE has stopped issue until a request is accepted. -/
  idle : Bool
  /-- The tick count from which the engine may issue (R161, R174). -/
  issueAt : Nat
  queue : List Result
  /-- CUR and whether its outcome has been posted (R164, R167). -/
  cur : Option Result
  posted : Bool
  msg : BitVec 64
  /-- The tick count since which HOST, TICK are pending. -/
  hostSince : Option Nat
  tickSince : Option Nat
  /-- The tick count in which TICK_PERIOD was last written (R160). -/
  periodAt : Nat
  /-- The tick count of the last start, and of the last fault (R162, R173). -/
  startAt : Nat
  faultAt : Option Nat
  deriving DecidableEq, Repr

/-- An accepted tracking write waiting to take effect (R168–R170). -/
structure Track where
  engine : Nat
  slot : Nat
  id : Nat
  value : Nat
  /-- The tick in which it takes effect, or (TRK_APPLY 0) the sequencer whose first boundary after `after` applies it. -/
  at_ : Option Nat
  sq : Nat
  after : Nat
  issued : Nat
  deriving DecidableEq, Repr

/-- Discrimination Engines. -/
structure Dxes where
  eng : Tab Engine
  track : List Track
  /-- The tick count of the last accepted SEED_SAVE (R172). -/
  seedSaveAt : Option Nat
  /-- Classifier entries written in this tick, as they stood at its start, by engine × 256 + entry (R166). -/
  clsOld : Tab (List Nat)
  deriving DecidableEq, Repr

/-! ### Timeline sequencers (07) -/

/-- A lane's binding (R180): its kind, its tone or FLX port, its channel. -/
structure Bind where
  kind : Nat
  tone : Option Target
  chan : Option Nat
  deriving DecidableEq, Repr

/-- A slot (R186), with the shot it belongs to (R205). -/
structure Slot where
  time : Nat
  /-- The posting instruction's opcode (R193). -/
  kind : Nat
  lane : Nat
  /-- F[1] of an FRM: replace the frame (R193). -/
  rep : Bool
  lb : Bool
  sel : Nat
  op1 : Nat
  op0 : Nat
  shot : Nat
  /-- The tick count in which it was posted (R187). -/
  posted : Nat
  /-- The slot time of the SHOT that opened its shot: its reader's boundary GT (R218). -/
  boundary : Nat
  deriving DecidableEq, Repr

/-- A latched slot waiting for its time: what it acts on, as bound at its commit point (R182, R189), and its operand. -/
structure Latched where
  slot : Slot
  /-- The operand after the late-bind choice (R226). -/
  op : Nat
  /-- LANE_BIND in force at the commit point. -/
  bind : Bind
  /-- A boundary only: a LATE SHOT or END (R188). -/
  lateOnly : Bool
  /-- When it acts. -/
  at_ : Nat
  deriving DecidableEq, Repr

/-- A checkpoint (R209): PC, stacks and registers as they stood just before its SHOT issued. -/
structure Check where
  pc : Nat
  loops : List (Nat × Nat)
  calls : List Nat
  s : Tab (BitVec 64)
  deriving DecidableEq, Repr

/-- The readiness of a selector's value (R219). -/
inductive Ready where
  | fresh | notReady | stale
  deriving DecidableEq, Repr

/-- What a selector yields: value, alternative, readiness, and the decision entry of a DECISION selector (R219). -/
structure Sel where
  value : Nat
  alt : Bool
  ready : Ready
  entry : Option Nat
  deriving DecidableEq, Repr

/-- A sequencer (R183–R211). -/
structure Sequencer where
  issuing : Bool
  pc : Nat
  /-- The tick count of the first issue tick of the instruction at PC. -/
  first : Nat
  /-- The binding of the instruction's lane as it stood at the start of its first issue tick (R211), once noted. -/
  bindAt : Option Bind
  cursor : Nat
  s : Tab (BitVec 64)
  /-- Innermost first: the count left and the address of the loop body (R199). -/
  loops : List (Nat × Nat)
  calls : List Nat
  /-- Posted and not yet latched, in posting order. -/
  slots : List Slot
  /-- Slots that have entered the slot table: where the next one goes (R186). -/
  posted : Nat
  /-- Latched and not yet acted. -/
  latched : List Latched
  /-- Slot time of the last SHOT posted in this run (R196, R197). -/
  lastShot : Option Nat
  /-- SHOTs posted so far in this run: the number of the shot being posted. -/
  shotsPosted : Nat
  /-- Flags by shot number, for shots posted or in progress (R205, R206). -/
  flags : Tab Nat
  /-- Started or resumed, and no boundary has executed since: the shot in progress is the first (R205). -/
  opening : Bool
  /-- The number of the shot in progress, if one is (R203, R205). -/
  progress : Option Nat
  /-- Checkpoints of posted SHOTs not yet executed, oldest first; END entries hold none (R184, R185). -/
  checks : List (Option Check)
  /-- The checkpoint of the last SHOT executed in this run (R209). -/
  check : Option Check
  /-- A WAITO or BRO is stalled since this tick (R197). -/
  waiting : Option Nat
  /-- The stalled instruction has met a stale value: BRO_STALE has been counted (R229). -/
  staleSeen : Bool
  /-- The GT in which the stalled instruction's value became visible, noted when a trap keeps it from resuming (R197, R249). -/
  seen : Option Nat
  /-- What the selector of a WAITO or BRO at PC yielded as the tick began (R197, R229). -/
  sampled : Option Sel
  /-- The cause of the stall in this tick, coded as STALL_CAUSE (R213). -/
  stall : Nat
  /-- A microword has raised a fault: the tick count in which its trap is taken, and the code (R211, R248). -/
  faulting : Option (Nat × Nat)
  deriving DecidableEq, Repr

/-- Timeline Sequencers. -/
structure Sequencers where
  sq : Tab Sequencer
  /-- The bindings changed in this tick, as they stood at its start, by global lane (R182). -/
  bindOld : Tab Bind
  /-- Per MARK pin: driven high by a slot, and the GT at which its width pulse ends (R200). -/
  markHigh : Tab Bool
  markEnd : Tab Nat
  deriving DecidableEq, Repr

/-! ### Outcomes and feedback (08) -/

/-- An outcome record on the outcome bus (R215, R216). -/
structure OutRec where
  engine : Nat
  ch : Nat
  val : Nat
  flags : Nat
  endGt : Nat
  /-- The tick count in which it becomes visible. -/
  due : Nat
  deriving DecidableEq, Repr

/-- A decision, formed at its read tick (R222): index, entry, readiness of its sources and the tick it becomes visible. -/
structure Decision where
  visible : Nat
  index : Nat
  entry : Nat
  /-- Every source was VALID; the earliest END_GT among the sources (none: no source). -/
  valid : Bool
  minEnd : Option Nat
  stale : Bool
  deriving DecidableEq, Repr

/-- A decision unit (R220–R223). -/
structure DecUnit where
  /-- The tick counts in which it is due to read. -/
  reads : List Nat
  forming : List Decision
  now : Option Decision
  /-- The entry address read at the last evaluation (R223). -/
  lastEntry : Option Nat
  /-- Not ready until this tick count (R223). -/
  notBefore : Nat
  /-- What a read due in this tick finds, as everything stood at the start of the tick (R222). -/
  sample : Option Decision
  deriving DecidableEq, Repr

/-- A record held during a switch-over gap, with the group it arrived on (R234). -/
structure HeldRec where
  lg : Nat
  word : Nat
  deriving DecidableEq, Repr

/-- Outcomes and Feedback. -/
structure Outcomes where
  bus : List OutRec
  units : Tab DecUnit
  /-- Transmit queues by group, the pair's queue at its lower group (R230): records, oldest first. -/
  queues : Tab (List Nat)
  /-- Why a remote register is STALE: bit 0 a switch-over gap, bit 1 group down, bit 2 peer gone (R234). -/
  stale : Tab Nat
  held : List HeldRec
  deriving DecidableEq, Repr

/-! ### Mesh links (10) -/

/-- A timing frame waiting on a group (R267, R274): a snapshot or a control frame, its payload bytes as words, and the tick
count before which it may not start. -/
structure Timing where
  kind : TimingKind
  words : List Nat
  notBefore : Nat
  deriving DecidableEq, Repr

/-- A BULK frame kept until it is acknowledged (R286, R288). -/
structure BulkFrame where
  bseq : Nat
  last : Bool
  data : List Byte
  deriving DecidableEq, Repr

/-- The sending side of a bulk channel (R286, R288). -/
structure BulkTx where
  /-- BSEQ of the next new frame. -/
  next : Nat
  unacked : List BulkFrame
  /-- Frames to be sent again, oldest first. -/
  resend : List BulkFrame
  /-- Frames of a message that wait at the channel. -/
  waiting : List BulkFrame
  /-- The tick count at which NEXT_BSEQ last advanced, or the first frame was sent. -/
  since : Nat
  deriving DecidableEq, Repr

/-- The receiving side of a bulk channel (R287): NEXT_BSEQ, an acknowledgement due, and when the last was sent. -/
structure BulkRx where
  next : Nat
  ackDue : Bool
  ackAt : Option Nat
  /-- The bytes of the message under way (R356). -/
  entry : Nat
  deriving DecidableEq, Repr

/-- A link group (R262–R264, R274, R281–R288). LG_STATE itself is a field. -/
structure Group where
  /-- The tick count since which R263's conditions have held, if they hold. -/
  goodSince : Option Nat
  /-- The tick count at which the group went DOWN; at which its switch-over gap began. -/
  downAt : Nat
  gapAt : Option Nat
  /-- The tick count at which the group last left TRAINING for ACTIVE (R281). -/
  upAt : Option Nat
  /-- Ticks of frames that failed their CRC in the last 1,024 (R264). -/
  crcFails : List Nat
  /-- When the last timing frame started (R274). -/
  lastTiming : Option Nat
  /-- The tick in which the frame in flight, with its idle column, ends; the period whose outcome or bulk frame has
  started (R274). -/
  busyTo : Nat
  period : Option Nat
  timing : List Timing
  /-- Outcome frames that the pair's active member has sent and this member has still to send, oldest first (R282). -/
  mirror : List (List Nat)
  tx : Tab BulkTx
  rx : Tab BulkRx
  /-- The channel served last (R288). -/
  lastChan : Nat
  deriving DecidableEq, Repr

/-- Mesh Links. -/
structure Links where
  groups : Tab Group
  /-- Lanes whose transmitter is ready; LN00–LN15 then CK0–CK3 (R289). -/
  txReady : List Nat
  /-- When a transmitter was woken. -/
  wokenAt : Tab Nat
  /-- The control sequence number of the next own control frame (R273). -/
  cseq : Nat
  /-- The last 256 keys seen: ORIGIN_SERIAL and CSEQ, newest first (R273). -/
  seen : List (Nat × Nat)
  /-- When JOIN_REQ was first and last sent since it was answered (R276). -/
  joinFirst : Option Nat
  joinLast : Nat
  /-- A JOIN_NAK forbids automatic requests (R277). -/
  joinBarred : Bool
  /-- The authority's table: the serial that holds an ID (R277). -/
  holders : Tab Nat
  /-- Own frames on their way through a near-end loop: the tick count in which each frame's check completes, and the reception
  it is (R290). -/
  looped : List (Nat × Instr)
  deriving DecidableEq, Repr

/-- A bulk channel with nothing sent. -/
def BulkTx.reset : BulkTx := { next := 0, unacked := [], resend := [], waiting := [], since := 0 }

/-- A bulk channel with nothing received. -/
def BulkRx.reset : BulkRx := { next := 0, ackDue := false, ackAt := none, entry := 0 }

/-- A link group at reset. -/
def Group.reset : Group :=
  { goodSince := none, downAt := 0, gapAt := none, upAt := none, crcFails := [], lastTiming := none, busyTo := 0, period := none, timing := [], mirror := [], tx := [], rx := [],
    lastChan := 63 }

/-- The links at reset. -/
def Links.reset : Links :=
  { groups := [], txReady := [], wokenAt := [], cseq := 0, seen := [], joinFirst := none, joinLast := 0,
    joinBarred := false, holders := [], looped := [] }

/-! ### Acquisition and trigger (11) -/

/-- A record (R297, R298): type, source, flags, payload words; the tick it was offered in and, for a block, the span of its
pin instants in 1/256 tick (R310). -/
structure Rec where
  rtype : Nat
  src : Nat
  flags : Nat
  words : List Nat
  offered : Nat
  lo : Int
  hi : Int
  deriving DecidableEq, Repr

/-- A stream (R309–R314). -/
structure Stream where
  /-- Records that await the writer, in stream order. -/
  staged : List Rec
  /-- The most recent blocks of a triggered stream, oldest first (R310). -/
  held : List Rec
  /-- Words of the oldest of them, header first, that the ring already has (R313, R343). -/
  sent : Nat
  /-- Records written since the last enable (R297). -/
  seq : Nat
  /-- Records lost since the last GAP, and the GT of the first (R314). -/
  lost : Nat
  lostGt : Nat
  /-- The window being emitted, [F − PRE, F + POST) in 1/256 tick (R310). -/
  win : Option (Int × Int)
  /-- The pin instant from which on every block offered is still held, and the end of the newest block offered; none before the
  first block since the last enable (R310). -/
  since : Option Int
  upto : Option Int
  /-- The function and session that enabled it (R312, R334, R371). -/
  fn : Nat
  ses : Nat
  deriving DecidableEq, Repr

/-- A candidate fire (R307): its time in 1/256 tick and the firing node. -/
structure Cand where
  f : Int
  node : Nat
  remote : Bool
  /-- The trigger word at a local fire (R298). -/
  word : Nat
  deriving DecidableEq, Repr

/-- A trigger unit (R302–R307): TU_STATE, and what its state carries. -/
structure TrigUnit where
  /-- TU_STATE, coded as R316 gives. -/
  state : Nat
  /-- The tick count at which a DISARM takes effect (R304). -/
  disarmAt : Option Nat
  /-- It matched in the last tick, and was armed there (R302). -/
  prev : Bool
  /-- It matches in this tick (R302). -/
  matched : Bool
  /-- Candidates, oldest first (R307). -/
  cands : List Cand
  /-- The tick at which SETTLING ends, and at which HOLDOFF ends, as a tick count (R305, R307). -/
  settleAt : Nat
  rearmAt : Nat
  /-- The last decided F, full (R307). -/
  lastF : Option Int
  deriving DecidableEq, Repr

/-- Acquisition and Trigger. -/
structure Acq where
  streams : Tab Stream
  units : Tab TrigUnit
  /-- The trigger word's bits of this tick: levels, edges with their stamps, events, fires, and the OSEL fields that took a
  record in it (R301, R302). -/
  level : Nat
  edges : Tab Int
  evBits : Nat
  fireBits : Nat
  nextFire : Nat
  fresh : List Nat
  /-- Per TRIG pin, the pin instant of the last edge stamped, in 1/256 tick (R300). -/
  lastEdge : Tab Int
  /-- Edges stamped and not yet in the trigger word: tick count ⌊T⌋ + 4, pin, falling edge, T (R300). -/
  stamps : List (Nat × Nat × Bool × Int)
  /-- By global channel, the samples of the CHAN block under way, newest first (R299). -/
  chanBuf : List (List Nat)
  deriving DecidableEq, Repr

/-- A stream that is off. -/
def Stream.reset : Stream :=
  { staged := [], held := [], sent := 0, seq := 0, lost := 0, lostGt := 0, win := none, since := none, upto := none, fn := 0, ses := 0 }

/-- A trigger unit in IDLE. -/
def TrigUnit.reset : TrigUnit :=
  { state := 0, disarmAt := none, prev := false, matched := false, cands := [],
    settleAt := 0, rearmAt := 0, lastF := none }

/-- Nothing captured, nothing armed. -/
def Acq.reset : Acq :=
  { streams := [], units := [], level := 0, edges := [], evBits := 0, fireBits := 0, nextFire := 0, fresh := [],
    lastEdge := [], stamps := [], chanBuf := [] }

/-! ### Microcode and control store (09) -/

/-- The registers of a micro-engine (R242, R249). -/
structure URegs where
  upc : Nat
  ir : BitVec 64
  nir : BitVec 64
  /-- The address of the instruction in NIR. -/
  nirPc : Nat
  /-- PC: the address of the next instruction to fetch. -/
  pc : Nat
  t : Nat
  lc0 : Nat
  lc1 : Nat
  /-- Z, N, C, V and TO in bits 0 to 4. -/
  flags : Nat
  /-- The word at µPC waits (R247). -/
  waiting : Bool
  /-- The tick count of the first microword of the instruction in IR. -/
  first : Nat
  /-- The staged slot (R243), and the checkpoint captured for it (R245). -/
  staged : Option Slot
  check : Option Check
  deriving DecidableEq, Repr

/-- What a micro-engine executes in this tick, as read at its start (R242, R247): the microword, its result, the registers at the end of
the tick, and whether it ends a wait on a selector: 1 with a value, 2 because WAITO_LIMIT was reached; 0 otherwise. -/
structure UTick where
  word : Nat
  res : Nat
  regs : URegs
  wake : Nat
  deriving DecidableEq, Repr

/-- A micro-engine (R239–R256). -/
structure Micro where
  regs : URegs
  /-- The microword of this tick; none: the engine waits, serves a trap or does not run. -/
  due : Option UTick
  /-- The sequencer has carried the microword of this tick out. -/
  did : Bool
  /-- The trap frame, newest first: the entry as R249 lays it out, and the tick count of the word executed after TRAPRET pops
  it; none for a trap that does not resume. -/
  frame : List (Nat × Option Nat)
  /-- An ECC_UE trap of its replica waits for the repair: it does not issue (R251). -/
  stopped : Bool
  /-- The reads that await a PEEK trap: who receives the response, and the item (R256). -/
  peek : List (Issuer × Nat)
  /-- Items 0x000–0x002 and 0x010–0x017 as the last stop or PEEK left them (R256). -/
  copy : List Nat
  deriving DecidableEq, Repr

/-- Microcode and Control Store. The control store region itself is on-chip memory. -/
structure Store where
  micro : Tab Micro
  /-- The four replicas, filled at the end of BOOT: word number to word, by replica (R239). -/
  replicas : Tab (Tab Wide)
  /-- The word numbers that await a repair, by replica (R251). -/
  bad : Tab (List Nat)
  /-- Correctable SRAM errors found, corrected and counted since RESET (R16). -/
  corrected : Nat
  deriving DecidableEq, Repr

/-- A micro-engine's registers at reset (R257). -/
def URegs.reset : URegs :=
  { upc := 0, ir := 0, nir := 0, nirPc := 0, pc := 0, t := 0, lc0 := 0, lc1 := 0, flags := 0, waiting := false, first := 0,
    staged := none, check := none }

/-- A micro-engine that has not issued. -/
def Micro.reset : Micro := { regs := URegs.reset, due := none, did := false, frame := [], stopped := false, peek := [], copy := [] }

/-! ### The host interface (13), as far as rings and vectors go -/

/-- A ring table entry (R340), with what the interrupt rules of R345 count. -/
structure Ring where
  base : Nat
  wb : Nat
  log2 : Nat
  run : Bool
  vector : Nat
  /-- RING_TYPE: 0 FREE, 1 CMD, 2 RSP, 3 DMA_SUB, 4 COMPL, 5 STREAM, 6 LINK_RX (R340, R341). -/
  ty : Nat
  fn : Nat
  ses : Nat
  pidx : Nat
  cidx : Nat
  coalCnt : Nat
  coalTime : Nat
  armed : Bool
  dbBad : Bool
  cfgIgnored : Bool
  wbErr : Bool
  /-- Entries written since ARMED was set, and the tick count of the first of them (R345). -/
  since : Nat
  firstAt : Option Nat
  /-- Completion records written since RING_RUN was last set (R359). -/
  seq : Nat
  deriving DecidableEq, Repr

/-- A ring table entry at reset (R340). -/
def Ring.reset : Ring :=
  { base := 0, wb := 0, log2 := 6, run := false, vector := 0, ty := 0, fn := 0, ses := 0, pidx := 0, cidx := 0,
    coalCnt := 1, coalTime := 0, armed := false, dbBad := false, cfgIgnored := false, wbErr := false, since := 0,
    firstAt := none, seq := 0 }

/-- How far a DMA descriptor has come (R351–R354). -/
structure Work where
  desc : Desc
  /-- Bytes moved by bursts, bytes requested from the host, and host bytes that have arrived and await their bursts. -/
  moved : Nat
  asked : Nat
  arrived : List Byte
  /-- The whole source of an ATOMIC descriptor, once gathered (R352). -/
  gathered : Bool
  /-- The status it ends with, once it is known (R358). -/
  status : Option Nat
  /-- The zero-length read of a BARRIER to HOST has been issued, and has completed (R353). -/
  barrierAsked : Bool
  barrierDone : Bool
  /-- The bulk frame whose passing a BARRIER to LINK awaits: one past the last frame's BSEQ, and the frames not yet sent. -/
  lastSeq : Option Nat
  deriving DecidableEq, Repr

/-- A completion record that found no room (R359, R360): status, DONE_GT, TAG, BYTES, and the bits copied into byte 2. -/
structure Held where
  status : Nat
  doneGt : Nat
  tag : Nat
  bytes : Nat
  atomic : Bool
  barrier : Bool
  irq : Bool
  deriving DecidableEq, Repr

/-- A DMA channel (R350, R357, R361). -/
structure Chan where
  /-- The session that holds it. -/
  ses : Nat
  /-- Fetched and not yet started, in ring order. -/
  fetched : List Desc
  work : Option Work
  held : Option Held
  /-- Every descriptor it still holds is to complete with ABORTED (R361, R366). -/
  aborting : Bool
  deriving DecidableEq, Repr

/-- The DMA engine and the bulk-port arbiter (R351, R362–R365). -/
structure Dma where
  chans : Tab Chan
  /-- Bursts each class may still issue in the round, classes 0–3. -/
  credit : List Nat
  /-- The channel each class served last. -/
  last : List Nat
  /-- The channel whose ATOMIC descriptor holds the engine. -/
  atomic : Option Nat
  /-- The tick count in which the transfer under way ends: one transfer at a time. -/
  burstAt : Option Nat
  /-- The stream that the stream writer served last, and the stamps of the requests of the engine and of the stream writer (R313, R362). -/
  lastStream : Nat
  ask : Option Nat
  askStream : Option Nat
  /-- The bulk port's owner, and the stamps of the requests raised, by requester number. -/
  owner : Option Nat
  stamps : Tab Nat
  deriving DecidableEq, Repr

/-- A channel that holds nothing. -/
def Chan.reset : Chan := { ses := 0, fetched := [], work := none, held := none, aborting := false }

/-- The engine at reset. -/
def Dma.reset : Dma :=
  { chans := [], credit := [1, 2, 4, 8], last := [63, 63, 63, 63], atomic := none, burstAt := none, lastStream := 15, ask := none, askStream := none, owner := none, stamps := [] }

/-! ### The Cabinet and the fuses (15) -/

/-- An output of the bias record (R107, R410): power-up code and span, fault code and span. -/
structure BiasRec where
  pu : Nat
  puSpan : Nat
  fault : Nat
  faultSpan : Nat
  deriving DecidableEq, Repr

/-- A calibration save (R138, R140): the RIN applied sets by input and sub-ADC, and per port its last completed pass, by the tick
count it completed at. -/
structure CalSave where
  rin : Tab Nat
  dac : Tab Nat
  deriving DecidableEq, Repr

/-- What a main-pool record holds (R410). -/
inductive NvData where
  | board (b : BoardRec)
  | cal (s : CalSave)
  | seeds (t : Tab (List Byte))
  | config (check : Nat) (recs : List CfgRec)
  deriving DecidableEq, Repr

/-- A summary write that waits (R413): its data, its blocks, the commands that receive a final response, and whether a
periodic save or a board write asked for it. -/
structure NvReq where
  data : NvData
  blocks : Nat
  issuers : List Issuer
  periodic : Bool
  board : Bool
  deriving DecidableEq, Repr

/-- A main-pool record as it stands in the Cabinet (R410, R411): its newest current copy, COPY_SEQ, and the blocks of the
copies written, newest first. -/
structure NvCopy where
  data : NvData
  seq : Nat
  blocks : List (List Nat)
  deriving DecidableEq, Repr

/-- The Cabinet and the fuses (R399, R410–R417). They keep their contents through every mode and through power off. -/
structure Cabinet where
  /-- The bias record in force; none when no ring block passes its check (R107, R108). -/
  bias : Option (List BiasRec)
  biasSeq : Nat
  /-- The bias write that waits, and the commands that requested it (R412). -/
  biasPend : Option (List BiasRec)
  biasIssuers : List Issuer
  /-- The audit entries the waiting bias write makes when it completes: who, and the parameter (R111, R389). -/
  biasAudit : List (Nat × Nat)
  /-- The tick count at which the last bias write started, and the last summary write (R412, R413). -/
  biasAt : Option Nat
  sumAt : Option Nat
  recs : List (NvRecord × NvCopy)
  /-- Summary writes that wait, oldest first, at most one of each record (R413). -/
  queue : List NvReq
  /-- Write counts of the physical blocks, and the blocks retired (R415). -/
  wear : Tab Nat
  retired : List Nat
  /-- The tick count at which CREDIT last rose (R413). -/
  creditAt : Nat
  /-- CREDIT in the newest metadata (R411, R413). -/
  creditNv : Nat
  /-- The RIN factory seeds, by input and sub-ADC, and the inputs and ports whose factory set fails its check (R138, R139). -/
  seedRin : Tab Nat
  seedBad : List Nat
  /-- Fuses (R399): SVN_MIN and KEY_REVOKED as they stand, and FACTORY_LOCK. -/
  svnMin : Nat
  keyRevoked : Nat
  factoryLock : Bool
  /-- CHECK of the configuration image in force; 0 if defaults (R409). -/
  cfgCheck : Nat
  /-- The board record as the last BOOT read it (R261, R400). -/
  board : Option BoardRec
  deriving DecidableEq, Repr

/-- A bias record of zeros: 0 V as power-up and fault value (R108). -/
def BiasRec.zero : BiasRec := { pu := 0, puSpan := 0, fault := 0, faultSpan := 0 }

/-- A Cabinet that has never been written: every record absent, every count 0, CREDIT full. -/
def Cabinet.reset : Cabinet :=
  { bias := none, biasSeq := 0, biasPend := none, biasIssuers := [], biasAudit := [], biasAt := none, sumAt := none, recs := [], queue := [],
    wear := [], retired := [], creditAt := 0, creditNv := 1024, seedRin := [], seedBad := [], svnMin := 0, keyRevoked := 0,
    factoryLock := true, cfgCheck := 0, board := none }

/-! ### Thermal and power (16) -/

/-- The thermal block (R423–R438). Times are tick counts. -/
structure Thermal where
  /-- TJ_MAX has stayed within (10 °C, 90 °C) since, below 92 °C since, below the level's fall threshold since, and within
  the NV window since (R423, R428, R429, R431). -/
  midSince : Option Nat
  warnSince : Option Nat
  fallSince : Option Nat
  nvSince : Option Nat
  /-- THR_LEVEL may not fall before (R430). -/
  holdUntil : Nat
  /-- P of the 1,024-tick period in progress, as the level at its start gave it (R433). -/
  pause : Nat
  /-- The last sample, and the next telemetry record of TELEM_PERIOD. -/
  sampledAt : Option Nat
  telemAt : Nat
  /-- The last telemetry record: the tick count of its sample, and its cause (R437). -/
  telemLast : Option (Nat × Nat)
  /-- Ticks with THR_LEVEL above 0 that make up no whole millisecond yet (R439). -/
  thrTicks : Nat
  /-- The REFCOMP factor in force and the one computed and not yet applied, as its distance from 1 in 1/4 ppm, and when it was
  last computed (R436). -/
  factor : Int
  nextFactor : Option Int
  factorAt : Nat
  /-- The factor on its way into the strings, with the tick count at which it enters them (R104, R436). -/
  factorDue : Option (Nat × Int)
  deriving DecidableEq, Repr

/-- The thermal block before its first sample. -/
def Thermal.reset : Thermal :=
  { midSince := none, warnSince := none, fallSince := none, nvSince := none, holdUntil := 0, pause := 0,
    sampledAt := none, telemAt := 0, telemLast := none, thrTicks := 0, factor := 0, nextFactor := none, factorAt := 0, factorDue := none }

/-! ### Pins (18) -/

/-- What drives the covered balls in place of the core (R463). -/
inductive JtagDrive where
  | none | extest | clamp | highz
  deriving DecidableEq, Repr

/-- Pins, SMBus and JTAG (R459, R461–R463). -/
structure Pins where
  perstN : Bool
  /-- TRIG levels, bit p (R300). -/
  trig : Nat
  /-- MARK levels at the pins, bit p, and the changes on their way through the output stage: tick count, pin, level (R200,
  R318, R324). -/
  mark : Nat
  markDue : List (Nat × Nat × Bool)
  /-- An Alert Response Address read released SMB_ALERT_N (R461). -/
  alertReleased : Bool
  /-- The boundary register's latched cells, and what the balls present to its input side. -/
  cells : BitVec 65
  drive : JtagDrive
  /-- The instruction register, and the DBG_BULK register. -/
  ir : BitVec 8
  dbg : BitVec 128
  /-- A GO waits for the port; a session holds the port (R463). -/
  dbgGo : Bool
  dbgHolds : Bool
  deriving DecidableEq, Repr

/-- The pins at reset: the instruction register holds IDCODE (R463). -/
def Pins.reset : Pins :=
  { perstN := true, trig := 0, mark := 0, markDue := [], alertReleased := false, cells := 0, drive := .none, ir := 0xFE, dbg := 0,
    dbgGo := false, dbgHolds := false }

/-- What happened in the current tick, for the same-tick rules of R10: the RC fields read or updated in it (value at its
start, updates in it), and the W1C bits hardware set in it. -/
structure Now where
  rc : Tab (Nat × Nat)
  set : List Nat
  /-- Gates as sampled at the start of the tick, bit GATE_SEL (R318). -/
  gates : Nat
  /-- The internal events that an empty queue has already been given for this tick (Tick.lean). -/
  listed : List Instr
  /-- The tones and channels that a commit of this tick loads coherently (R69). -/
  resync : List Target
  resyncCh : List Nat
  /-- The snapshot totals as they stood at the start of the tick (R54). -/
  tot : Tab Nat
  /-- A transition that no MODE_SET asked for has moved the mode in this tick (R21). -/
  moved : Bool
  deriving DecidableEq, Repr

/-! ### Reset values of the parts -/

/-- A tone's oscillator and frame before any load. -/
def Tone.reset : Tone := { fw := 0, acc := 0, at_ := 0, frame := 0, past := [] }

/-- A lane at reset: idle, amplitude 0x7FFF (R63, R89). -/
def Lane.reset : Lane := { plays := [], jump := none, amp := 0x7FFF }

/-- A bias output before the loader has run (R107, R419). -/
def BiasOut.reset : BiasOut := { hiZ := true, updates := [], switchAt := none, pendCode := 0, pendSpan := 0, followAt := none }

/-- A correction filter at rest. -/
def Filter.reset : Filter := { s := [0, 0, 0, 0], hist := [] }

/-- A channel oscillator at rest. -/
def Osc.reset : Osc := { fw := 0, acc := 0, at_ := 0, past := [] }

/-- An estimator with no block. -/
def Estimator.reset : Estimator :=
  { hist := [], skews := [], from_ := none, ovr := false, ended := none, since := 0, latest := none, waiting := none, prior := none,
    autoAt := none, soonAt := none, lastAt := none, switches := [] }

/-- An engine at reset: every register 0, nothing queued. -/
def Engine.reset : Engine :=
  { pc := 0, g := [], a := [], p := [], fz := false, fn := false, fc := false, fv := false, lk := none, spc := 0, sfl := 0,
    srm := 0, reps := [], xfer := none, late := [], handler := false, idle := false, issueAt := 0, queue := [],
    cur := none, posted := false, msg := 0, hostSince := none, tickSince := none, periodAt := 0,
    startAt := 0, faultAt := none }

/-- A sequencer at reset (R212): registers, stacks and slot table clear. -/
def Sequencer.reset : Sequencer :=
  { issuing := false, pc := 0, first := 0, bindAt := none, cursor := 0, s := [], loops := [], calls := [], slots := [],
    posted := 0, latched := [], lastShot := none, shotsPosted := 0, flags := [], opening := false, progress := none, checks := [], check := none,
    waiting := none, staleSeen := false, seen := none, sampled := none, stall := 0, faulting := none }

/-- A decision unit at reset (R237). -/
def DecUnit.reset : DecUnit := { reads := [], forming := [], now := none, lastEntry := none, notBefore := 0, sample := none }

/-- A group's beacon state before any beacon. -/
def BeaconPort.reset : BeaconPort :=
  { seen := false, lastTx := 0, lastRx := 0, lastClk := none, missed := 0, txDue := none }

/-- The supplies are valid, the bias loader has not run, RESET_N is high by its pull-up (R13, R419, R459). -/
def Power.reset : Power :=
  { supplies := true, suppliesAt := 0, biasLoaded := false, resetN := true, goodAt := List.replicate 6 (some 0),
    forcedZero := false, analog := false, aonLatch := false }

/-- RESET, with no transition under way (R18). -/
def Modes.reset : Modes :=
  { mode := .reset, prev := .reset, trans := none, transGt := 0, fault := false, transAt := 0, benchFrom := .standby, runGt := 0,
    cfgPassed := false, bootStopped := false, bootWaits := none, transIssuer := none }

/-- GT holds 0 and does not count (R29). -/
def Timeline.reset : Timeline :=
  { gt := 0, counting := false, state := 0, epochHigh := false, epochAt := none, epochLoaded := false, align := .idle,
    alignN := 0, thetas := [], phasePending := 0, syncAt := 0,
    beacon := [BeaconPort.reset, BeaconPort.reset, BeaconPort.reset, BeaconPort.reset], sched := [], snaps := [],
    snapSeen := [], latches := [], copyAt := 0, nextBank := 0 }

/-- No event under way. -/
def Events.reset : Events := { flights := [], history := [], arrivals := [], blocked := [], old := [], pulses := [], srcOld := [] }

/-- No session, no drawer, no group in ADAPT. -/
def Mail.reset : Mail :=
  { sessions := [], drawers := [], adapt := [], auditAt := 0, cfgSaveAt := none, held := [] }

/-- Every lane idle. -/
def Synth.reset : Synth :=
  { tones := [], lanes := [], bias := [], shelfOld := [], filters := [], pipe := [], codes := [], loop := [], benchHigh := false, benchAt := 0 }

/-- Nothing integrating. -/
def Readout.reset : Readout :=
  { windows := [], oscs := [], ests := [], gaps := [], passAt := [], calTodo := [], saveAt := 0, rangeBad := [], dacSet := [] }

/-- Every engine stopped. -/
def Dxes.reset : Dxes := { eng := [], track := [], seedSaveAt := none, clsOld := [] }

/-- Every sequencer stopped. -/
def Sequencers.reset : Sequencers := { sq := [], bindOld := [], markHigh := [], markEnd := [] }

/-- Nothing on the outcome bus. -/
def Outcomes.reset : Outcomes := { bus := [], units := [], queues := [], stale := [], held := [] }

/-- The control store empty. -/
def Store.reset : Store := { micro := [], replicas := [], bad := [], corrected := 0 }

/-- Nothing recorded of the tick. -/
def Now.reset : Now := { rc := [], set := [], gates := 0, listed := [], resync := [], resyncCh := [], tot := [], moved := false }

/-- An entry of an MSI-X table (R335, R345): the message's address and data, and the mask bit. -/
structure Msix where
  addr : Nat
  data : Nat
  masked : Bool
  deriving DecidableEq, Repr

/-- An entry as it stands after a reset of the function. PRESUMED (log): the layout and the mask bit of the family's MSI-X. -/
def Msix.reset : Msix := { addr := 0, data := 0, masked := true }

/-! ### The chip -/

/-- Everything the spec gives the block but its queue of commands. -/
structure Chip where
  /-- The tick count of the model: ticks since the start, GT steps or not (the model's own). -/
  clk : Nat
  /-- The counter that free values are drawn with (the model's own). -/
  free : Nat
  now : Now
  pw : Power
  md : Modes
  tl : Timeline
  ev : Events
  mb : Mail
  syn : Synth
  rin : Readout
  dx : Dxes
  sqs : Sequencers
  oc : Outcomes
  lk : Links
  aq : Acq
  mc : Store
  dma : Dma
  nv : Cabinet
  th : Thermal
  pn : Pins
  /-- The ring table; an unlisted ring holds its reset entry (R340). -/
  rings : Tab Ring
  /-- The MSI-X tables by function × 2,048 + vector, an unlisted entry as after reset; and the vectors held pending there (R335, R345). -/
  hostMsix : Tab Msix
  hostPba : List (Nat × Nat)
  /-- NumVFs as the configuration space enables them (R334). -/
  numVfs : Nat
  /-- Parameter, window and SMBus fields that differ from their reset value (R7). -/
  regs : Tab Nat
  /-- The 64-bit snapshot totals by slot (R443, R444). -/
  tot : Tab Nat
  /-- On-chip SRAM (R15). -/
  mem : Tab Byte
  /-- Everything put out since the start, oldest first. -/
  out : List Output
  deriving DecidableEq, Repr

/-- The chip in RESET, with its supplies valid. Every parameter field, window field and SMBus field stands at the reset
value of its table (`regs` lists none), memory lists nothing. -/
def Chip.reset : Chip :=
  { clk := 0, free := 0, now := Now.reset, pw := Power.reset, md := Modes.reset, tl := Timeline.reset, ev := Events.reset,
    mb := Mail.reset, syn := Synth.reset, rin := Readout.reset, dx := Dxes.reset, sqs := Sequencers.reset,
    oc := Outcomes.reset, lk := Links.reset, aq := Acq.reset, mc := Store.reset, dma := Dma.reset, nv := Cabinet.reset,
    th := Thermal.reset, pn := Pins.reset, rings := [], hostMsix := [], hostPba := [], numVfs := 0, regs := [], tot := [],
    mem := [], out := [] }

/-- The state: the commands that wait, first in first out, and the chip. -/
structure State where
  pending : List Instr
  chip : Chip
  deriving DecidableEq, Repr

/-- The machine right after reset: no command waits, the chip stands in RESET. -/
def State.reset : State := { pending := [], chip := Chip.reset }

end Sys2Proof.Machine
end

