-- ==== Sys2Proof/Machine/Tab.lean ====
section
/-!
DEFINITION. Sparse tables: reading and writing them, and the canonical form they keep (keys strictly rising, no entry equal
to what an unlisted key reads as). On-chip memory is such a table of bytes; the parameter space is one of field values.
-/

namespace Sys2Proof.Machine

/-- What key `k` holds in a table whose unlisted keys read `d`. -/
def Tab.get {α : Type} (t : Tab α) (k : Nat) (d : α) : α :=
  match t with
  | [] => d
  | (j, v) :: r => if j == k then v else Tab.get r k d

/-- `t` without key `k`. -/
def Tab.del {α : Type} (t : Tab α) (k : Nat) : Tab α :=
  match t with
  | [] => []
  | (j, v) :: r => if j == k then Tab.del r k else (j, v) :: Tab.del r k

/-- `t` with `v` listed at key `k`. -/
def Tab.ins {α : Type} (t : Tab α) (k : Nat) (v : α) : Tab α :=
  match t with
  | [] => [(k, v)]
  | (j, w) :: r => if j == k then (k, v) :: r else if k < j then (k, v) :: (j, w) :: r else (j, w) :: Tab.ins r k v

/-- Write `v` at key `k`; the value an unlisted key reads as is not listed. -/
def Tab.put {α : Type} [DecidableEq α] (t : Tab α) (k : Nat) (d v : α) : Tab α :=
  if v = d then Tab.del t k else Tab.ins t k v

/-- What key `k` holds, if it is listed. -/
def Tab.find {α : Type} (t : Tab α) (k : Nat) : Option α :=
  match t with
  | [] => none
  | (j, v) :: r => if j == k then some v else Tab.find r k

/-- The canonical form: keys strictly rising. -/
def Tab.rising {α : Type} : Tab α → Bool
  | [] => true
  | [_] => true
  | (j, _) :: (k, w) :: r => decide (j < k) && Tab.rising ((k, w) :: r)

/-- The canonical form of a table whose unlisted keys read `d`. -/
def Tab.wf {α : Type} [DecidableEq α] (t : Tab α) (d : α) : Bool :=
  Tab.rising t && t.all (fun p => decide (p.2 ≠ d))

/-- Bits [lo+w−1:lo] of a number. -/
def bits (v lo w : Nat) : Nat := v / 2 ^ lo % 2 ^ w

/-- Bit `n` of a number. -/
def bitAt (v n : Nat) : Bool := v.testBit n

/-- `v` with bits [lo+w−1:lo] replaced by `x`. -/
def setBits (v lo w x : Nat) : Nat :=
  v - bits v lo w * 2 ^ lo + x % 2 ^ w * 2 ^ lo

/-- A bit of a Boolean. -/
def b2n (b : Bool) : Nat := if b then 1 else 0

/-- The signed value of a `w`-bit field. -/
def sgn (w v : Nat) : Int := if v % 2 ^ w < 2 ^ (w - 1) then (v % 2 ^ w : Nat) else (v % 2 ^ w : Nat) - (2 ^ w : Nat)

/-- The `w`-bit two's complement field of an integer. -/
def toField (w : Nat) (x : Int) : Nat := (x % (2 ^ w : Nat)).toNat

/-- An integer held to the range of a signed `w`-bit field. -/
def satS (w : Nat) (x : Int) : Int :=
  let m : Int := (2 ^ (w - 1) : Nat)
  if x > m - 1 then m - 1 else if x < -m then -m else x

/-- Round to nearest, a half going towards +∞: ⌊(x + 2^(n−1)) / 2^n⌋. -/
def roundShift (x : Int) (n : Nat) : Int :=
  if n == 0 then x else (x + (2 ^ (n - 1) : Nat)) / (2 ^ n : Nat)

/-- The bytes of a number, least significant first (R373, R393). -/
def leBytes : Nat → Nat → List Byte
  | 0, _ => []
  | n + 1, v => BitVec.ofNat 8 v :: leBytes n (v / 256)

/-- The number that bytes spell, least significant first. -/
def leNat : List Byte → Nat
  | [] => 0
  | b :: r => b.toNat + 256 * leNat r

/-- Store a list of bytes from address `a` up. -/
def memPut (m : Tab Byte) (a : Nat) : List Byte → Tab Byte
  | [] => m
  | b :: r => memPut (Tab.put m a 0 b) (a + 1) r

/-- The `n` bytes from address `a` up. -/
def memGet (m : Tab Byte) (a : Nat) : Nat → List Byte
  | 0 => []
  | n + 1 => Tab.get m a 0 :: memGet m (a + 1) n

/-- Clear the addresses lo..hi (both included): what a region's clear at RESET does. -/
def memClear (m : Tab Byte) (lo hi : Nat) : Tab Byte := m.filter (fun p => decide (p.1 < lo) || decide (hi < p.1))

end Sys2Proof.Machine
end

