-- ==== Sys2Proof/Machine/Ops.lean ====
section
/-!
DEFINITION. The operations every family shares: fields (R7, R10), counters (R442, R443), flags and the status vector (R18,
R336), rings (R342, R345), responses (R374), events (R317–R319, R322, R329) and the audit log (R389–R392).
-/

namespace Sys2Proof.Machine

/-- A command's meaning on the chip, as an outcome: the queue is not touched. -/
def onChip (f : Chip → Chip) (s : State) : Host.Outcome State Fault Refusal := .next { s with chip := f s.chip }

/-! ### Fields -/

/-- The key of a field in the table of fields. -/
def Field.key (f : Field) : Nat := f.id * 64 + f.lo

/-- The value a field holds. -/
def rd (f : Field) (c : Chip) : Nat := Tab.get c.regs f.key f.rst

/-- The signed value a field holds. -/
def rdS (f : Field) (c : Chip) : Int := sgn f.w (rd f c)

/-- A one-bit field is 1. -/
def on (f : Field) (c : Chip) : Bool := rd f c != 0

/-- Put a value, reduced to the field's width, into a field. -/
def wr (f : Field) (v : Nat) (c : Chip) : Chip :=
  { c with regs := Tab.put c.regs f.key f.rst (v % 2 ^ f.w) }

/-- Put an integer into a field as two's complement. -/
def wrS (f : Field) (v : Int) (c : Chip) : Chip := wr f (toField f.w v) c

/-! ### Counters (R10, R442, R443) -/

/-- What this tick's record says of an RC field: its value at the start of the tick and the updates in it. -/
def rcNow (f : Field) (c : Chip) : Nat × Nat := Tab.get c.now.rc f.key (rd f c, 0)

/-- Set this tick's record of an RC field. -/
def rcLog (f : Field) (p : Nat × Nat) (c : Chip) : Chip :=
  { c with now := { c.now with rc := Tab.ins c.now.rc f.key p } }

/-- Count `n` events in an RC field: it saturates at the largest value it holds (R442). -/
def countN (f : Field) (n : Nat) (c : Chip) : Chip :=
  let p := rcNow f c
  wr f (min (2 ^ f.w - 1) (rd f c + n)) (rcLog f (p.1, p.2 + n) c)

/-- Count one event in an RC field. -/
def count (f : Field) (c : Chip) : Chip := countN f 1 c

/-- Report a value to a maximum-type RC field, which saturates at its width (R10, R179). -/
def maxRc (f : Field) (v : Nat) (c : Chip) : Chip :=
  let p := rcNow f c
  let x := min (2 ^ f.w - 1) v
  wr f (max (rd f c) x) (rcLog f (p.1, max p.2 x) c)

/-- Add to a snapshot total (R443). -/
def total (k n : Nat) (c : Chip) : Chip :=
  { c with tot := Tab.put c.tot k 0 ((Tab.get c.tot k 0 + n) % 2 ^ 64) }

/-- Count one event in an RC field and in the snapshot slot that shares its name (R443, R444). -/
def countT (f : Field) (k : Nat) (c : Chip) : Chip := total k 1 (count f c)

/-- Step a wrapping RO counter of R441 and its snapshot slot (R442, R443). -/
def stepT (f : Field) (k : Nat) (c : Chip) : Chip := total k 1 (wr f (rd f c + 1) c)

/-- What a read of an RC field returns, and the chip after it: the field clears and keeps this tick's updates (R10). -/
def readRc (f : Field) (c : Chip) : Nat × Chip :=
  let p := rcNow f c
  (p.1, wr f (min (2 ^ f.w - 1) p.2) (rcLog f (0, p.2) c))

/-! ### Modes and GT -/

/-- The mode codes of R19. -/
def modeCode : Mode → Nat
  | .reset => 0x0 | .boot => 0x1 | .fallback => 0x2 | .standby => 0x3 | .configure => 0x4 | .calibrate => 0x5
  | .syncing => 0x6 | .ready => 0x7 | .run => 0x8 | .hold => 0x9 | .bench => 0xA | .shutdown => 0xB

/-- The mode a code names (R19); 0xC–0xF name none. -/
def codeMode : Nat → Option Mode
  | 0x0 => some .reset | 0x1 => some .boot | 0x2 => some .fallback | 0x3 => some .standby | 0x4 => some .configure
  | 0x5 => some .calibrate | 0x6 => some .syncing | 0x7 => some .ready | 0x8 => some .run | 0x9 => some .hold
  | 0xA => some .bench | 0xB => some .shutdown | _ => none

/-- The mode in force. -/
def modeOf (c : Chip) : Mode := c.md.mode

/-- The Crivon is in one of these modes. -/
def inModes (ms : List Mode) (c : Chip) : Bool := ms.contains c.md.mode

/-- GT_STATE is ALIGNED or HOLDOVER (R31). -/
def vouched (c : Chip) : Bool := c.tl.state == 3 || c.tl.state == 4

/-- GT (R29). -/
def gtOf (c : Chip) : Nat := c.tl.gt

/-- Put on-chip memory. -/
def setMem (m : Tab Byte) (c : Chip) : Chip := { c with mem := m }

/-! ### Outputs and vectors -/

/-- Put something out. -/
def emit (o : Output) (c : Chip) : Chip := { c with out := c.out ++ [o] }

/-- The size of a function's MSI-X table (R336). -/
def tableSize (fn : Nat) : Nat := if fn == 0 then 1040 else 16

/-- Where an entry of a function's MSI-X table stands. -/
def msixKey (fn vec : Nat) : Nat := fn * 2048 + vec

/-- An entry of a function's MSI-X table (R335). -/
def msixOf (fn vec : Nat) (c : Chip) : Msix := Tab.get c.hostMsix (msixKey fn vec) Msix.reset

/-- Put an entry of a function's MSI-X table. -/
def setMsix (fn vec : Nat) (x : Msix) (c : Chip) : Chip := { c with hostMsix := Tab.put c.hostMsix (msixKey fn vec) Msix.reset x }

/-- Send a vector of a function: none in RESET, only the status vector in BOOT and SHUTDOWN (R366). A vector masked in the
MSI-X table is held as pending (R345). -/
def sendVector (fn vec : Nat) (c : Chip) : Chip :=
  if c.md.mode == .reset then c
  else if inModes [.boot, .shutdown] c && vec != 0 then c
  else if (msixOf fn vec c).masked then
    if c.hostPba.contains (fn, vec) then c else { c with hostPba := c.hostPba ++ [(fn, vec)] }
  else emit (.vector fn vec (msixOf fn vec c).addr (msixOf fn vec c).data) c

/-- Set a W1C flag: hardware setting it in this tick outlives a clear in this tick (R10). A flag of the event flags words
0x004 and 0x00C going from 0 to 1 raises the PF's status vector (R336). -/
def setFlag (f : Field) (c : Chip) : Chip :=
  let fresh := rd f c == 0
  let c1 := wr f 1 { c with now := { c.now with set := f.key :: c.now.set } }
  if fresh && (f.id == bar 0x10004 || f.id == bar 0x1000C) then sendVector 0 0 c1 else c1

/-- Set a flag when a condition holds. -/
def setFlagIf (b : Bool) (f : Field) (c : Chip) : Chip := if b then setFlag f c else c

/-! ### Rings (R340–R345) -/

/-- Ring r's entry. -/
def ringOf (r : Nat) (c : Chip) : Ring := Tab.get c.rings r Ring.reset

/-- Put ring r's entry. -/
def setRing (r : Nat) (x : Ring) (c : Chip) : Chip := { c with rings := Tab.put c.rings r Ring.reset x }

/-- Entries waiting in a ring: PIDX − CIDX modulo 2^(S+1) (R342). -/
def ringUsed (x : Ring) : Nat := (x.pidx + 2 ^ (x.log2 + 1) - x.cidx) % 2 ^ (x.log2 + 1)

/-- Room in a ring. -/
def ringRoom (x : Ring) : Nat := 2 ^ x.log2 - ringUsed x

/-- Send an armed ring's vector and clear ARMED (R345). -/
def ringFire (r : Nat) (c : Chip) : Chip :=
  let x := ringOf r c
  sendVector x.fn x.vector (setRing r { x with armed := false } c)

/-- The host address of entry i of ring r, of entry size es. -/
def ringAddr (x : Ring) (es i : Nat) : Nat := x.base + es * (i % 2 ^ x.log2)

/-- The Crivon has written n entries to ring r: PIDX moves, is written back, and may send the vector (R342, R345). -/
def ringProduce (r n : Nat) (irq : Bool) (c : Chip) : Chip :=
  let x := ringOf r c
  let p := (x.pidx + n) % 2 ^ (x.log2 + 1)
  let x1 := { x with pidx := p, since := x.since + n, firstAt := if x.firstAt.isSome then x.firstAt else some c.clk }
  let c1 := setRing r x1 c
  let c2 := if x.wb == 0 then c1 else emit (.hostWrite x.fn x.wb (leBytes 8 p)) c1
  if x1.armed && (decide (max 1 x1.coalCnt ≤ x1.since) || irq) then ringFire r c2 else c2

/-- The Crivon has consumed n entries of ring r: CIDX moves and is written back (R342, R345). -/
def ringConsume (r n : Nat) (c : Chip) : Chip :=
  let x := ringOf r c
  let p := (x.cidx + n) % 2 ^ (x.log2 + 1)
  let c1 := setRing r { x with cidx := p } c
  if x.wb == 0 then c1 else emit (.hostWrite x.fn x.wb (leBytes 8 p)) c1

/-! ### Responses (R369, R373, R374) -/

/-- The CMD ring and the RSP ring of a mailbox; none for a session that is not open. -/
def mboxRings (m : Mbox) (c : Chip) : Option (Nat × Nat) :=
  match m with
  | .boot f => some (2 * f.val, 2 * f.val + 1)
  | .ses n => (Tab.find c.mb.sessions n.val).map (fun s => (s.cmdRing, s.rspRing))

/-- The function a mailbox belongs to. -/
def mboxFn (m : Mbox) (c : Chip) : Nat :=
  match m with
  | .boot f => f.val
  | .ses n => match Tab.find c.mb.sessions n.val with
    | some s => s.fn
    | none => 0

/-- Write one response. A mailbox that is gone, or whose RSP ring does not run, receives none (R371). -/
def respond (i : Issuer) (status : Nat) (final sched : Bool) (res : List Nat) (c : Chip) : Chip :=
  match mboxRings i.mb c with
  | none => c
  | some (_, r) =>
    if (ringOf r c).run then
      ringProduce r 1 false
        (emit (.rsp i.mb i.opcode i.ctag status final sched i.acceptGt (if final then c.tl.gt else 0) res) c)
    else c

/-- The final response of a scheduled action, if someone is to receive it (R374). -/
def finish (i : Option Issuer) (status : Nat) (res : List Nat) (c : Chip) : Chip :=
  match i with
  | none => c
  | some x => respond x status true true res c

/-! ### Status codes (R377) -/

namespace St
def ok : Nat := 0x0000
def badOpcode : Nat := 0x0001
def notPermitted : Nat := 0x0002
def noSession : Nat := 0x0003
def noRing : Nat := 0x0004
def noChannel : Nat := 0x0005
def noParam : Nat := 0x0006
def roField : Nat := 0x0007
def badValue : Nat := 0x0008
def modeRefused : Nat := 0x0009
def modeConflict : Nat := 0x000A
def noDrawer : Nat := 0x000B
def drawerFull : Nat := 0x000C
def drawerLimit : Nat := 0x000D
def schedFull : Nat := 0x000E
def tooSoon : Nat := 0x000F
def notAligned : Nat := 0x0010
def gtStepped : Nat := 0x0011
def cancelled : Nat := 0x0012
def snapQueueFull : Nat := 0x0013
def snapSpacing : Nat := 0x0014
def calNotReady : Nat := 0x0015
def shelfActive : Nat := 0x0016
def engineRunning : Nat := 0x0017
def laneTaken : Nat := 0x0018
def sqFaulted : Nat := 0x0019
def tuBusy : Nat := 0x001A
def notJoined : Nat := 0x001B
def badRing : Nat := 0x001C
def bufOverlap : Nat := 0x001D
def budget : Nat := 0x001E
def streamBusy : Nat := 0x001F
def loopRefused : Nat := 0x0020
def chLocked : Nat := 0x0021
def nvTemp : Nat := 0x0022
def nvRate : Nat := 0x0023
def cfgBad : Nat := 0x0024
def busy : Nat := 0x0025
end St

/-! ### Events (R317–R319, R322, R329) -/

/-- A channel's settings as R317 uses them: CH_EN, RESYNC, GATE_INV, GATE_SEL, CONS, WATCH, EN_ROW 0–3. -/
def chanNow (ch : Nat) (c : Chip) : List Nat :=
  [rd (P.ecChEn ch) c, rd (P.ecResync ch) c, rd (P.ecGateInv ch) c, rd (P.ecGateSel ch) c, rd (P.ecCons ch) c,
   rd (P.ecWatch ch) c, rd (P.ecEnRow ch 0) c, rd (P.ecEnRow ch 1) c, rd (P.ecEnRow ch 2) c, rd (P.ecEnRow ch 3) c]

/-- The settings in force in this tick: a write acts from the tick after it (R319). -/
def chanCfg (ch : Nat) (c : Chip) : List Nat :=
  match Tab.find c.ev.old ch with
  | some l => l
  | none => chanNow ch c

/-- Keep a channel's settings for the rest of the tick, before a write to them (R319). -/
def keepChan (ch : Nat) (c : Chip) : Chip :=
  match Tab.find c.ev.old ch with
  | some _ => c
  | none => { c with ev := { c.ev with old := Tab.ins c.ev.old ch (chanNow ch c) } }

/-- The producers that can be raised in the mode in force (R329). -/
def mayRaise (p : Nat) (c : Chip) : Bool :=
  match c.md.mode with
  | .reset | .boot | .shutdown => false
  | .fallback | .standby => p == 0xEA || p == 0xEB || decide (0xF0 ≤ p)
  | .configure | .calibrate | .syncing | .ready | .bench => decide (0x80 ≤ p) && !(decide (0xEC ≤ p ∧ p ≤ 0xEF))
  | .run | .hold => !(decide (0xEC ≤ p ∧ p ≤ 0xEF))

/-- One channel's part in the raise of producer p (R317): an event on its way, or one its gate stops. -/
def raiseOn (p : Nat) (c : Chip) (ch : Nat) : Chip :=
  let k := chanCfg ch c
  let at_ (n : Nat) : Nat := k.getD n 0
  if at_ 0 == 1 && at_ 4 != 0x7F && bitAt (at_ (6 + p / 64)) (p % 64) then
    if (bitAt c.now.gates (at_ 3)) != (at_ 2 == 1) then
      if c.ev.flights.any (fun f => f.ch == ch && f.raised == c.clk) then c
      else { c with ev := { c.ev with flights := c.ev.flights ++
              [{ ch := ch, cons := at_ 4, watch := at_ 5 == 1, raised := c.clk, arrive := c.clk + 1 + at_ 1 }] } }
    else if c.ev.blocked.contains ch || c.ev.flights.any (fun f => f.ch == ch && f.raised == c.clk) then c
    else count (P.ecBlockedCount ch) { c with ev := { c.ev with blocked := ch :: c.ev.blocked } }
  else c

/-- Raise producer p in this tick (R317, R322). -/
def raise (p : Nat) (c : Chip) : Chip :=
  if mayRaise p c then (List.range 128).foldl (raiseOn p) c else c

/-! ### The audit log (R389–R392) -/

/-- Who made a change (R390). -/
inductive Origin where
  | session (n : Nat)
  | ring (fn : Nat)
  | firmware (cause : Nat)
  | loop (engine slot : Nat)
  | peer (node : Nat)
  deriving DecidableEq, Repr

/-- KIND and DETAIL of an origin (R390). -/
def Origin.bits : Origin → Nat
  | .session n => 0 + n % 1024 * 8
  | .ring f => 1 + f % 1024 * 8
  | .firmware k => 2 + k % 1024 * 8
  | .loop e s => 3 + (e * 8 + s) % 1024 * 8
  | .peer n => 4 + n % 1024 * 8

/-- The origin a mailbox stands for. -/
def mboxOrigin : Mbox → Origin
  | .boot f => .ring f.val
  | .ses n => .session n.val

/-- The first address of the audit log (R390). -/
def auditBase : Nat := 0x02DC0000

/-- Append one audit entry, with KIND and DETAIL given as their bits (R389–R392). -/
def auditBits (who : Nat) (commit txc : Bool) (id old new : Nat) (c : Chip) : Chip :=
  let n := rd P.sysAuditTotal c
  let full := (n + 2 ^ 48 - rd P.sysAuditAck c) % 2 ^ 48 == 32768
  let e := leBytes 6 (c.tl.gt % 2 ^ 48) ++ leBytes 2 (who + b2n commit * 2 ^ 13 + b2n txc * 2 ^ 14) ++
    leBytes 4 id ++ leBytes 8 old ++ leBytes 8 new
  let c1 := { c with mem := memPut c.mem (auditBase + 28 * (n % 32768)) e, mb := { c.mb with auditAt := c.clk } }
  let c2 := if full then count P.sysAuditOverrun c1 else c1
  stepT P.sysAuditTotal 248 c2

/-- Append one audit entry (R389–R392). -/
def audit (o : Origin) (commit txc : Bool) (id old new : Nat) (c : Chip) : Chip := auditBits o.bits commit txc id old new c

/-! ### Check words (R393) -/

/-- One bit of CRC-32C, reflected. -/
def crcBit (v : Nat) : Nat := if v % 2 == 1 then Nat.xor (v / 2) 0x82F63B78 else v / 2

/-- CRC-32C over bytes, from a running value. -/
def crcRun (v : Nat) : List Byte → Nat
  | [] => v
  | b :: bs => crcRun ((List.range 8).foldl (fun v _ => crcBit v) (Nat.xor v b.toNat)) bs

/-- CRC-32C (R393). -/
def crc32c (bs : List Byte) : Nat := Nat.xor (crcRun 0xFFFFFFFF bs) 0xFFFFFFFF

/-! ### Free values -/

/-- Draw a fresh free value: a number no one can predict, and the counter moved on. -/
def draw (w : Nat) (c : Chip) : Nat × Chip := (Config.freeNat c.free % 2 ^ w, { c with free := c.free + 1 })

end Sys2Proof.Machine
end

