-- ==== Sys2Proof/Machine/Flash.lean ====
section
/-!
DEFINITION. The boot flash: the directory (R403), the formats of the images (R253, R404), and the reads that the SPI master makes (R402).
-/

namespace Sys2Proof.Machine

/-- The number at offset o of n bytes, the least significant byte first. -/
def leAt (bs : List Byte) (o n : Nat) : Nat := leNat ((bs.drop o).take n)

/-- n bytes at offset o are zero. -/
def zeroAt (bs : List Byte) (o n : Nat) : Bool := leAt bs o n == 0

/-! ### The directory (R403) -/

/-- A directory is valid: MAGIC, FORMAT and CHECK pass. -/
def dirValid (d : List Byte) : Bool :=
  d.length == 256 && leAt d 0 4 == 0x474C4431 && leAt d 4 2 == 1 && leAt d 0xFC 4 == crc32c (d.take 0xFC)

/-- The directory that the ROM uses: the first if it is valid, else the copy (R403). -/
def bootDir (b : BootInput) : Option (List Byte) :=
  if dirValid b.dir then some b.dir else if dirValid b.dirCopy then some b.dirCopy else none

/-- TYPE of entry i. -/
def entryType (d : List Byte) (i : Nat) : Nat := leAt d (8 + 16 * i) 1
/-- SLOT of entry i. -/
def entrySlot (d : List Byte) (i : Nat) : Nat := leAt d (9 + 16 * i) 1
/-- OFFSET of entry i. -/
def entryOffset (d : List Byte) (i : Nat) : Nat := leAt d (12 + 16 * i) 4
/-- LENGTH of entry i. -/
def entryLength (d : List Byte) (i : Nat) : Nat := leAt d (16 + 16 * i) 4

/-- The entries of a type, in order: 1 LLYNLEK_A, 2 LLYNLEK_B, 3 UCODE, 4 PATCH, 5 KEY. -/
def dirEntries (t : Nat) (d : List Byte) : List Nat := (List.range 8).filter (fun i => entryType d i == t)

/-- The entry the ROM uses of a type of which it uses one: the first. -/
def dirEntry (t : Nat) (d : List Byte) : Option Nat := (dirEntries t d).head?

/-- What the ROM reads at an entry. -/
def imageAt (b : BootInput) (i : Nat) : FlashImage := b.images.getD i { head := [], sigOk := false, tagOk := false, plain := [] }

/-! ### The signed images (R404) -/

/-- KEY_SLOT. -/
def imgSlot (x : FlashImage) : Nat := leAt x.head 0x006 1
/-- SVN. -/
def imgSvn (x : FlashImage) : Nat := leAt x.head 0x007 1
/-- VERSION. -/
def imgVersion (x : FlashImage) : Nat := leAt x.head 0x008 4
/-- LENGTH. -/
def imgLength (x : FlashImage) : Nat := leAt x.head 0x00C 4
/-- LOAD. -/
def imgLoad (x : FlashImage) : Nat := leAt x.head 0x010 4
/-- NONCE: 12 bytes, zero for Llynlek. -/
def imgNonce (x : FlashImage) : Nat := leAt x.head 0x014 12

/-- The header of a copy of Llynlek lies within R404. -/
def llynHeader (x : FlashImage) : Bool :=
  leAt x.head 0 4 == 0x4C4C5931 && leAt x.head 4 2 == 1 && decide (imgSlot x ≤ 3 ∧ imgSvn x ≤ 64 ∧ imgLength x ≤ 1572864) &&
  decide (imgLoad x + imgLength x ≤ 2097152) && imgNonce x == 0 && zeroAt x.head 0x020 32

/-- The header of the base microcode lies within R404. -/
def ucodeHeader (x : FlashImage) : Bool :=
  leAt x.head 0 4 == 0x4D434231 && leAt x.head 4 2 == 1 && decide (imgSlot x ≤ 3) && imgSvn x == 0 && imgLength x == 491520 &&
  imgLoad x == 0 && zeroAt x.head 0x020 32

/-- Where an image's parts end: its body, the 16-byte TAG of the microcode, and the 1,280-byte SIG over the digest of every byte
before it. -/
def imgTagAt (x : FlashImage) : Nat := 0x040 + imgLength x
def ucodeSigAt (x : FlashImage) : Nat := imgTagAt x + 16
def ucodeSize (x : FlashImage) : Nat := ucodeSigAt x + 1280
def llynSize (x : FlashImage) : Nat := imgTagAt x + 1280

/-- n microwords from offset o of decrypted bytes, 16 bytes each, the least significant byte first (R255). -/
def wordsAt (bs : List Byte) (o : Nat) : Nat → List (BitVec 128)
  | 0 => []
  | n + 1 => BitVec.ofNat 128 (leAt bs o 16) :: wordsAt (bs.drop 16) o n

/-! ### Patch images (R253) -/

/-- MAGIC. -/
def patchMagic (p : FlashImage) : Nat := leAt p.head 0x000 4
/-- FORMAT. -/
def patchFormat (p : FlashImage) : Nat := leAt p.head 0x004 2
/-- LEVEL. -/
def patchLevel (p : FlashImage) : Nat := leAt p.head 0x006 2
/-- REQ_LEVEL. -/
def patchReqLevel (p : FlashImage) : Nat := leAt p.head 0x008 2
/-- N_OVL. -/
def patchOvls (p : FlashImage) : Nat := leAt p.head 0x00A 2
/-- OVL_START. -/
def patchOvlStart (p : FlashImage) : Nat := leAt p.head 0x00C 2
/-- N_HOOK. -/
def patchHooks (p : FlashImage) : Nat := leAt p.head 0x00E 1
/-- BASE_VER. -/
def patchBaseVer (p : FlashImage) : Nat := leAt p.head 0x010 4
/-- NONCE. -/
def patchNonce (p : FlashImage) : Nat := leAt p.head 0x014 12

/-- Where TAG and SIG lie, and the image's size: the ciphertext from 0x040 holds 16 bytes for an overlay word and 20 for a hook. SIG is
over the digest of every byte from 0 to the end of TAG. -/
def patchTagAt (p : FlashImage) : Nat := 0x040 + patchOvls p * 16 + patchHooks p * 20
def patchSigAt (p : FlashImage) : Nat := patchTagAt p + 16
def patchSize (p : FlashImage) : Nat := patchSigAt p + 1280

/-- The overlay words of the decrypted body, in address order from OVL_START. -/
def patchOvl (p : FlashImage) : List (BitVec 128) := wordsAt p.plain 0 (patchOvls p)

/-- The hooks of the decrypted body after the overlay words: a 4-byte word address and a 16-byte word each. -/
def patchHookList (p : FlashImage) : List (Nat × BitVec 128) :=
  (List.range (patchHooks p)).map (fun j =>
    let o := patchOvls p * 16 + 20 * j
    (leAt p.plain o 4, BitVec.ofNat 128 (leAt p.plain (o + 4) 16)))

/-! ### The SPI master (R402, R460) -/

/-- The read command that SPI_MODE names, with 3 or 4 address bytes. -/
def spiCommand (mode : Nat) (wide : Bool) : Nat :=
  match mode % 4, wide with
  | 0, false => 0x03 | 1, false => 0x0B | 2, false => 0x3B | _, false => 0x6B
  | 0, true => 0x13 | 1, true => 0x0C | 2, true => 0x3C | _, true => 0x6C

/-- The data lines of a read command. PRESUMED (log): the dual and quad output reads of the flash family. -/
def spiLanes (mode : Nat) : Nat := match mode % 4 with | 2 => 2 | 3 => 4 | _ => 1

/-- The dummy cycles of a read command. PRESUMED (log) of the dual and quad ones: the spec gives 8 for 0x0B. -/
def spiDummy (mode : Nat) : Nat := if mode % 4 == 0 then 0 else 8

/-- A read of n bytes at a flash address, SCK being REFCLK / div. -/
def spiRead (mode : Nat) (wide : Bool) (addr n div : Nat) : Output :=
  .spi (spiCommand mode wide) (if wide then 4 else 3) (addr % 2 ^ (if wide then 32 else 24)) (spiDummy mode) (spiLanes mode) n div

/-- The reads of the directory: command 0x03 with 3-byte addresses and D = 16, the copy only where the first is invalid (R402, R403). -/
def dirReads (b : BootInput) : List Output :=
  spiRead 0 false 0 256 16 :: (if dirValid b.dir then [] else [spiRead 0 false 0x10000 256 16])

/-- The read of an entry, by SPI_MODE and SPI_DIV of the directory (R403). -/
def entryRead (d : List Byte) (i : Nat) : Output :=
  let m := leAt d 7 1
  spiRead (m % 4) (bitAt m 2) (entryOffset d i) (entryLength d i) (leAt d 6 1)

end Sys2Proof.Machine
end

