-- ==== Sys2Proof/Machine/ParamTable.lean ====
section
/-!
DEFINITION. The parameter map: which fields a parameter ID has, with each field's access code (R10), its range and whether
its value is computed from other state when it is read. An ID with no row is refused with NO_PARAM (R8, R9).
-/

namespace Sys2Proof.Machine

/-- The access codes of R10. -/
inductive Acc where
  | ro | rw | w1c | w1s | wo | rc | sh
  deriving DecidableEq, Repr

/-- One row of a parameter table: the field, its access, its range test, and whether reading it computes its value. -/
structure Row where
  f : Field
  acc : Acc
  ok : Nat → Bool
  comp : Bool

/-- Tones per port (R62): 8 on DRV (block 3), 24 on PRB (block 4). -/
def tones (b : Nat) : Nat := if b == 3 then 8 else 24

/-- The legal read-out words of R115: 0, LOW or HIGH. -/
def rxWordOk (v : Nat) : Bool :=
  v == 0 || decide (46912496118443 ≤ v ∧ v ≤ 69489134875443) || decide (71248353479885 ≤ v ∧ v ≤ 93824992236885)

/-- The gate codes that R318 defines. -/
def gateSelOk (v : Nat) : Bool :=
  decide (v ≤ 3) || decide (0x08 ≤ v ∧ v ≤ 0x0B) || decide (0x10 ≤ v ∧ v ≤ 0x17) || decide (0x40 ≤ v)

/-- The consumer codes that R323 defines. -/
def consOk (v : Nat) : Bool := decide (v ≤ 0x47) || v == 0x7F

/-- The calibration port numbers of R143: DRV at 0x100, PRB at 0x200, FLX at 0x300. -/
def isCalPort (i : Nat) : Bool :=
  decide (0x100 ≤ i ∧ i < 0x128) || decide (0x200 ≤ i ∧ i < 0x20C) || decide (0x300 ≤ i ∧ i < 0x318)

open P

/-- Block 0x01. -/
def rowsTl (i k : Nat) : List Row :=
  if i == 0 && k == 0x0 then
    [⟨tlTlSource, .rw, (· < 3), false⟩]
  else if i == 0 && k == 0x1 then
    [⟨tlTlRefSel, .rw, fun _ => true, false⟩]
  else if i == 0 && k == 0x2 then
    [⟨tlTlUplink, .rw, fun _ => true, false⟩]
  else if i == 0 && k == 0x3 then
    [⟨tlEpochGt, .rw, fun _ => true, false⟩]
  else if i == 0 && k == 0x4 then
    [⟨tlEpochArm, .wo, fun _ => true, false⟩,
     ⟨tlEpochArmed, .ro, fun _ => true, false⟩]
  else if i == 0 && k == 0x5 then
    [⟨tlEpochSkew, .rw, fun _ => true, false⟩]
  else if i == 0 && k == 0x6 then
    [⟨tlEpochPeriod, .rw, (· % 4 == 0), false⟩]
  else if i == 0 && k == 0x7 then
    [⟨tlSyncTimeout, .rw, (0 < ·), false⟩]
  else if i == 0 && k == 0x10 then
    [⟨tlGtNow, .ro, fun _ => true, true⟩]
  else if i == 0 && k == 0x11 then
    [⟨tlGtState, .ro, fun _ => true, true⟩,
     ⟨tlTlDepth, .ro, fun _ => true, false⟩,
     ⟨tlMasterNode, .ro, fun _ => true, false⟩]
  else if i == 0 && k == 0x12 then
    [⟨tlTlPhase, .ro, fun _ => true, false⟩]
  else if i == 0 && k == 0x13 then
    [⟨tlTlOffsetEst, .ro, fun _ => true, false⟩]
  else if i == 0 && k == 0x14 then
    [⟨tlSnapPending, .ro, fun _ => true, true⟩]
  else if i == 0 && k == 0x15 then
    [⟨tlSchedUsed, .ro, fun _ => true, true⟩]
  else if i == 0 && k == 0x20 then
    [⟨tlGtLostCount, .rc, fun _ => true, false⟩]
  else if i == 0 && k == 0x21 then
    [⟨tlSnapMissedCount, .rc, fun _ => true, false⟩]
  else if i == 0 && k == 0x22 then
    [⟨tlMidshotStepCount, .rc, fun _ => true, false⟩]
  else if 1 ≤ i && i ≤ 4 && k == 0x0 then
    [⟨(tlgLinkRtt (i - 1)), .ro, fun _ => true, false⟩]
  else if 1 ≤ i && i ≤ 4 && k == 0x1 then
    [⟨(tlgLinkDelay (i - 1)), .ro, fun _ => true, false⟩]
  else if 1 ≤ i && i ≤ 4 && k == 0x2 then
    [⟨(tlgLinkAsym (i - 1)), .rw, fun _ => true, false⟩]
  else if 1 ≤ i && i ≤ 4 && k == 0x3 then
    [⟨(tlgBeaconRx (i - 1)), .rc, fun _ => true, false⟩,
     ⟨(tlgBeaconMiss (i - 1)), .rc, fun _ => true, false⟩]
  else []

/-- Block 0x02. -/
def rowsSq (i k : Nat) : List Row :=
  if i < 64 && k == 0x0 then
    [⟨(sqSqEn i), .rw, fun _ => true, false⟩,
     ⟨(sqSqDone i), .ro, fun _ => true, false⟩,
     ⟨(sqSqIssuing i), .ro, fun _ => true, true⟩]
  else if i < 64 && k == 0x1 then
    [⟨(sqSqEntry i), .rw, fun _ => true, false⟩]
  else if i < 64 && k == 0x2 then
    [⟨(sqLookaheadMax i), .rw, (fun v => decide (1024 ≤ v ∧ v ≤ 1000000000)), false⟩]
  else if i < 64 && k == 0x3 then
    [⟨(sqWaitoLimit i), .rw, fun _ => true, false⟩,
     ⟨(sqWaitoGap i), .rw, (24 ≤ ·), false⟩]
  else if i < 64 && k == 0x10 then
    [⟨(sqLate i), .w1c, fun _ => true, false⟩,
     ⟨(sqBindMiss i), .w1c, fun _ => true, false⟩,
     ⟨(sqSqFault i), .w1c, fun _ => true, false⟩,
     ⟨(sqWaitoTimeout i), .w1c, fun _ => true, false⟩,
     ⟨(sqWaittPast i), .w1c, fun _ => true, false⟩,
     ⟨(sqSlotDup i), .w1c, fun _ => true, false⟩,
     ⟨(sqMarkRefused i), .w1c, fun _ => true, false⟩]
  else if i < 64 && k == 0x11 then
    [⟨(sqFaultCode i), .ro, fun _ => true, false⟩,
     ⟨(sqFaultPc i), .ro, fun _ => true, false⟩]
  else if i < 64 && k == 0x12 then
    [⟨(sqLateCount i), .rc, fun _ => true, false⟩,
     ⟨(sqBindMissCount i), .rc, fun _ => true, false⟩]
  else if i < 64 && k == 0x13 then
    [⟨(sqLastLateGt i), .ro, fun _ => true, false⟩]
  else if i < 64 && k == 0x14 then
    [⟨(sqLastLateLane i), .ro, fun _ => true, false⟩]
  else if i < 64 && k == 0x15 then
    [⟨(sqShotCount i), .ro, fun _ => true, false⟩]
  else if i < 64 && k == 0x16 then
    [⟨(sqShotInvalidCount i), .ro, fun _ => true, false⟩]
  else if i < 64 && k == 0x17 then
    [⟨(sqShotFlagsLast i), .ro, fun _ => true, false⟩,
     ⟨(sqShotFlagsNow i), .ro, fun _ => true, true⟩]
  else if i < 64 && k == 0x18 then
    [⟨(sqCursorNow i), .ro, fun _ => true, true⟩]
  else if i < 64 && k == 0x19 then
    [⟨(sqBoundaryGt i), .ro, fun _ => true, false⟩]
  else if i < 64 && k == 0x1a then
    [⟨(sqPcNow i), .ro, fun _ => true, true⟩,
     ⟨(sqSlotsUsed i), .ro, fun _ => true, true⟩,
     ⟨(sqChkptUsed i), .ro, fun _ => true, true⟩,
     ⟨(sqLoopLevel i), .ro, fun _ => true, true⟩,
     ⟨(sqCallLevel i), .ro, fun _ => true, true⟩,
     ⟨(sqStallCause i), .ro, fun _ => true, true⟩]
  else if i < 64 && k == 0x1b then
    [⟨(sqStallTicks i), .rc, fun _ => true, false⟩,
     ⟨(sqWaittPastCount i), .rc, fun _ => true, false⟩]
  else if i < 64 && k == 0x1c then
    [⟨(sqWaitoTimeoutCount i), .rc, fun _ => true, false⟩,
     ⟨(sqSlotDupCount i), .rc, fun _ => true, false⟩]
  else if i < 64 && k == 0x1d then
    [⟨(sqProgWrRefused i), .rc, fun _ => true, false⟩,
     ⟨(sqMarkRefusedCount i), .rc, fun _ => true, false⟩]
  else if i < 64 && 0x20 ≤ k && k < 0x2C then
    [⟨(sqKind i (k - 0x20)), .sh, fun _ => true, false⟩,
     ⟨(sqTport i (k - 0x20)), .sh, fun _ => true, false⟩,
     ⟨(sqTtone i (k - 0x20)), .sh, fun _ => true, false⟩,
     ⟨(sqTValid i (k - 0x20)), .sh, fun _ => true, false⟩,
     ⟨(sqChInput i (k - 0x20)), .sh, fun _ => true, false⟩,
     ⟨(sqCh i (k - 0x20)), .sh, fun _ => true, false⟩,
     ⟨(sqChValid i (k - 0x20)), .sh, fun _ => true, false⟩]
  else if i < 64 && 0x30 ≤ k && k < 0x40 then
    [⟨(sqCalwDrv i (k - 0x30)), .rw, fun _ => true, false⟩,
     ⟨(sqCalwPrb i (k - 0x30)), .rw, fun _ => true, false⟩]
  else if i < 64 && 0x40 ≤ k && k < 0x50 then
    [⟨(sqCalwFlx i (k - 0x40)), .rw, fun _ => true, false⟩]
  else if i == 64 && k == 0x0 then
    [⟨sqSqPacer, .rw, fun _ => true, false⟩]
  else if i == 64 && k == 0x1 then
    [⟨sqMarkOwner 0, .rw, fun _ => true, false⟩,
     ⟨sqMarkOwner 1, .rw, fun _ => true, false⟩,
     ⟨sqMarkOwner 2, .rw, fun _ => true, false⟩,
     ⟨sqMarkOwner 3, .rw, fun _ => true, false⟩,
     ⟨sqMarkOwner 4, .rw, fun _ => true, false⟩,
     ⟨sqMarkOwner 5, .rw, fun _ => true, false⟩,
     ⟨sqMarkOwner 6, .rw, fun _ => true, false⟩,
     ⟨sqMarkOwner 7, .rw, fun _ => true, false⟩]
  else []

/-- Ports of a synthesis block (R62): 40 DRV, 12 PRB. -/
def ports (b : Nat) : Nat := if b == 3 then 40 else 12

/-- Blocks 0x03 and 0x04, and the shelf directory under 0x03 (R90, R91). -/
def rowsPort (b i k : Nat) : List Row :=
  if i < ports b && k == 0x0 then
    [⟨(portPortEn b i), .rw, fun _ => true, false⟩,
     ⟨(portBand b i), .rw, (· < 2), false⟩]
  else if i < ports b && k == 0x1 then
    [⟨(portPortDelay b i), .rw, fun _ => true, false⟩]
  else if i < ports b && k == 0x2 then
    [⟨(portPortFine b i), .rw, fun _ => true, false⟩]
  else if i < ports b && k == 0x3 then
    [⟨(portPortScale b i), .sh, fun _ => true, false⟩]
  else if i < ports b && k == 0x4 then
    [⟨(portToneEn b i), .rw, fun _ => true, false⟩]
  else if i < ports b && k == 0x5 then
    [⟨(portUnderrunInvalid b i), .rw, fun _ => true, false⟩,
     ⟨(portDeferInvalid b i), .rw, fun _ => true, false⟩]
  else if i < ports b && k == 0x10 then
    [⟨(portUnderrun b i), .w1c, fun _ => true, false⟩,
     ⟨(portClip b i), .w1c, fun _ => true, false⟩,
     ⟨(portRateOver b i), .w1c, fun _ => true, false⟩,
     ⟨(portPlayDeferred b i), .w1c, fun _ => true, false⟩,
     ⟨(portFreqRefused b i), .w1c, fun _ => true, false⟩]
  else if i < ports b && k == 0x11 then
    [⟨(portUnderrunCount b i), .rc, fun _ => true, false⟩]
  else if i < ports b && k == 0x12 then
    [⟨(portClipCount b i), .rc, fun _ => true, false⟩]
  else if i < ports b && k == 0x13 then
    [⟨(portRateOverCount b i), .rc, fun _ => true, false⟩,
     ⟨(portDeferCount b i), .rc, fun _ => true, false⟩]
  else if i < ports b && k == 0x14 then
    [⟨(portFreqRefusedCount b i), .rc, fun _ => true, false⟩,
     ⟨(portJumpReplacedCount b i), .rc, fun _ => true, false⟩]
  else if i < ports b && k == 0x15 then
    [⟨(portLastUnderrunShelf b i), .ro, fun _ => true, false⟩,
     ⟨(portLastUnderrunTone b i), .ro, fun _ => true, false⟩]
  else if i < ports b && k == 0x16 then
    [⟨(portLastUnderrunGt b i), .ro, fun _ => true, false⟩]
  else if i < ports b && k == 0x17 then
    [⟨(portRatePeak b i), .rc, fun _ => true, false⟩]
  else if i < ports b && 0x100 ≤ k && k % 16 == 0 && (k - 0x100) / 16 < tones b then
    [⟨(toneToneFreq b i ((k - 0x100) / 16)), .sh, fun _ => true, false⟩]
  else if i < ports b && 0x100 ≤ k && k % 16 == 1 && (k - 0x100) / 16 < tones b then
    [⟨(toneToneFrameInit b i ((k - 0x100) / 16)), .sh, fun _ => true, false⟩]
  else if i < ports b && 0x100 ≤ k && k % 16 == 2 && (k - 0x100) / 16 < tones b then
    [⟨(toneToneGain b i ((k - 0x100) / 16)), .sh, fun _ => true, false⟩]
  else if i < ports b && 0x100 ≤ k && k % 16 == 3 && (k - 0x100) / 16 < tones b then
    [⟨(toneToneResync b i ((k - 0x100) / 16)), .sh, fun _ => true, false⟩]
  else if i < ports b && 0x100 ≤ k && k % 16 == 4 && (k - 0x100) / 16 < tones b then
    [⟨(toneFreqNow b i ((k - 0x100) / 16)), .ro, fun _ => true, true⟩]
  else if i < ports b && 0x100 ≤ k && k % 16 == 5 && (k - 0x100) / 16 < tones b then
    [⟨(toneFrameNow b i ((k - 0x100) / 16)), .ro, fun _ => true, true⟩]
  else if i < ports b && 0x100 ≤ k && k % 16 == 6 && (k - 0x100) / 16 < tones b then
    [⟨(toneJumpShelf b i ((k - 0x100) / 16)), .wo, fun _ => true, false⟩,
     ⟨(toneStop b i ((k - 0x100) / 16)), .wo, fun _ => true, false⟩]
  else if i < ports b && 0x100 ≤ k && k % 16 == 7 && (k - 0x100) / 16 < tones b then
    [⟨(toneJumpAt b i ((k - 0x100) / 16)), .ro, fun _ => true, false⟩]
  else if b == 3 && 0x100 ≤ i && i < 0x108 && k % 4 == 0x0 then
    [⟨(P.shelfStart ((i - 0x100) * 1024 + k / 4)), .rw, (· % 4 == 0), false⟩,
     ⟨(shelfLength ((i - 0x100) * 1024 + k / 4)), .rw, (· ≤ 1048576), false⟩,
     ⟨(shelfRate ((i - 0x100) * 1024 + k / 4)), .rw, (· ≤ 4096), false⟩]
  else if b == 3 && 0x100 ≤ i && i < 0x108 && k % 4 == 0x1 then
    [⟨(shelfNext ((i - 0x100) * 1024 + k / 4)), .rw, fun _ => true, false⟩,
     ⟨(shelfNextEn ((i - 0x100) * 1024 + k / 4)), .rw, fun _ => true, false⟩,
     ⟨(shelfStream ((i - 0x100) * 1024 + k / 4)), .rw, fun _ => true, false⟩]
  else if b == 3 && 0x100 ≤ i && i < 0x108 && k % 4 == 0x2 then
    [⟨(shelfState ((i - 0x100) * 1024 + k / 4)), .rw, (· < 3), false⟩,
     ⟨(P.shelfRefs ((i - 0x100) * 1024 + k / 4)), .ro, fun _ => true, false⟩]
  else if b == 3 && i == 255 && k == 0x0 then
    [⟨wfWfWrRefused, .rc, fun _ => true, false⟩]
  else if b == 3 && i == 255 && k == 0x1 then
    [⟨wfShelvesActive, .ro, fun _ => true, true⟩]
  else []

/-- Block 0x05. -/
def rowsFlx (i k : Nat) : List Row :=
  if ¬ i < 24 then [] else
  if k == 0x0 then
    [⟨(flxPortEn i), .rw, fun _ => true, false⟩]
  else if k == 0x1 then
    [⟨(flxPortDelay i), .rw, fun _ => true, false⟩]
  else if k == 0x2 then
    [⟨(flxPortFine i), .rw, fun _ => true, false⟩]
  else if k == 0x3 then
    [⟨(flxFlxScale i), .sh, fun _ => true, false⟩]
  else if k == 0x4 then
    [⟨(flxFlxOffset i), .sh, fun _ => true, false⟩]
  else if k == 0x5 then
    [⟨(flxUnderrunInvalid i), .rw, fun _ => true, false⟩,
     ⟨(flxDeferInvalid i), .rw, fun _ => true, false⟩]
  else if k == 0x6 then
    [⟨(flxSrcSel i), .rw, fun _ => true, false⟩]
  else if k == 0x10 then
    [⟨(flxUnderrun i), .w1c, fun _ => true, false⟩,
     ⟨(flxClip i), .w1c, fun _ => true, false⟩,
     ⟨(flxPlayDeferred i), .w1c, fun _ => true, false⟩,
     ⟨(flxToneless i), .w1c, fun _ => true, false⟩,
     ⟨(flxFlxSeedBad i), .w1c, fun _ => true, false⟩]
  else if k == 0x11 then
    [⟨(flxUnderrunCount i), .rc, fun _ => true, false⟩]
  else if k == 0x12 then
    [⟨(flxClipCount i), .rc, fun _ => true, false⟩]
  else if k == 0x13 then
    [⟨(flxTonelessCount i), .rc, fun _ => true, false⟩,
     ⟨(flxDeferCount i), .rc, fun _ => true, false⟩]
  else if k == 0x15 then
    [⟨(flxLastUnderrunShelf i), .ro, fun _ => true, false⟩]
  else if k == 0x16 then
    [⟨(flxLastUnderrunGt i), .ro, fun _ => true, false⟩]
  else if 0x20 ≤ k && k < 0x24 then
    [⟨(flxExpAmp i (k - 0x20)), .sh, fun _ => true, false⟩,
     ⟨(flxExpCoef i (k - 0x20)), .sh, fun _ => true, false⟩]
  else if 0x30 ≤ k && k < 0x40 then
    [⟨(flxFirTap i (k - 0x30)), .sh, fun _ => true, false⟩]
  else if k == 0x40 then
    [⟨(flxCodeNow i), .ro, fun _ => true, false⟩]
  else if k == 0x41 then
    [⟨(flxJumpShelf i), .wo, fun _ => true, false⟩,
     ⟨(flxStop i), .wo, fun _ => true, false⟩,
     ⟨(flxJumpReplacedCount i), .rc, fun _ => true, false⟩]
  else if k == 0x42 then
    [⟨(flxJumpAt i), .ro, fun _ => true, false⟩]
  else []

/-- Block 0x06. -/
def rowsBia (i k : Nat) : List Row :=
  if ¬ i < 32 then [] else
  if k == 0x0 then
    [⟨(biaBiaCode i), .sh, fun _ => true, false⟩,
     ⟨(biaBiaSpan i), .sh, fun _ => true, false⟩]
  else if k == 0x1 then
    [⟨(biaPuCode i), .rw, fun _ => true, false⟩,
     ⟨(biaPuSpan i), .rw, fun _ => true, false⟩]
  else if k == 0x2 then
    [⟨(biaFaultCode i), .rw, fun _ => true, false⟩,
     ⟨(biaFaultSpan i), .rw, fun _ => true, false⟩]
  else if k == 0x10 then
    [⟨(biaSpanBusy i), .ro, fun _ => true, false⟩,
     ⟨(biaFaultDrive i), .ro, fun _ => true, false⟩,
     ⟨(biaNvBad i), .w1c, fun _ => true, false⟩]
  else if k == 0x11 then
    [⟨(biaCodeNow i), .ro, fun _ => true, false⟩,
     ⟨(biaSpanNow i), .ro, fun _ => true, false⟩]
  else if k == 0x12 then
    [⟨(biaSpanChangeCount i), .rc, fun _ => true, false⟩]
  else []

/-- Block 0x07. -/
def rowsRin (i k : Nat) : List Row :=
  if ¬ i < 12 then [] else
  if k == 0x0 then
    [⟨(rinRinEn i), .rw, fun _ => true, false⟩,
     ⟨(rinBenchSrc i), .rw, fun _ => true, false⟩]
  else if k == 0x1 then
    [⟨(rinRinFine i), .rw, fun _ => true, false⟩]
  else if k == 0x2 then
    [⟨(rinSwMode i), .rw, fun _ => true, false⟩,
     ⟨(rinConvInvalid i), .rw, fun _ => true, false⟩,
     ⟨(rinSeedSrc i), .rw, fun _ => true, false⟩]
  else if k == 0x3 then
    [⟨(rinEstMin i), .rw, fun _ => true, false⟩]
  else if k == 0x4 then
    [⟨(rinEstAvg i), .rw, (· ≤ 12), false⟩]
  else if k == 0x5 then
    [⟨(rinCalSwitchAt i), .wo, fun _ => true, false⟩]
  else if k == 0x6 then
    [⟨(rinSwitchPending i), .ro, fun _ => true, true⟩]
  else if k == 0x7 then
    [⟨(rinLastSwitchGt i), .ro, fun _ => true, false⟩]
  else if k == 0x10 then
    [⟨(rinCalConverging i), .ro, fun _ => true, false⟩,
     ⟨(rinAdcOvr i), .w1c, fun _ => true, false⟩,
     ⟨(rinEstRange i), .w1c, fun _ => true, false⟩,
     ⟨(rinSkewBlind i), .w1c, fun _ => true, false⟩,
     ⟨(rinCalSplit i), .w1c, fun _ => true, false⟩,
     ⟨(rinRinSeedBad i), .w1c, fun _ => true, false⟩,
     ⟨(rinRxRange i), .w1c, fun _ => true, false⟩,
     ⟨(rinRxSat i), .w1c, fun _ => true, false⟩,
     ⟨(rinAcqOver i), .w1c, fun _ => true, false⟩]
  else if k == 0x11 then
    [⟨(rinAdcOvrCount i), .rc, fun _ => true, false⟩]
  else if k == 0x12 then
    [⟨(rinEstBlocks i), .rc, fun _ => true, false⟩,
     ⟨(rinEstReject i), .rc, fun _ => true, false⟩]
  else if k == 0x13 then
    [⟨(rinConvSamples i), .ro, fun _ => true, false⟩]
  else if k == 0x14 then
    [⟨(rinCalSplitCount i), .rc, fun _ => true, false⟩,
     ⟨(rinAcqOverCount i), .rc, fun _ => true, false⟩]
  else if k == 0x15 then
    [⟨(rinRxIgnoredCount i), .rc, fun _ => true, false⟩]
  else if 0x20 ≤ k && k < 0x28 then
    [⟨(rinEstOffset i (k - 0x20)), .ro, fun _ => true, false⟩,
     ⟨(rinEstGain i (k - 0x20)), .ro, fun _ => true, false⟩,
     ⟨(rinEstSkew i (k - 0x20)), .ro, fun _ => true, false⟩]
  else if 0x28 ≤ k && k < 0x30 then
    [⟨(rinAppSet i (k - 0x28)), .ro, fun _ => true, false⟩]
  else if 0x100 ≤ k && k % 16 == 0 && (k - 0x100) / 16 < 24 then
    [⟨(rinRxFreq i ((k - 0x100) / 16)), .sh, rxWordOk, false⟩]
  else if 0x100 ≤ k && k % 16 == 1 && (k - 0x100) / 16 < 24 then
    [⟨(rinRxPhase i ((k - 0x100) / 16)), .sh, fun _ => true, false⟩]
  else if 0x100 ≤ k && k % 16 == 2 && (k - 0x100) / 16 < 24 then
    [⟨(rinRxGain i ((k - 0x100) / 16)), .sh, fun _ => true, false⟩]
  else if 0x100 ≤ k && k % 16 == 3 && (k - 0x100) / 16 < 24 then
    [⟨(rinRxResync i ((k - 0x100) / 16)), .sh, fun _ => true, false⟩]
  else if 0x100 ≤ k && k % 16 == 4 && (k - 0x100) / 16 < 24 then
    [⟨(rinRxPairEn i ((k - 0x100) / 16)), .rw, fun _ => true, false⟩,
     ⟨(rinRxPairPort i ((k - 0x100) / 16)), .rw, (· < 12), false⟩,
     ⟨(rinRxPairTone i ((k - 0x100) / 16)), .rw, (· < 24), false⟩]
  else if 0x100 ≤ k && k % 16 == 5 && (k - 0x100) / 16 < 24 then
    [⟨(rinRxFreqNow i ((k - 0x100) / 16)), .ro, fun _ => true, true⟩]
  else []

/-- Block 0x08. -/
def rowsDxe (i k : Nat) : List Row :=
  if ¬ i < 24 then [] else
  if k == 0x0 then
    [⟨(dxeDxeRun i), .rw, fun _ => true, false⟩,
     ⟨(dxeHalted i), .ro, fun _ => true, false⟩]
  else if k == 0x1 then
    [⟨(dxeDxeMsg i), .wo, fun _ => true, false⟩]
  else if k == 0x2 then
    [⟨(dxeTickPeriod i), .rw, fun _ => true, false⟩]
  else if k == 0x3 then
    [⟨(dxeHoldoffLimit i), .rw, fun _ => true, false⟩]
  else if 0x10 ≤ k && k < 0x1C then
    [⟨(dxeRshift i (k - 0x10)), .rw, (· ≤ 24), false⟩]
  else if k == 0x20 then
    [⟨(dxeDxeFault i), .w1c, fun _ => true, false⟩,
     ⟨(dxeSeedBad i), .w1c, fun _ => true, false⟩,
     ⟨(dxeResqOver i), .w1c, fun _ => true, false⟩,
     ⟨(dxeHoldoffExceeded i), .w1c, fun _ => true, false⟩]
  else if k == 0x21 then
    [⟨(dxeFaultCode i), .ro, fun _ => true, false⟩,
     ⟨(dxeFaultPc i), .ro, fun _ => true, false⟩]
  else if k == 0x22 then
    [⟨(dxeHoldoffMax i), .rc, fun _ => true, false⟩]
  else if k == 0x23 then
    [⟨(dxeResqOverCount i), .rc, fun _ => true, false⟩,
     ⟨(dxeHoldoffExcCount i), .rc, fun _ => true, false⟩]
  else if k == 0x24 then
    [⟨(dxeTrkRefusedCount i), .rc, fun _ => true, false⟩,
     ⟨(dxeTrkClampCount i), .rc, fun _ => true, false⟩]
  else if k == 0x25 then
    [⟨(dxeOutcDropCount i), .rc, fun _ => true, false⟩,
     ⟨(dxeProgWrRefused i), .rc, fun _ => true, false⟩]
  else if k == 0x26 then
    [⟨(dxePcNow i), .ro, fun _ => true, true⟩,
     ⟨(dxeResqLevel i), .ro, fun _ => true, true⟩,
     ⟨(dxeRepLevel i), .ro, fun _ => true, true⟩]
  else if k == 0x27 then
    [⟨(dxeSeedSave i), .wo, fun _ => true, false⟩]
  else if 0x30 ≤ k && k < 0x40 then
    [⟨(dxeCbBase i (k - 0x30)), .rw, fun _ => true, false⟩,
     ⟨(dxeCbLen i (k - 0x30)), .rw, (· ≤ 32768), false⟩]
  else if 0x40 ≤ k && k < 0x50 then
    [⟨(dxePtr i (k - 0x40)), .ro, fun _ => true, true⟩]
  else if 0x50 ≤ k && k < 0x58 then
    [⟨(dxeTrkMaxStep i (k - 0x50)), .rw, fun _ => true, false⟩]
  else if 0x58 ≤ k && k < 0x60 then
    [⟨(dxeTrkSq i (k - 0x58)), .rw, fun _ => true, false⟩,
     ⟨(dxeTrkApply i (k - 0x58)), .rw, fun _ => true, false⟩]
  else if 0x800 ≤ k && k % 8 < 3 then
    [⟨(dxeAxis i ((k - 0x800) / 8) (k % 8)), .sh, fun _ => true, true⟩]
  else if 0x800 ≤ k && 3 ≤ k % 8 && k % 8 < 6 then
    [⟨(dxeThr i ((k - 0x800) / 8) (k % 8)), .sh, fun _ => true, true⟩]
  else if 0x800 ≤ k && k % 8 == 6 then
    [⟨(dxeMap i ((k - 0x800) / 8)), .sh, fun _ => true, true⟩]
  else if 0x800 ≤ k && k % 8 == 7 then
    [⟨(dxeNax i ((k - 0x800) / 8)), .sh, fun _ => true, true⟩]
  else []

/-- Block 0x09. -/
def rowsOut (i k : Nat) : List Row :=
  if i == 0 && k == 0x0 then
    [⟨outShareLg, .rw, fun _ => true, false⟩,
     ⟨outFwdLg, .rw, fun _ => true, false⟩]
  else if i == 0 && k == 0x10 then
    [⟨outOutcPosted, .rc, fun _ => true, false⟩,
     ⟨outSharedSent, .rc, fun _ => true, false⟩]
  else if i == 0 && k == 0x11 then
    [⟨outRemoteApplied, .rc, fun _ => true, false⟩,
     ⟨outRemoteIgnored, .rc, fun _ => true, false⟩]
  else if i == 0 && k == 0x12 then
    [⟨outShareDrop, .rc, fun _ => true, false⟩,
     ⟨outStaleEvents, .rc, fun _ => true, false⟩]
  else if i == 0 && k == 0x13 then
    [⟨outShareOver, .w1c, fun _ => true, false⟩,
     ⟨outAnyStale, .ro, fun _ => true, true⟩]
  else if 0x100 ≤ i && i < 0x110 then
    [⟨(decTarget ((i - 0x100) * 4096 + k)), .sh, fun _ => true, true⟩,
     ⟨(decBr ((i - 0x100) * 4096 + k)), .sh, fun _ => true, true⟩,
     ⟨(decAlt ((i - 0x100) * 4096 + k)), .sh, fun _ => true, true⟩,
     ⟨(decPost ((i - 0x100) * 4096 + k)), .sh, fun _ => true, false⟩,
     ⟨(decCode ((i - 0x100) * 4096 + k)), .sh, fun _ => true, true⟩]
  else if 0x200 ≤ i && i < 0x200 + 288 && k == 0x0 then
    [⟨(chOregVal (i - 0x200)), .ro, fun _ => true, false⟩,
     ⟨(chOregFlags (i - 0x200)), .ro, fun _ => true, false⟩,
     ⟨(chOregValid (i - 0x200)), .ro, fun _ => true, false⟩]
  else if 0x200 ≤ i && i < 0x200 + 288 && k == 0x1 then
    [⟨(chOregEndGt (i - 0x200)), .ro, fun _ => true, false⟩]
  else if 0x200 ≤ i && i < 0x200 + 288 && k == 0x2 then
    [⟨(chShare (i - 0x200)), .rw, fun _ => true, false⟩]
  else if 0x400 ≤ i && i < 0x500 && k == 0x0 then
    [⟨(rrRregEn (i - 0x400)), .rw, fun _ => true, false⟩,
     ⟨(rrRregNode (i - 0x400)), .rw, fun _ => true, false⟩,
     ⟨(rrRregCh (i - 0x400)), .rw, (· < 288), false⟩]
  else if 0x400 ≤ i && i < 0x500 && k == 0x1 then
    [⟨(rrRregVal (i - 0x400)), .ro, fun _ => true, false⟩,
     ⟨(rrRregFlags (i - 0x400)), .ro, fun _ => true, false⟩,
     ⟨(rrRregValid (i - 0x400)), .ro, fun _ => true, false⟩,
     ⟨(rrStale (i - 0x400)), .ro, fun _ => true, false⟩,
     ⟨(rrRregLg (i - 0x400)), .ro, fun _ => true, false⟩]
  else if 0x400 ≤ i && i < 0x500 && k == 0x2 then
    [⟨(rrRregEndGt (i - 0x400)), .ro, fun _ => true, false⟩]
  else if 0x600 ≤ i && i < 0x640 && k == 0x0 then
    [⟨(duNbits (i - 0x600)), .sh, (· ≤ 16), false⟩,
     ⟨(duBase (i - 0x600)), .sh, fun _ => true, false⟩]
  else if 0x600 ≤ i && i < 0x640 && 0x10 ≤ k && k < 0x20 then
    [⟨(duSrcReg (i - 0x600) (k - 0x10)), .sh, fun _ => true, false⟩,
     ⟨(duSrcRemote (i - 0x600) (k - 0x10)), .sh, fun _ => true, false⟩,
     ⟨(duSrcBit (i - 0x600) (k - 0x10)), .sh, fun _ => true, false⟩]
  else if 0x600 ≤ i && i < 0x640 && k == 0x20 then
    [⟨(duIndexNow (i - 0x600)), .ro, fun _ => true, false⟩,
     ⟨(duEntryNow (i - 0x600)), .ro, fun _ => true, false⟩,
     ⟨(duDecReady (i - 0x600)), .ro, fun _ => true, true⟩,
     ⟨(duDecStale (i - 0x600)), .ro, fun _ => true, false⟩]
  else if 0x800 ≤ i && i < 0x840 && k == 0x0 then
    [⟨(osqStalePolicy (i - 0x800)), .rw, (· < 3), false⟩]
  else if 0x800 ≤ i && i < 0x840 && k == 0x10 then
    [⟨(osqLbNotReady (i - 0x800)), .w1c, fun _ => true, false⟩,
     ⟨(osqLbStale (i - 0x800)), .w1c, fun _ => true, false⟩,
     ⟨(osqBroStale (i - 0x800)), .w1c, fun _ => true, false⟩]
  else if 0x800 ≤ i && i < 0x840 && k == 0x11 then
    [⟨(osqLbNotReadyCount (i - 0x800)), .rc, fun _ => true, false⟩,
     ⟨(osqLbStaleCount (i - 0x800)), .rc, fun _ => true, false⟩]
  else if 0x800 ≤ i && i < 0x840 && k == 0x12 then
    [⟨(osqBroStaleCount (i - 0x800)), .rc, fun _ => true, false⟩]
  else []

/-- Block 0x0A. -/
def rowsMc (i k : Nat) : List Row :=
  if i < 64 && k == 0x0 then
    [⟨(mceUpcNow i), .ro, fun _ => true, true⟩,
     ⟨(mceWaiting i), .ro, fun _ => true, true⟩,
     ⟨(mceWaitCond i), .ro, fun _ => true, true⟩,
     ⟨(mceTrapDepth i), .ro, fun _ => true, true⟩,
     ⟨(mcePeekStale i), .ro, fun _ => true, true⟩]
  else if i < 64 && k == 0x1 then
    [⟨(mceLc0 i), .ro, fun _ => true, true⟩,
     ⟨(mceLc1 i), .ro, fun _ => true, true⟩,
     ⟨(mceUflags i), .ro, fun _ => true, true⟩]
  else if i < 64 && k == 0x2 then
    [⟨(mceTNow i), .ro, fun _ => true, true⟩]
  else if i < 64 && k == 0x3 then
    [⟨(mceWaitTicks i), .rc, fun _ => true, false⟩,
     ⟨(mceTrapTicks i), .rc, fun _ => true, false⟩]
  else if i < 64 && k == 0x4 then
    [⟨(mceCeTraps i), .rc, fun _ => true, false⟩,
     ⟨(mcePeekTraps i), .rc, fun _ => true, false⟩]
  else if i < 64 && k == 0x5 then
    [⟨(mceLastTrapCause i), .ro, fun _ => true, false⟩]
  else if i < 64 && k == 0x6 then
    [⟨(mceMcFault i), .w1c, fun _ => true, false⟩,
     ⟨(mceMcFaultCode i), .ro, fun _ => true, false⟩,
     ⟨(mceMcFaultUpc i), .ro, fun _ => true, false⟩]
  else if i < 64 && 0x10 ≤ k && k < 0x18 then
    [⟨(mceTrapFrame i (k - 0x10)), .ro, fun _ => true, true⟩]
  else if i == 64 && k == 0x0 then
    [⟨mcBaseVer, .ro, fun _ => true, false⟩,
     ⟨mcPatchLevel, .ro, fun _ => true, false⟩]
  else if i == 64 && k == 0x1 then
    [⟨mcPatchesApplied, .ro, fun _ => true, false⟩,
     ⟨mcPatchesRejected, .ro, fun _ => true, false⟩,
     ⟨mcPatchRejectCause, .ro, fun _ => true, false⟩,
     ⟨mcOvlUsed, .ro, fun _ => true, false⟩,
     ⟨mcHooksUsed, .ro, fun _ => true, false⟩]
  else if i == 64 && k == 0x2 then
    [⟨mcStoreCheck, .ro, fun _ => true, false⟩]
  else if i == 64 && k == 0x3 then
    [⟨mcPeekRun, .rw, fun _ => true, false⟩,
     ⟨mcMcStoreBad, .ro, fun _ => true, false⟩]
  else []

/-- Block 0x0B. -/
def rowsLnk (i k : Nat) : List Row :=
  if i == 0 && k == 0x0 then
    [⟨lnkNodeId, .ro, fun _ => true, false⟩,
     ⟨lnkNodeValid, .ro, fun _ => true, false⟩,
     ⟨lnkJoinStatus, .ro, fun _ => true, false⟩]
  else if i == 0 && k == 0x1 then
    [⟨lnkNodeAuth, .rw, fun _ => true, true⟩,
     ⟨lnkNodeReq, .rw, fun _ => true, false⟩,
     ⟨lnkReqAny, .rw, fun _ => true, false⟩]
  else if i == 0 && k == 0x2 then
    [⟨lnkJoin, .wo, fun _ => true, false⟩,
     ⟨lnkLeave, .wo, fun _ => true, false⟩]
  else if i == 0 && k == 0x3 then
    [⟨lnkPair, .rw, fun _ => true, false⟩]
  else if i == 0 && k == 0x4 then
    [⟨lnkDeviceSerial, .ro, fun _ => true, true⟩]
  else if i == 0 && k == 0x5 then
    [⟨lnkNodeMap, .ro, fun _ => true, false⟩]
  else if i == 0 && k == 0x6 then
    [⟨lnkOutTestRec, .wo, fun _ => true, false⟩]
  else if i == 0 && k == 0x10 then
    [⟨lnkAuthConflict, .w1c, fun _ => true, false⟩,
     ⟨lnkEqTableBad, .w1c, fun _ => true, false⟩]
  else if i == 0 && k == 0x11 then
    [⟨lnkJoinRefusedCount, .rc, fun _ => true, false⟩,
     ⟨lnkLeaveSeenCount, .rc, fun _ => true, false⟩]
  else if 1 ≤ i && i ≤ 4 && k == 0x0 then
    [⟨(lgLgEn (i - 1)), .rw, fun _ => true, false⟩,
     ⟨(lgSwitchNow (i - 1)), .wo, fun _ => true, false⟩]
  else if 1 ≤ i && i ≤ 4 && k == 0x1 then
    [⟨(lgLgState (i - 1)), .ro, fun _ => true, false⟩,
     ⟨(lgTxUp (i - 1)), .ro, fun _ => true, true⟩,
     ⟨(lgPeerId (i - 1)), .ro, fun _ => true, false⟩,
     ⟨(lgPeerValid (i - 1)), .ro, fun _ => true, false⟩,
     ⟨(lgSkewMax (i - 1)), .ro, fun _ => true, false⟩]
  else if 1 ≤ i && i ≤ 4 && k == 0x2 then
    [⟨(lgBeaconOfs (i - 1)), .rw, fun _ => true, false⟩]
  else if 1 ≤ i && i ≤ 4 && k == 0x10 then
    [⟨(lgDeskewFail (i - 1)), .w1c, fun _ => true, false⟩,
     ⟨(lgSwitched (i - 1)), .w1c, fun _ => true, false⟩,
     ⟨(lgWentDown (i - 1)), .w1c, fun _ => true, false⟩,
     ⟨(lgBufSlip (i - 1)), .w1c, fun _ => true, false⟩,
     ⟨(lgFrameErr (i - 1)), .w1c, fun _ => true, false⟩]
  else if 1 ≤ i && i ≤ 4 && k == 0x11 then
    [⟨(lgOutFramesTx (i - 1)), .rc, fun _ => true, false⟩,
     ⟨(lgOutFramesRx (i - 1)), .rc, fun _ => true, false⟩]
  else if 1 ≤ i && i ≤ 4 && k == 0x12 then
    [⟨(lgCrcErrCount (i - 1)), .rc, fun _ => true, false⟩,
     ⟨(lgFrameBadCount (i - 1)), .rc, fun _ => true, false⟩]
  else if 1 ≤ i && i ≤ 4 && k == 0x13 then
    [⟨(lgBulkTxCount (i - 1)), .rc, fun _ => true, false⟩,
     ⟨(lgBulkResentCount (i - 1)), .rc, fun _ => true, false⟩]
  else if 1 ≤ i && i ≤ 4 && k == 0x14 then
    [⟨(lgBulkRxCount (i - 1)), .rc, fun _ => true, false⟩,
     ⟨(lgBulkDiscardCount (i - 1)), .rc, fun _ => true, false⟩]
  else if 1 ≤ i && i ≤ 4 && k == 0x15 then
    [⟨(lgSwitchCount (i - 1)), .rc, fun _ => true, false⟩,
     ⟨(lgDownCount (i - 1)), .rc, fun _ => true, false⟩]
  else if 1 ≤ i && i ≤ 4 && k == 0x16 then
    [⟨(lgLastSwitchGt (i - 1)), .ro, fun _ => true, false⟩]
  else if 1 ≤ i && i ≤ 4 && k == 0x17 then
    [⟨(lgRecordsQueued (i - 1)), .ro, fun _ => true, true⟩,
     ⟨(lgBulkUnacked (i - 1)), .ro, fun _ => true, true⟩]
  else if 1 ≤ i && i ≤ 4 && k == 0x18 then
    [⟨(lgTimingFramesTx (i - 1)), .rc, fun _ => true, false⟩,
     ⟨(lgTimingFramesRx (i - 1)), .rc, fun _ => true, false⟩]
  else if 0x10 ≤ i && i < 0x20 && k == 0x0 then
    [⟨(laneTxSleep (i - 0x10)), .rw, fun _ => true, false⟩,
     ⟨(laneRxSleep (i - 0x10)), .rw, fun _ => true, false⟩,
     ⟨(laneLoop (i - 0x10)), .rw, fun _ => true, false⟩,
     ⟨(lanePattern (i - 0x10)), .rw, (· < 3), false⟩]
  else if 0x10 ≤ i && i < 0x20 && k == 0x1 then
    [⟨(laneLaneState (i - 0x10)), .ro, fun _ => true, false⟩,
     ⟨(laneSigDetect (i - 0x10)), .ro, fun _ => true, false⟩]
  else if 0x10 ≤ i && i < 0x20 && k == 0x2 then
    [⟨(laneTxPre (i - 0x10)), .ro, fun _ => true, false⟩,
     ⟨(laneTxPost (i - 0x10)), .ro, fun _ => true, false⟩,
     ⟨(laneTxSwing (i - 0x10)), .ro, fun _ => true, false⟩,
     ⟨(laneRxCtle (i - 0x10)), .ro, fun _ => true, false⟩,
     ⟨(laneTxPol (i - 0x10)), .ro, fun _ => true, false⟩,
     ⟨(laneRxPol (i - 0x10)), .ro, fun _ => true, false⟩]
  else if 0x10 ≤ i && i < 0x20 && k == 0x10 then
    [⟨(laneCodeErrCount (i - 0x10)), .rc, fun _ => true, false⟩,
     ⟨(laneDispErrCount (i - 0x10)), .rc, fun _ => true, false⟩]
  else if 0x10 ≤ i && i < 0x20 && k == 0x11 then
    [⟨(laneAlignLossCount (i - 0x10)), .rc, fun _ => true, false⟩,
     ⟨(lanePrbsErrCount (i - 0x10)), .rc, fun _ => true, false⟩]
  else if 0x20 ≤ i && i < 0x24 && k == 0x0 then
    [⟨(ckTxSleep (i - 0x20)), .rw, fun _ => true, false⟩,
     ⟨(ckRxSleep (i - 0x20)), .rw, fun _ => true, false⟩,
     ⟨(ckLoop (i - 0x20)), .rw, fun _ => true, false⟩]
  else if 0x20 ≤ i && i < 0x24 && k == 0x1 then
    [⟨(ckLaneState (i - 0x20)), .ro, fun _ => true, false⟩,
     ⟨(ckSigDetect (i - 0x20)), .ro, fun _ => true, false⟩,
     ⟨(ckCkPresent (i - 0x20)), .ro, fun _ => true, false⟩,
     ⟨(ckCkLossCount (i - 0x20)), .rc, fun _ => true, false⟩]
  else if 0x20 ≤ i && i < 0x24 && k == 0x2 then
    [⟨(ckTxPre (i - 0x20)), .ro, fun _ => true, false⟩,
     ⟨(ckTxPost (i - 0x20)), .ro, fun _ => true, false⟩,
     ⟨(ckTxSwing (i - 0x20)), .ro, fun _ => true, false⟩,
     ⟨(ckRxCtle (i - 0x20)), .ro, fun _ => true, false⟩,
     ⟨(ckTxPol (i - 0x20)), .ro, fun _ => true, false⟩,
     ⟨(ckRxPol (i - 0x20)), .ro, fun _ => true, false⟩]
  else if 0x20 ≤ i && i < 0x24 && k == 0x10 then
    [⟨(ckCodeErrCount (i - 0x20)), .rc, fun _ => true, false⟩]
  else if 0x20 ≤ i && i < 0x24 && k == 0x11 then
    [⟨(ckAlignLossCount (i - 0x20)), .rc, fun _ => true, false⟩]
  else []

/-- Block 0x0C. -/
def rowsTrg (i k : Nat) : List Row :=
  if i == 0 && k == 0x0 then
    [⟨trgStreamBudget, .ro, fun _ => true, true⟩]
  else if i == 0 && k == 0x1 then
    [⟨trgBudgetUsed, .ro, fun _ => true, true⟩]
  else if i == 0 && k == 0x2 then
    [⟨trgTwordNow, .ro, fun _ => true, true⟩]
  else if i == 0 && 0x10 ≤ k && k < 0x20 then
    [⟨(trgOselReg (k - 0x10)), .rw, fun _ => true, false⟩,
     ⟨(trgOselRemote (k - 0x10)), .rw, fun _ => true, false⟩]
  else if 0x30 ≤ i && i < 0x34 && k == 0x0 then
    [⟨(pinEdgeSel (i - 0x30)), .rw, fun _ => true, false⟩,
     ⟨(pinTrigFine (i - 0x30)), .rw, fun _ => true, false⟩]
  else if 0x30 ≤ i && i < 0x34 && k == 0x1 then
    [⟨(pinLastEdge (i - 0x30)), .ro, fun _ => true, false⟩]
  else if 0x30 ≤ i && i < 0x34 && k == 0x2 then
    [⟨(pinEdgeCount (i - 0x30)), .rc, fun _ => true, false⟩,
     ⟨(pinEdgeMissCount (i - 0x30)), .rc, fun _ => true, false⟩]
  else if 0x10 ≤ i && i < 0x20 && k == 0x0 then
    [⟨(stStreamEn (i - 0x10)), .rw, fun _ => true, false⟩,
     ⟨(stTriggered (i - 0x10)), .rw, fun _ => true, false⟩,
     ⟨(stLossInvalid (i - 0x10)), .rw, fun _ => true, false⟩,
     ⟨(stRawCorr (i - 0x10)), .rw, fun _ => true, false⟩,
     ⟨(stKind (i - 0x10)), .rw, (fun v => decide (1 ≤ v ∧ v ≤ 6)), false⟩]
  else if 0x10 ≤ i && i < 0x20 && k == 0x1 then
    [⟨(stSrcSel (i - 0x10)), .rw, fun _ => true, false⟩]
  else if 0x10 ≤ i && i < 0x20 && k == 0x2 then
    [⟨(stRing (i - 0x10)), .rw, fun _ => true, false⟩]
  else if 0x10 ≤ i && i < 0x20 && k == 0x3 then
    [⟨(stBufBase (i - 0x10)), .rw, fun _ => true, false⟩,
     ⟨(stBufSize (i - 0x10)), .rw, fun _ => true, false⟩]
  else if 0x10 ≤ i && i < 0x20 && k == 0x4 then
    [⟨(stRate (i - 0x10)), .rw, fun _ => true, false⟩]
  else if 0x10 ≤ i && i < 0x20 && k == 0x5 then
    [⟨(stMarkTu (i - 0x10)), .rw, fun _ => true, false⟩,
     ⟨(stEdgePin (i - 0x10)), .rw, fun _ => true, false⟩,
     ⟨(stTuSel (i - 0x10)), .rw, fun _ => true, false⟩]
  else if 0x10 ≤ i && i < 0x20 && k == 0x6 then
    [⟨(stPre (i - 0x10)), .rw, fun _ => true, false⟩,
     ⟨(stPost (i - 0x10)), .rw, fun _ => true, false⟩]
  else if 0x10 ≤ i && i < 0x20 && k == 0x10 then
    [⟨(stLoss (i - 0x10)), .w1c, fun _ => true, false⟩,
     ⟨(stShortPre (i - 0x10)), .w1c, fun _ => true, false⟩,
     ⟨(stFireIgnored (i - 0x10)), .w1c, fun _ => true, false⟩]
  else if 0x10 ≤ i && i < 0x20 && k == 0x11 then
    [⟨(stLostCount (i - 0x10)), .rc, fun _ => true, false⟩,
     ⟨(stGapCount (i - 0x10)), .rc, fun _ => true, false⟩]
  else if 0x10 ≤ i && i < 0x20 && k == 0x12 then
    [⟨(stRecords (i - 0x10)), .rc, fun _ => true, false⟩,
     ⟨(stFireIgnoredCount (i - 0x10)), .rc, fun _ => true, false⟩]
  else if 0x10 ≤ i && i < 0x20 && k == 0x13 then
    [⟨(stFill (i - 0x10)), .ro, fun _ => true, true⟩]
  else if 0x10 ≤ i && i < 0x20 && k == 0x14 then
    [⟨(stSeqNext (i - 0x10)), .ro, fun _ => true, true⟩]
  else if 0x20 ≤ i && i < 0x28 && k == 0x0 then
    [⟨(tuValue (i - 0x20)), .rw, fun _ => true, false⟩]
  else if 0x20 ≤ i && i < 0x28 && k == 0x1 then
    [⟨(tuCare (i - 0x20)), .rw, fun _ => true, false⟩]
  else if 0x20 ≤ i && i < 0x28 && k == 0x2 then
    [⟨(tuScope (i - 0x20)), .rw, fun _ => true, false⟩,
     ⟨(tuMode (i - 0x20)), .rw, fun _ => true, false⟩,
     ⟨(tuAuto (i - 0x20)), .rw, fun _ => true, false⟩,
     ⟨(tuHoldoff (i - 0x20)), .rw, fun _ => true, false⟩]
  else if 0x20 ≤ i && i < 0x28 && k == 0x3 then
    [⟨(tuSettle (i - 0x20)), .rw, (fun v => decide (1000 ≤ v ∧ v ≤ 1000000)), false⟩]
  else if 0x20 ≤ i && i < 0x28 && k == 0x4 then
    [⟨(tuArmAt (i - 0x20)), .wo, fun _ => true, false⟩]
  else if 0x20 ≤ i && i < 0x28 && k == 0x5 then
    [⟨(tuDisarm (i - 0x20)), .wo, fun _ => true, false⟩]
  else if 0x20 ≤ i && i < 0x28 && k == 0x6 then
    [⟨(tuTuState (i - 0x20)), .ro, fun _ => true, true⟩]
  else if 0x20 ≤ i && i < 0x28 && k == 0x7 then
    [⟨(tuFireGt (i - 0x20)), .ro, fun _ => true, false⟩]
  else if 0x20 ≤ i && i < 0x28 && k == 0x8 then
    [⟨(tuFireNode (i - 0x20)), .ro, fun _ => true, false⟩]
  else if 0x20 ≤ i && i < 0x28 && k == 0x10 then
    [⟨(tuFired (i - 0x20)), .w1c, fun _ => true, false⟩,
     ⟨(tuFireConflict (i - 0x20)), .w1c, fun _ => true, false⟩,
     ⟨(tuArmLate (i - 0x20)), .w1c, fun _ => true, false⟩]
  else if 0x20 ≤ i && i < 0x28 && k == 0x11 then
    [⟨(tuFireCount (i - 0x20)), .rc, fun _ => true, false⟩,
     ⟨(tuFireLateCount (i - 0x20)), .rc, fun _ => true, false⟩]
  else []

/-- Block 0x0D. -/
def rowsEvm (i k : Nat) : List Row :=
  if i == 0 && k == 0x0 then
    [⟨evmSwFire, .wo, fun _ => true, false⟩]
  else if i == 0 && k == 0x1 then
    [⟨evmLoopRefusedCount, .rc, fun _ => true, false⟩,
     ⟨evmStormCount, .rc, fun _ => true, false⟩]
  else if i == 0 && k == 0x2 then
    [⟨evmChActive, .ro, fun _ => true, true⟩]
  else if 0x100 ≤ i && i < 0x180 && k == 0x0 then
    [⟨(ecChEn (i - 0x100)), .rw, fun _ => true, false⟩,
     ⟨(ecLock (i - 0x100)), .w1s, fun _ => true, false⟩,
     ⟨(ecResync (i - 0x100)), .rw, fun _ => true, false⟩,
     ⟨(ecGateInv (i - 0x100)), .rw, fun _ => true, false⟩,
     ⟨(ecGateSel (i - 0x100)), .rw, gateSelOk, false⟩,
     ⟨(ecCons (i - 0x100)), .rw, consOk, false⟩,
     ⟨(ecWatch (i - 0x100)), .rw, fun _ => true, false⟩]
  else if 0x100 ≤ i && i < 0x180 && 0x10 ≤ k && k < 0x14 then
    [⟨(ecEnRow (i - 0x100) (k - 0x10)), .rw, fun _ => true, false⟩]
  else if 0x100 ≤ i && i < 0x180 && k == 0x20 then
    [⟨(ecStorm (i - 0x100)), .w1c, fun _ => true, false⟩,
     ⟨(ecEvSeen (i - 0x100)), .w1c, fun _ => true, true⟩]
  else if 0x100 ≤ i && i < 0x180 && k == 0x21 then
    [⟨(ecEvCount (i - 0x100)), .rc, fun _ => true, false⟩,
     ⟨(ecBlockedCount (i - 0x100)), .rc, fun _ => true, false⟩]
  else if 0x100 ≤ i && i < 0x180 && k == 0x22 then
    [⟨(ecLastEvGt (i - 0x100)), .ro, fun _ => true, false⟩]
  else if 0x200 ≤ i && i < 0x248 && k == 0 then
    [⟨(ciCoincCount (i - 0x200)), .rc, fun _ => true, false⟩,
     ⟨(ciArrivals (i - 0x200)), .rc, fun _ => true, false⟩]
  else if 0x210 ≤ i && i < 0x218 && k == 1 then
    [⟨(ciMarkEvWidth (i - 0x200)), .rw, (0 < ·), false⟩,
     ⟨(ciMarkSrc (i - 0x200)), .rw, fun _ => true, false⟩]
  else []

/-- Block 0x0E. -/
def rowsDma (i k : Nat) : List Row :=
  if i == 0 && k == 0x0 then
    [⟨dmaInFlightTotal, .ro, fun _ => true, true⟩]
  else if i == 0 && k == 0x1 then
    [⟨dmaRangeCount, .rc, fun _ => true, false⟩,
     ⟨dmaBadDescCount, .rc, fun _ => true, false⟩]
  else if i == 0 && 0x10 ≤ k && k < 0x18 then
    [⟨(arbArbBias (k - 0x10)), .rw, fun _ => true, false⟩]
  else if i == 0 && 0x18 ≤ k && k < 0x20 then
    [⟨(arbArbGrants (k - 0x18)), .rc, fun _ => true, false⟩,
     ⟨(arbArbWaitMax (k - 0x18)), .rc, fun _ => true, false⟩]
  else if 0x100 ≤ i && i < 0x140 && k == 0x0 then
    [⟨(dchChAssigned (i - 0x100)), .ro, fun _ => true, false⟩]
  else if 0x100 ≤ i && i < 0x140 && k == 0x1 then
    [⟨(dchSubRing (i - 0x100)), .ro, fun _ => true, false⟩,
     ⟨(dchComplRing (i - 0x100)), .ro, fun _ => true, false⟩]
  else if 0x100 ≤ i && i < 0x140 && k == 0x2 then
    [⟨(dchStopOnErr (i - 0x100)), .rw, fun _ => true, false⟩]
  else if 0x100 ≤ i && i < 0x140 && k == 0x3 then
    [⟨(dchChResume (i - 0x100)), .wo, fun _ => true, false⟩,
     ⟨(dchChAbort (i - 0x100)), .wo, fun _ => true, false⟩]
  else if 0x100 ≤ i && i < 0x140 && k == 0x10 then
    [⟨(dchChHalted (i - 0x100)), .ro, fun _ => true, false⟩,
     ⟨(dchChErr (i - 0x100)), .w1c, fun _ => true, false⟩,
     ⟨(dchEvPending (i - 0x100)), .ro, fun _ => true, false⟩]
  else if 0x100 ≤ i && i < 0x140 && k == 0x11 then
    [⟨(dchInFlight (i - 0x100)), .ro, fun _ => true, true⟩]
  else if 0x100 ≤ i && i < 0x140 && k == 0x12 then
    [⟨(dchDescDone (i - 0x100)), .rc, fun _ => true, false⟩,
     ⟨(dchDescErr (i - 0x100)), .rc, fun _ => true, false⟩]
  else if 0x100 ≤ i && i < 0x140 && k == 0x13 then
    [⟨(dchComplStall (i - 0x100)), .rc, fun _ => true, false⟩,
     ⟨(dchEvMergedCount (i - 0x100)), .rc, fun _ => true, false⟩]
  else if 0x100 ≤ i && i < 0x140 && k == 0x14 then
    [⟨(dchShelfMarkMissed (i - 0x100)), .rc, fun _ => true, false⟩]
  else if 0x100 ≤ i && i < 0x140 && k == 0x15 then
    [⟨(dchLastStatus (i - 0x100)), .ro, fun _ => true, false⟩]
  else if 0x100 ≤ i && i < 0x140 && k == 0x16 then
    [⟨(dchLastErrTag (i - 0x100)), .ro, fun _ => true, false⟩]
  else []

/-- Block 0x0F. -/
def rowsHst (i k : Nat) : List Row :=
  if i == 0 && k == 0x0 then
    [⟨hstLinkSpeed, .ro, fun _ => true, true⟩,
     ⟨hstLinkWidth, .ro, fun _ => true, true⟩]
  else if i == 0 && k == 0x1 then
    [⟨hstNumVfs, .ro, fun _ => true, true⟩]
  else if i == 0 && k == 0x2 then
    [⟨hstBarBadAccess, .rc, fun _ => true, false⟩,
     ⟨hstBarIgnored, .rc, fun _ => true, false⟩]
  else if i == 0 && k == 0x3 then
    [⟨hstDbIgnored, .rc, fun _ => true, false⟩]
  else if i == 0 && 0x20 ≤ k && k < 0x40 then
    [⟨(hevHevVector (k - 0x20)), .rw, fun _ => true, false⟩,
     ⟨(hevHevFunc (k - 0x20)), .rw, fun _ => true, false⟩,
     ⟨(hevHevEn (k - 0x20)), .rw, fun _ => true, false⟩]
  else if 0x100 ≤ i && i < 0x104 && k < 0x40 then
    [⟨(rxRxRing (i - 0x100) k), .rw, fun _ => true, false⟩,
     ⟨(rxRxEn (i - 0x100) k), .rw, fun _ => true, false⟩]
  else if 0x100 ≤ i && i < 0x104 && k == 0x40 then
    [⟨(rxRxRingFullCount (i - 0x100)), .rc, fun _ => true, false⟩]
  else []

/-- Block 0x10. -/
def rowsSec (i k : Nat) : List Row :=
  if i == 0 && k == 0x0 then
    [⟨secLlynCopy, .ro, fun _ => true, false⟩,
     ⟨secLlynSvn, .ro, fun _ => true, false⟩,
     ⟨secSvnMin, .ro, fun _ => true, false⟩,
     ⟨secKeySlot, .ro, fun _ => true, false⟩,
     ⟨secKeyRevoked, .ro, fun _ => true, false⟩]
  else if i == 0 && k == 0x1 then
    [⟨secLlynVer, .ro, fun _ => true, false⟩,
     ⟨secBootFailCause, .ro, fun _ => true, false⟩]
  else if i == 0 && k == 0x2 then
    [⟨secSvnAdvance, .wo, fun _ => true, false⟩,
     ⟨secKeyRevoke, .wo, fun _ => true, false⟩]
  else if i == 0 && k == 0x3 then
    [⟨secIdMismatch, .ro, fun _ => true, false⟩,
     ⟨secCabBad, .w1c, fun _ => true, false⟩,
     ⟨secNvAbandoned, .w1c, fun _ => true, false⟩,
     ⟨secBlockRetired, .w1c, fun _ => true, false⟩]
  else if i == 0 && k == 0x10 then
    [⟨secCredit, .ro, fun _ => true, false⟩]
  else if i == 0 && k == 0x11 then
    [⟨secNvBlockWrites, .rc, fun _ => true, false⟩,
     ⟨secNvAbandonCount, .rc, fun _ => true, false⟩]
  else if i == 0 && k == 0x12 then
    [⟨secWearMax, .ro, fun _ => true, false⟩,
     ⟨secWearMean, .ro, fun _ => true, false⟩]
  else if i == 0 && k == 0x13 then
    [⟨secBlocksRetired, .ro, fun _ => true, false⟩]
  else if i == 0 && k == 0x14 then
    [⟨secNvLastGt, .ro, fun _ => true, false⟩]
  else if i == 0 && k == 0x20 then
    [⟨secBoardAddr, .rw, fun _ => true, false⟩]
  else if i == 0 && k == 0x21 then
    [⟨secBoardWrite, .wo, fun _ => true, false⟩,
     ⟨secBoardStatus, .ro, fun _ => true, false⟩]
  else []

/-- Block 0x11. -/
def rowsThm (i k : Nat) : List Row :=
  if i == 0 && k == 0x0 then
    [⟨thmRefcomp, .rw, fun _ => true, false⟩,
     ⟨thmSenseFast, .ro, fun _ => true, false⟩,
     ⟨thmSensorsLow, .ro, fun _ => true, false⟩]
  else if i == 0 && k == 0x1 then
    [⟨thmShotPause, .rw, (fun v => decide (1000 ≤ v ∧ v ≤ 10000000)), false⟩]
  else if i == 0 && k == 0x2 then
    [⟨thmTelemPeriod, .rw, (fun v => decide (1 ≤ v ∧ v ≤ 60000)), false⟩]
  else if i == 0 && k == 0x3 then
    [⟨thmHoldRemain, .ro, fun _ => true, true⟩]
  else if i == 0 && k == 0x10 then
    [⟨thmSensorFailEvt, .w1c, fun _ => true, false⟩,
     ⟨thmThrottled, .w1c, fun _ => true, false⟩,
     ⟨thmTopLevel, .w1c, fun _ => true, false⟩]
  else if i == 0 && k == 0x11 then
    [⟨thmThrEntryCount, .rc, fun _ => true, false⟩,
     ⟨thmWarnCount, .rc, fun _ => true, false⟩]
  else if i == 0 && k == 0x12 then
    [⟨thmThrMs, .rc, fun _ => true, false⟩,
     ⟨thmShotPauses, .rc, fun _ => true, false⟩]
  else if i == 0 && k == 0x13 then
    [⟨thmTelemCount, .ro, fun _ => true, false⟩]
  else if 0x100 ≤ i && i < 0x109 && k == 0x0 then
    [⟨(senSensorRaw (i - 0x100)), .ro, fun _ => true, false⟩,
     ⟨(senFailed (i - 0x100)), .ro, fun _ => true, false⟩,
     ⟨(senDisagree (i - 0x100)), .ro, fun _ => true, false⟩]
  else if 0x100 ≤ i && i < 0x109 && k == 0x1 then
    [⟨(senFailGt (i - 0x100)), .ro, fun _ => true, false⟩]
  else []

/-- Block 0x12. -/
def rowsSys (i k : Nat) : List Row :=
  if i == 16 && k == 0x0 then
    [⟨sysBenchDac, .rw, (· < 3), false⟩,
     ⟨sysBenchFlx, .rw, (· < 3), false⟩,
     ⟨sysBenchMark, .rw, fun _ => true, false⟩]
  else if i == 16 && k == 0x1 then
    [⟨sysBenchFlxAmp, .rw, fun _ => true, false⟩]
  else if i == 16 && k == 0x2 then
    [⟨sysBenchPeriod, .rw, (0 < ·), false⟩]
  else if i == 0 && k == 0x0 then
    [⟨sysSessionsOpen, .ro, fun _ => true, true⟩,
     ⟨sysDrawersOpen, .ro, fun _ => true, true⟩]
  else if i == 0 && k == 0x1 then
    [⟨sysAuditTotal, .ro, fun _ => true, false⟩]
  else if i == 0 && k == 0x2 then
    [⟨sysAuditAck, .rw, fun _ => true, false⟩]
  else if i == 0 && k == 0x3 then
    [⟨sysAuditOverrun, .rc, fun _ => true, false⟩,
     ⟨sysRsvdWriteCount, .rc, fun _ => true, false⟩]
  else if i == 0 && k == 0x4 then
    [⟨sysTxcMissCount, .rc, fun _ => true, false⟩,
     ⟨sysTxcFailCount, .rc, fun _ => true, false⟩]
  else if i == 0 && k == 0x5 then
    [⟨sysVfWriteEn, .rw, fun _ => true, false⟩]
  else if i == 0 && k == 0x6 then
    [⟨sysCfgLoaded, .ro, fun _ => true, false⟩,
     ⟨sysCfgRecords, .ro, fun _ => true, false⟩]
  else if i == 0 && k == 0x7 then
    [⟨sysLastCfgSaveGt, .ro, fun _ => true, false⟩]
  else []

/-- Block 0x13. -/
def rowsCal (i k : Nat) : List Row :=
  if i == 0 && k == 0x0 then
    [⟨calDcalEn, .rw, fun _ => true, false⟩]
  else if i == 0 && k == 0x1 then
    [⟨calDcalInterval, .rw, fun _ => true, false⟩]
  else if i == 0 && k == 0x2 then
    [⟨calSavePeriod, .rw, (fun v => v == 0 || decide (10 ≤ v)), false⟩]
  else if i == 0 && k == 0x3 then
    [⟨calCalSave, .wo, fun _ => true, false⟩]
  else if i == 0 && k == 0x4 then
    [⟨calWindowsTaken, .rc, fun _ => true, false⟩,
     ⟨calCalwClashCount, .rc, fun _ => true, false⟩]
  else if i == 0 && k == 0x5 then
    [⟨calCalwClash, .w1c, fun _ => true, false⟩,
     ⟨calSaveFailed, .w1c, fun _ => true, false⟩]
  else if i == 0 && k == 0x6 then
    [⟨calLastSaveGt, .ro, fun _ => true, false⟩]
  else if isCalPort i && k == 0x0 then
    [⟨(calpDcalDone i), .ro, fun _ => true, false⟩,
     ⟨(calpDcalSrc i), .ro, fun _ => true, false⟩,
     ⟨(calpDcalBad i), .w1c, fun _ => true, false⟩]
  else if isCalPort i && k == 0x1 then
    [⟨(calpDcalLastGt i), .ro, fun _ => true, false⟩]
  else []

/-- The fields of a parameter ID, lowest bit first; [] where the block code, port number or item does not exist (R8, R9). -/
def fieldsOf (id : Nat) : List Row :=
  let i := id / 2 ^ 12 % 2 ^ 12
  let k := id % 2 ^ 12
  match id / 2 ^ 24 with
  | 1 => rowsTl i k
  | 2 => rowsSq i k
  | 3 => rowsPort 3 i k
  | 4 => rowsPort 4 i k
  | 5 => rowsFlx i k
  | 6 => rowsBia i k
  | 7 => rowsRin i k
  | 8 => rowsDxe i k
  | 9 => rowsOut i k
  | 10 => rowsMc i k
  | 11 => rowsLnk i k
  | 12 => rowsTrg i k
  | 13 => rowsEvm i k
  | 14 => rowsDma i k
  | 15 => rowsHst i k
  | 16 => rowsSec i k
  | 17 => rowsThm i k
  | 18 => rowsSys i k
  | 19 => rowsCal i k
  | _ => []

end Sys2Proof.Machine
end

