-- ==== Sys2Proof/Machine/Shots.lean ====
section
/-!
DEFINITION. Targets, lane bindings and shot flags: who a lane plays on (R180–R182), which shot an event marks (R205, R206),
and how a port's fine terms place an output (R46, R72, R97).
-/

namespace Sys2Proof.Machine

/-! ### Targets -/

/-- The key of a target: DRV tones from 0, PRB tones from 1000, FLX ports from 2000. -/
def tgtKey : Target → Nat
  | .drv p t => p.val * 8 + t.val
  | .prb p t => 1000 + p.val * 24 + t.val
  | .flx p => 2000 + p.val

/-- The tone of a port: block 3 DRV, block 4 PRB (R62). -/
def mkTone (b p t : Nat) : Target :=
  if b == 3 then .drv (Fin.ofNat 40 p) (Fin.ofNat 8 t) else .prb (Fin.ofNat 12 p) (Fin.ofNat 24 t)

/-- The target with a key. -/
def keyTarget (k : Nat) : Target :=
  if k < 1000 then mkTone 3 (k / 8) (k % 8) else if k < 2000 then mkTone 4 ((k - 1000) / 24) ((k - 1000) % 24)
  else .flx (Fin.ofNat 24 (k - 2000))

/-- Block code and port number of a target. -/
def tgtPort : Target → Nat × Nat
  | .drv p _ => (3, p.val)
  | .prb p _ => (4, p.val)
  | .flx p => (5, p.val)

/-- Tone number of a target; 0 on an FLX port. -/
def tgtTone : Target → Nat
  | .drv _ t => t.val
  | .prb _ t => t.val
  | .flx _ => 0

/-- The target is an FLX port. -/
def isFlx : Target → Bool
  | .flx _ => true
  | _ => false

/-- The global port number of R133's order: DRV 0–39, PRB 40–51, FLX 52–75. -/
def portNo (b n : Nat) : Nat := if b == 3 then n else if b == 4 then 40 + n else 52 + n

/-- Block code and instance of a global port number. -/
def portOfNo (k : Nat) : Nat × Nat := if k < 40 then (3, k) else if k < 52 then (4, k - 40) else (5, k - 52)

/-- The calibration instance of a global port number (R143). -/
def calInst (k : Nat) : Nat := if k < 40 then 0x100 + k else if k < 52 then 0x200 + (k - 40) else 0x300 + (k - 52)

/-- The number of a port operand. -/
def portOp : Port → Nat
  | .drv p => p.val
  | .prb p => 40 + p.val
  | .flx p => 52 + p.val

/-- PORT_EN of a port. -/
def portEn (b n : Nat) : Field := if b == 5 then P.flxPortEn n else P.portPortEn b n

/-- PORT_DELAY of a port. -/
def portDelay (b n : Nat) : Field := if b == 5 then P.flxPortDelay n else P.portPortDelay b n

/-- PORT_FINE of a port. -/
def portFine (b n : Nat) : Field := if b == 5 then P.flxPortFine n else P.portPortFine b n

/-! ### Fine time (R45–R47, R72, R97) -/

/-- TL_PHASE, and EPOCH_SKEW under EXTERNAL and MESH_ROOT (R46). -/
def phaseTerm (c : Chip) : Int :=
  rdS P.tlTlPhase c + (if rd P.tlTlSource c == 2 then 0 else rdS P.tlEpochSkew c)

/-- The fine time, in 1/256 tick, at which a change at GT n leaves a port's pin (R46, R72, R97). -/
def pinTime (b n gt : Nat) (c : Chip) : Int :=
  ((gt + 60 + rd (portDelay b n) c : Nat) : Int) * 256 + (rd (portFine b n) c : Nat) + phaseTerm c

/-- The fine time at which a MARK edge of GT n leaves its pin (R200, R324). -/
def markTime (gt : Nat) (c : Chip) : Int := ((gt + 60 : Nat) : Int) * 256 + phaseTerm c

/-- An input stamp in common time (R47). -/
def commonTime (t : Int) (c : Chip) : Int := t - phaseTerm c

/-! ### Sequencers and bindings -/

/-- Sequencer s. -/
def sqOf (s : Nat) (c : Chip) : Sequencer := Tab.get c.sqs.sq s Sequencer.reset

/-- Put sequencer s. -/
def setSq (s : Nat) (x : Sequencer) (c : Chip) : Chip :=
  { c with sqs := { c.sqs with sq := Tab.put c.sqs.sq s Sequencer.reset x } }

/-- The binding of lane l of sequencer s as its LANE_BIND now gives it (R180). -/
def bindNow (s l : Nat) (c : Chip) : Bind :=
  let k := rd (P.sqKind s l) c
  let p := rd (P.sqTport s l) c
  let t := rd (P.sqTtone s l) c
  match k with
  | 1 => { kind := 1, tone := some (mkTone 3 p t), chan := none }
  | 2 => { kind := 2,
           tone := if on (P.sqTValid s l) c then some (mkTone 4 p t) else none,
           chan := if on (P.sqChValid s l) c then some (24 * rd (P.sqChInput s l) c + rd (P.sqCh s l) c) else none }
  | 3 => { kind := 3, tone := some (.flx (Fin.ofNat 24 p)), chan := none }
  | _ => { kind := 0, tone := none, chan := none }

/-- The binding in force at the start of this tick (R182). -/
def bindOf (s l : Nat) (c : Chip) : Bind :=
  match Tab.find c.sqs.bindOld (12 * s + l) with
  | some b => b
  | none => bindNow s l c

/-- Keep a lane's binding for the rest of the tick, before a commit changes it (R182). -/
def keepBind (s l : Nat) (c : Chip) : Chip :=
  match Tab.find c.sqs.bindOld (12 * s + l) with
  | some _ => c
  | none => { c with sqs := { c.sqs with bindOld := Tab.ins c.sqs.bindOld (12 * s + l) (bindNow s l c) } }

/-- The sequencer whose lane is bound to a tone or FLX port (R205). -/
def ownerOf (t : Target) (c : Chip) : Option Nat :=
  ((List.range 768).find? (fun g => rd (P.sqKind (g / 12) (g % 12)) c != 0 && (bindNow (g / 12) (g % 12) c).tone == some t)).map (· / 12)

/-- The sequencer whose lane is bound to a global channel. -/
def ownerOfCh (ch : Nat) (c : Chip) : Option Nat :=
  ((List.range 768).find? (fun g => rd (P.sqKind (g / 12) (g % 12)) c == 2 && (bindNow (g / 12) (g % 12) c).chan == some ch)).map (· / 12)

/-! ### Shot flags (R205, R206) -/

namespace Sf
def late : Nat := 0
def bindMiss : Nat := 1
def underrun : Nat := 2
def rateOver : Nat := 3
def deferred : Nat := 4
def freq : Nat := 5
def acqOver : Nat := 6
def conv : Nat := 7
def calwClash : Nat := 8
def resqOver : Nat := 9
def waitoTimeout : Nat := 10
def outcome : Nat := 11
def aborted : Nat := 12
def capture : Nat := 13
end Sf

/-- Mark shot k of sequencer s invalid with flag bit b (R206). -/
def markShot (s k b : Nat) (c : Chip) : Chip :=
  let x := sqOf s c
  setSq s { x with flags := Tab.put x.flags k 0 (Tab.get x.flags k 0 ||| 2 ^ b) } c

/-- The shot an event in progress marks on sequencer s: the one in progress, or the first before any boundary (R205). -/
def shotNow (s : Nat) (c : Chip) : Option Nat :=
  let x := sqOf s c
  match x.progress with
  | some k => some k
  | none => if x.opening then some 1 else none

/-- Mark the shot in progress on sequencer s. -/
def markNow (s b : Nat) (c : Chip) : Chip :=
  match shotNow s c with
  | some k => markShot s k b c
  | none => c

/-- Mark the shot in progress on the sequencer whose lane is bound to a target; none if no lane is (R205). -/
def markTarget (t : Target) (b : Nat) (c : Chip) : Chip :=
  match ownerOf t c with
  | some s => markNow s b c
  | none => c

/-- Mark the shot in progress on the sequencer whose lane is bound to a channel (R205). -/
def markChan (ch b : Nat) (c : Chip) : Chip :=
  match ownerOfCh ch c with
  | some s => markNow s b c
  | none => c

/-- Mark the shot in progress on every sequencer (R205: R16, fault entry to HOLD, R50). -/
def markAll (b : Nat) (c : Chip) : Chip := (List.range 64).foldl (fun c s => markNow s b c) c

end Sys2Proof.Machine
end

