-- ==== Sys2Proof/Machine/Lanes.lean ====
section
/-!
DEFINITION. Shelves and play lanes (R73–R86, R92, R99): the commit-point tests, chains, jumps, releases and the lane stop.
-/

namespace Sys2Proof.Machine

/-! ### Lanes and shelves -/

/-- The lane of a target. -/
def laneOf (t : Target) (c : Chip) : Lane := Tab.get c.syn.lanes (tgtKey t) Lane.reset

/-- Put the lane of a target. -/
def setLane (t : Target) (x : Lane) (c : Chip) : Chip :=
  { c with syn := { c.syn with lanes := Tab.put c.syn.lanes (tgtKey t) Lane.reset x } }

/-- A shelf's descriptor and state: START, LENGTH, RATE, NEXT, NEXT_EN, STREAM, STATE (R73, R74). -/
def shelfNow (s : Nat) (c : Chip) : List Nat :=
  [rd (P.shelfStart s) c, rd (P.shelfLength s) c, rd (P.shelfRate s) c, rd (P.shelfNext s) c, rd (P.shelfNextEn s) c,
   rd (P.shelfStream s) c, rd (P.shelfState s) c]

/-- The shelf as it stood at the start of this tick: what a commit point sees (R76). -/
def shelfAt (s : Nat) (c : Chip) : List Nat :=
  match Tab.find c.syn.shelfOld s with
  | some l => l
  | none => shelfNow s c

/-- Keep a shelf for the rest of the tick, before a write to it (R76). -/
def keepShelf (s : Nat) (c : Chip) : Chip :=
  match Tab.find c.syn.shelfOld s with
  | some _ => c
  | none => { c with syn := { c.syn with shelfOld := Tab.ins c.syn.shelfOld s (shelfNow s c) } }

/-- How long a shelf plays: LENGTH × N ticks, or LENGTH / 2 at 2 GS/s (R73). -/
def shelfTicks (len rate : Nat) : Nat := if rate == 0 then len / 2 else len * rate

/-- A play of a shelf that holds it ACTIVE (R74). -/
def Play.holds (p : Play) (s : Nat) : Bool := p.shelf == s && !p.silent

/-- Lanes holding shelf s ACTIVE: those with a play of it that ended less than 16 ticks ago, or has not ended (R74, R91). -/
def shelfRefs (s : Nat) (c : Chip) : Nat :=
  (c.syn.lanes.filter (fun e => e.2.plays.any (fun p => p.holds s && decide (c.tl.gt < p.stop + 16)))).length

/-- The state codes of R74. -/
def shelfEmpty : Nat := 0
def shelfFilling : Nat := 1
def shelfValid : Nat := 2
def shelfActive : Nat := 3

/-- A shelf that nothing holds any more leaves ACTIVE for the state it held before: VALID, the only state a lane latches
(R74, R84, R86). -/
def shelfBack (s : Nat) (c : Chip) : Chip :=
  if rd (P.shelfState s) c == shelfActive && shelfRefs s c == 0 then wr (P.shelfState s) shelfValid c else c

/-! ### The lane's calendar -/

/-- The plays that have not ended at GT g. -/
def livePlays (l : Lane) (g : Nat) : List Play := l.plays.filter (fun p => decide (g < p.stop))

/-- B of R77: the end of the last shelf playing or latched to start, beyond GT n; none when the lane is idle at n. A chained
or jumped start latched in this very tick for n does not count: a PLAY replaces it (R78, R83). -/
def busyUntil (l : Lane) (n now : Nat) : Option Nat :=
  let ps := l.plays.filter (fun p => decide (n < p.stop) && !(p.kind != .play && p.latched == now && p.start == n))
  if ps.isEmpty then none else some (ps.foldl (fun m p => max m p.stop) 0)

/-- The rate of a shelf in GS/s as a fraction (R80). -/
def rateOf (rate : Nat) : Nat × Nat := if rate == 0 then (2, 1) else (1, rate)

/-- The sum of two fractions. -/
def addFrac (a b : Nat × Nat) : Nat × Nat := (a.1 * b.2 + b.1 * a.2, a.2 * b.2)

/-- The envelope rates in play at GT n on the enabled tones of a port, as a fraction of GS/s (R80, R81). -/
def rateSum (b p n : Nat) (c : Chip) : Nat × Nat :=
  (List.range (if b == 3 then 8 else 24)).foldl (fun acc t =>
    if bitAt (rd (P.portToneEn b p) c) t then
      (laneOf (mkTone b p t) c).plays.foldl (fun a q =>
        if !q.silent && decide (q.start ≤ n ∧ n < q.stop) then addFrac a (rateOf ((shelfAt q.shelf c).getD 2 0)) else a) acc
    else acc) (0, 1)

/-! ### Flags of a target's port -/

/-- The underrun flag, its count and its record (R84). -/
def underrunAt (t : Target) (s n : Nat) (c : Chip) : Chip :=
  match t with
  | .flx p => total 253 1 (wr (P.flxLastUnderrunGt p) n (wr (P.flxLastUnderrunShelf p) s
      (count (P.flxUnderrunCount p) (setFlag (P.flxUnderrun p) c))))
  | _ =>
    let (b, p) := tgtPort t
    total 253 1 (wr (P.portLastUnderrunGt b p) n (wr (P.portLastUnderrunTone b p) (tgtTone t)
      (wr (P.portLastUnderrunShelf b p) s (count (P.portUnderrunCount b p) (setFlag (P.portUnderrun b p) c)))))

/-- UNDERRUN_INVALID of a target's port (R85). -/
def underrunInvalid (t : Target) (c : Chip) : Bool :=
  match t with
  | .flx p => on (P.flxUnderrunInvalid p) c
  | _ => on (P.portUnderrunInvalid (tgtPort t).1 (tgtPort t).2) c

/-- Mark the shot of a commit point: the slot's shot for a PLAY, else the shot in progress on the lane's sequencer (R205). -/
def markAtCommit (shot : Option (Nat × Nat)) (t : Target) (b : Nat) (c : Chip) : Chip :=
  match shot with
  | some (s, k) => markShot s k b c
  | none => markTarget t b c

/-! ### Latching a shelf at its commit point (R74, R76, R80, R84) -/

/-- Latch shelf s to start at GT n on target t: it plays, it underruns, or R80 refuses it. -/
def latchShelf (t : Target) (s n : Nat) (amp : Option Int) (kind : StartKind) (shot : Option (Nat × Nat)) (c : Chip) : Chip :=
  let d := shelfAt s c
  let len := d.getD 1 0
  let rate := d.getD 2 0
  let play : Play :=
    { shelf := s, start := n, stop := n + shelfTicks len rate, amp := amp, silent := false, underrun := false, kind := kind,
      latched := c.tl.gt, next := if d.getD 4 0 == 1 then some (d.getD 3 0) else none, begun := false }
  let add (p : Play) (c : Chip) : Chip :=
    let l := laneOf t c
    setLane t { l with plays := l.plays ++ [p] } c
  if d.getD 6 0 == shelfEmpty || d.getD 6 0 == shelfFilling then
    let c1 := add { play with silent := true, underrun := true } c
    if underrunInvalid t c then markAtCommit shot t Sf.underrun c1 else c1
  else
    let (b, p) := tgtPort t
    let sum := addFrac (rateSum b p n c) (rateOf rate)
    if !isFlx t && bitAt (rd (P.portToneEn b p) c) (tgtTone t) && decide (4 * sum.2 < sum.1) then
      markAtCommit shot t Sf.rateOver (count (P.portRateOverCount b p) (setFlag (P.portRateOver b p)
        (add { play with silent := true } c)))
    else
      let c1 := wr (P.shelfState s) shelfActive (add play c)
      if isFlx t || !bitAt (rd (P.portToneEn b p) c) (tgtTone t) then c1
      else maxRc (P.portRatePeak b p) (sum.1 * 2 ^ 20 / sum.2) c1

/-- Drop the chained or jumped starts latched in this tick for GT n: a PLAY replaces them (R74, R78, R83). -/
def dropReplaced (t : Target) (n : Nat) (c : Chip) : Chip :=
  let l := laneOf t c
  let gone := l.plays.filter (fun p => p.kind != .play && p.latched == c.tl.gt && p.start == n)
  let c1 := setLane t { l with plays := l.plays.filter (fun p => !(p.kind != .play && p.latched == c.tl.gt && p.start == n)) } c
  gone.foldl (fun c p => if p.silent then c else shelfBack p.shelf c) c1

/-- A PLAY of shelf s with amplitude a, latched at its commit point for GT n (R77, R83). -/
def latchPlay (t : Target) (s : Nat) (a : Int) (n : Nat) (shot : Option (Nat × Nat)) (c : Chip) : Chip :=
  let l := laneOf t c
  match busyUntil l n c.tl.gt with
  | none => latchShelf t s n (some a) .play shot (dropReplaced t n c)
  | some b =>
    let c1 := dropReplaced t b c
    let c2 := latchShelf t s b (some a) .play shot c1
    match t with
    | .flx p =>
      let c3 := count (P.flxDeferCount p) (setFlag (P.flxPlayDeferred p) c2)
      if on (P.flxDeferInvalid p) c then markAtCommit shot t Sf.deferred c3 else c3
    | _ =>
      let (k, p) := tgtPort t
      let c3 := count (P.portDeferCount k p) (setFlag (P.portPlayDeferred k p) c2)
      if on (P.portDeferInvalid k p) c then markAtCommit shot t Sf.deferred c3 else c3

/-- The last play of a lane by its end. -/
def lastPlay (l : Lane) : Option Play :=
  l.plays.foldl (fun m p => match m with
    | none => some p
    | some q => if q.stop ≤ p.stop then some p else some q) none

/-- The jump's boundary has come: 16 ticks before it (R82). -/
def jumpDue (t : Target) (c : Chip) : Bool :=
  match (laneOf t c).jump with
  | some j => j.boundary == c.tl.gt + 16
  | none => false

/-- A chained start is due: the lane's last play ends 16 ticks from now, names a successor, and no jump replaces it (R78,
R84). -/
def chainDue (t : Target) (c : Chip) : Bool :=
  match lastPlay (laneOf t c) with
  | some p => p.stop == c.tl.gt + 16 && p.next.isSome && !jumpDue t c
  | none => false

/-- Latch the successor of the shelf that ends 16 ticks from now (R78). -/
def chainLatchStep (t : Target) (c : Chip) : Chip :=
  if chainDue t c then
    match lastPlay (laneOf t c) with
    | some p => match p.next with
      | some s => latchShelf t s p.stop none .chain none c
      | none => c
    | none => c
  else c

/-- Latch the pending jump's shelf 16 ticks before its boundary. Between the jump and a PLAY latched for the same boundary the
later request wins; in one tick, the PLAY (R82, R83). -/
def jumpLatchStep (t : Target) (c : Chip) : Chip :=
  if jumpDue t c then
    let l := laneOf t c
    match l.jump with
    | some j =>
      let rival (p : Play) : Bool := p.start == j.boundary && p.kind == .play
      if l.plays.any (fun p => rival p && decide (j.req ≤ p.latched)) then setLane t { l with jump := none } c
      else
        let c1 := setLane t { l with jump := none, plays := l.plays.filter (fun p => !rival p) } c
        let c2 := (l.plays.filter rival).foldl (fun c p => if p.silent then c else shelfBack p.shelf c) c1
        match j.shelf with
        | some s => latchShelf t s j.boundary none .jump none c2
        | none =>
          let m := laneOf t c2
          setLane t { m with plays := m.plays.map (fun p => if p.stop == j.boundary then { p with next := none } else p) } c2
    | none => c
  else c

/-! ### Starts and releases -/

/-- The play whose first sample is due in this tick. -/
def startDue (l : Lane) (g : Nat) : Option Play := l.plays.find? (fun p => p.start == g && !p.begun)

/-- Release a shelf 16 ticks after its last play ended: to FILLING if STREAM, else to VALID (R74). -/
def releaseStep (s : Nat) (c : Chip) : Chip :=
  let used := c.syn.lanes.any (fun e => e.2.plays.any (fun p => p.holds s && p.stop + 16 == c.tl.gt))
  if rd (P.shelfState s) c == shelfActive && shelfRefs s c == 0 && used then
    wr (P.shelfState s) (if on (P.shelfStream s) c then shelfFilling else shelfValid) c
  else c

/-! ### Jumps (R82, R83) -/

/-- B of R82 for a request at tick t: the first boundary more than 16 ticks on. On a lane idle then, t + 17. -/
def jumpBoundary (l : Lane) (t : Nat) : Nat :=
  let ends := (l.plays.filter (fun p => decide (t + 16 < p.stop))).map (·.stop)
  match ends with
  | [] => t + 17
  | e :: es =>
    let m := es.foldl min e
    if l.plays.any (fun p => decide (p.start ≤ t + 17 ∧ t + 17 ≤ p.stop)) then m else t + 17

/-- JUMP_REPLACED_COUNT of a target's port. -/
def jumpReplaced (t : Target) : Field :=
  match t with
  | .flx p => P.flxJumpReplacedCount p
  | _ => P.portJumpReplacedCount (tgtPort t).1 (tgtPort t).2

/-- JUMP_AT of a target. -/
def jumpAt (t : Target) : Field :=
  match t with
  | .flx p => P.flxJumpAt p
  | _ => P.toneJumpAt (tgtPort t).1 (tgtPort t).2 (tgtTone t)

/-- A jump request at this tick: a shelf, or nothing (STOP). What the lane latches in this tick is latched before it; a second
request before the first is latched replaces it. -/
def jumpRequest (t : Target) (shelf : Option Nat) (c : Chip) : Chip :=
  let c0 := chainLatchStep t (jumpLatchStep t c)
  let l := laneOf t c0
  let b := jumpBoundary l c.tl.gt
  let c1 := if l.jump.isSome then count (jumpReplaced t) c0 else c0
  wr (jumpAt t) b (setLane t { l with jump := some { shelf := shelf, boundary := b, req := c.tl.gt } } c1)

/-- A PLAY latched in the tick of a request, after it, moves the request's boundary (R82). -/
def jumpSettle (c : Chip) : Chip :=
  c.syn.lanes.foldl (fun c e =>
    match e.2.jump with
    | some j =>
      if j.req == c.tl.gt then
        let t := keyTarget e.1
        let l := laneOf t c
        let b := jumpBoundary l c.tl.gt
        wr (jumpAt t) b (setLane t { l with jump := some { j with boundary := b } } c)
      else c
    | none => c) c

/-! ### Lane stop (R86, R99, R208) -/

/-- Every lane stops: samples in the pipeline discarded, pending starts and jumps cleared, ACTIVE shelves back in the state they
held. DESIGN CHOICE (log): the tick of the stop itself is the first whose flux input is the offset alone (R99 says "from the next
tick"). -/
def laneStopAll (c : Chip) : Chip :=
  let held := c.syn.lanes.flatMap (fun e => (e.2.plays.filter (fun p => !p.silent)).map (·.shelf))
  let c1 := { c with syn := { c.syn with
    lanes := c.syn.lanes.map (fun e => (e.1, { e.2 with plays := [], jump := none })), pipe := [], codes := [] } }
  held.foldl (fun c s => shelfBack s c) c1

end Sys2Proof.Machine
end

