-- ==== Sys2Proof/Machine/Tones.lean ====
section
/-!
DEFINITION. Oscillators and frames (R63, R65–R71), channel oscillators and pairing (R115, R122, R123), and the bias strings
(R103–R110).
-/

namespace Sys2Proof.Machine

/-! ### Tones -/

/-- A tone's oscillator. -/
def toneOf (t : Target) (c : Chip) : Tone := Tab.get c.syn.tones (tgtKey t) Tone.reset

/-- Put a tone's oscillator. -/
def setTone (t : Target) (x : Tone) (c : Chip) : Chip :=
  { c with syn := { c.syn with tones := Tab.put c.syn.tones (tgtKey t) Tone.reset x } }

/-- A_t at the first DAC sample of this tick (R63). -/
def Tone.accNow (x : Tone) (clk : Nat) : Nat := (x.acc + 24 * x.fw * (clk - x.at_)) % 2 ^ 48

/-- An oscillator's past when it takes a new word or accumulator in this tick: what held until now joins it. -/
def pastOf (fw acc at_ clk : Nat) (past : List Turn) : List Turn :=
  if at_ == clk || (fw == 0 && acc == 0 && past.isEmpty) then past else ({ fw := fw, acc := acc, at_ := at_ } :: past).take 64

/-- Word and accumulator of an oscillator at the start of a tick, by its tick count. -/
def turnAt (fw acc at_ : Nat) (past : List Turn) (clk : Nat) : Nat × Nat :=
  match (({ fw := fw, acc := acc, at_ := at_ } : Turn) :: past).find? (fun t => decide (t.at_ ≤ clk)) with
  | some t => (t.fw, (t.acc + 24 * t.fw * (clk - t.at_)) % 2 ^ 48)
  | none => (0, 0)

/-- A phase-continuous change of the word (R68). -/
def setFreq (t : Target) (fw : Nat) (c : Chip) : Chip :=
  let x := toneOf t c
  setTone t { x with fw := fw, acc := x.accNow c.clk, at_ := c.clk, past := pastOf x.fw x.acc x.at_ c.clk x.past } c

/-- A coherent load: A_t becomes (FW × 24 × n) mod 2^48 at GT n (R69). -/
def cohLoad (t : Target) (c : Chip) : Chip :=
  let x := toneOf t c
  setTone t { x with acc := x.fw * 24 * c.tl.gt % 2 ^ 48, at_ := c.clk, past := pastOf x.fw x.acc x.at_ c.clk x.past } c

/-- Every tone: 320 on DRV, 288 on PRB (R62). -/
def allTones : List Target :=
  (List.range 320).map (fun k => mkTone 3 (k / 8) (k % 8)) ++ (List.range 288).map (fun k => mkTone 4 (k / 24) (k % 24))

/-- TONE_FREQ, TONE_FRAME_INIT and TONE_RESYNC of a tone. -/
def toneFreqF (t : Target) : Field := P.toneToneFreq (tgtPort t).1 (tgtPort t).2 (tgtTone t)
def toneFrameF (t : Target) : Field := P.toneToneFrameInit (tgtPort t).1 (tgtPort t).2 (tgtTone t)

/-- The frame loads of R70: every tone takes TONE_FRAME_INIT. -/
def loadFrames (c : Chip) : Chip :=
  allTones.foldl (fun c t => setTone t { toneOf t c with frame := rd (toneFrameF t) c } c) c

/-- The words return to their committed TONE_FREQ (R69, entry to READY). -/
def restoreWords (c : Chip) : Chip :=
  allTones.foldl (fun c t => setFreq t (rd (toneFreqF t) c) c) c

/-- The words a BAND admits (R65). -/
def bandOk (band fw : Nat) : Bool :=
  if band == 0 then decide (fw ≤ 129009364325717) else decide (152465612384939 ≤ fw ∧ fw ≤ 211106232532992)

/-! ### Channels -/

/-- A channel's own oscillator, by global channel. -/
def oscOf (ch : Nat) (c : Chip) : Osc := Tab.get c.rin.oscs ch Osc.reset

/-- Put a channel's oscillator. -/
def setOsc (ch : Nat) (x : Osc) (c : Chip) : Chip :=
  { c with rin := { c.rin with oscs := Tab.put c.rin.oscs ch Osc.reset x } }

/-- The PRB tone a channel is paired with, if it is (R123). -/
def pairOf (ch : Nat) (c : Chip) : Option Target :=
  let r := ch / 24
  let k := ch % 24
  if on (P.rinRxPairEn r k) c then some (mkTone 4 (rd (P.rinRxPairPort r k) c) (rd (P.rinRxPairTone r k) c)) else none

/-- The word in force on a channel: RX_FREQ_NOW (R115, R123). -/
def chWord (ch : Nat) (c : Chip) : Nat :=
  match pairOf ch c with
  | some t => (toneOf t c).fw
  | none => (oscOf ch c).fw

/-- A channel's word and accumulator at the start of a tick, by its tick count (R122, R123). -/
def chTurn (ch clk : Nat) (c : Chip) : Nat × Nat :=
  match pairOf ch c with
  | some t => let x := toneOf t c; turnAt x.fw x.acc x.at_ x.past clk
  | none => let x := oscOf ch c; turnAt x.fw x.acc x.at_ x.past clk

/-- The words R115 admits. -/
def rxLegal (fw : Nat) : Bool :=
  fw == 0 || decide (46912496118443 ≤ fw ∧ fw ≤ 69489134875443) || decide (71248353479885 ≤ fw ∧ fw ≤ 93824992236885)

/-- A phase-continuous change of an unpaired channel's word (R68, R122). -/
def setRx (ch fw : Nat) (c : Chip) : Chip :=
  let x := oscOf ch c
  setOsc ch { fw := fw, acc := (x.acc + 24 * x.fw * (c.clk - x.at_)) % 2 ^ 48, at_ := c.clk,
              past := pastOf x.fw x.acc x.at_ c.clk x.past } c

/-- A coherent load of an unpaired channel (R69, R122). -/
def cohLoadRx (ch : Nat) (c : Chip) : Chip :=
  let x := oscOf ch c
  setOsc ch { x with acc := x.fw * 24 * c.tl.gt % 2 ^ 48, at_ := c.clk, past := pastOf x.fw x.acc x.at_ c.clk x.past } c

/-- Every tone and channel makes a coherent load (R69, R26, R28). -/
def cohLoadAll (c : Chip) : Chip :=
  (List.range 288).foldl (fun c ch => cohLoadRx ch c) (allTones.foldl (fun c t => cohLoad t c) c)

/-- The channels' words return to their committed RX_FREQ (R69 read by R122). -/
def restoreRx (c : Chip) : Chip :=
  (List.range 288).foldl (fun c ch => setRx ch (rd (P.rinRxFreq (ch / 24) (ch % 24)) c) c) c

/-! ### Bias strings (R103–R110) -/

/-- A bias output's string state. -/
def biasOf (o : Nat) (c : Chip) : BiasOut := Tab.get c.syn.bias o BiasOut.reset

/-- Put a bias output's string state. -/
def setBias (o : Nat) (x : BiasOut) (c : Chip) : Chip :=
  { c with syn := { c.syn with bias := Tab.put c.syn.bias o BiasOut.reset x } }

/-- The 0 V code of a span (R103). -/
def zeroCode (span : Nat) : Nat := if span < 2 then 0 else 131072

/-- The voltage of a code in a span: straight binary from 0 V, or offset binary; the coarse and the fine string rise with the
code (R102, R103). -/
def biasVoltage (span code : Nat) : Rat :=
  ((code : Int) - (zeroCode span : Nat) : Int) * (if span % 2 == 0 then 5 / 2 else 5) / 262144

/-- A commit of a code and a span that reaches an output in this tick (R104, R105, R106). -/
def biasCommit (o code span : Nat) (c : Chip) : Chip :=
  let x := biasOf o c
  match x.switchAt with
  | some _ =>
    if span == x.pendSpan then setBias o { x with pendCode := code } c
    else setBias o { x with pendCode := code, pendSpan := span, switchAt := some (c.clk + 10100) } c
  | none =>
    let s := rd (P.biaSpanNow o) c
    if span == s then setBias o { x with updates := x.updates ++ [(c.clk + 100, code)] } c
    else wr (P.biaSpanBusy o) 1 (setBias o { x with updates := x.updates ++ [(c.clk + 100, zeroCode s)],
                                                    switchAt := some (c.clk + 10100), pendCode := code, pendSpan := span } c)

/-- The value in force of an output: BIA_CODE in BIA_SPAN. -/
def biasInForce (o : Nat) (c : Chip) : Chip := biasCommit o (rd (P.biaBiaCode o) c) (rd (P.biaBiaSpan o) c) c

/-- Every output takes its fault value as a commit in this tick (R110). -/
def biasFault (c : Chip) : Chip :=
  (List.range 32).foldl (fun c o =>
    wr (P.biaFaultDrive o) 1 (biasCommit o (rd (P.biaFaultCode o) c) (rd (P.biaFaultSpan o) c) c)) c

/-- Every output that drives its fault value returns to the value in force, as a commit in this tick (R110). -/
def biasRelease (c : Chip) : Chip :=
  (List.range 32).foldl (fun c o =>
    if on (P.biaFaultDrive o) c then wr (P.biaFaultDrive o) 0 (biasInForce o c) else c) c

/-- A code due in this tick enters the string (R104). -/
def biasStringStep (o : Nat) (c : Chip) : Chip :=
  let x := biasOf o c
  match x.updates.filter (fun u => u.1 == c.clk) with
  | [] => c
  | u :: us =>
    let code := ((u :: us).getLast?.getD u).2
    emit (.bias o code (rd (P.biaSpanNow o) c) (biasVoltage (rd (P.biaSpanNow o) c) code) c.tl.gt)
      (wr (P.biaCodeNow o) code (setBias o { x with updates := x.updates.filter (fun u => u.1 != c.clk) } c))

/-- An output that drives its fault value follows a new one in the tick after the write completed (R111). -/
def biasFollowStep (c : Chip) : Chip :=
  (List.range 32).foldl (fun c o =>
    let x := biasOf o c
    if x.followAt == some c.clk then
      let c1 := setBias o { x with followAt := none } c
      if on (P.biaFaultDrive o) c then biasCommit o (rd (P.biaFaultCode o) c) (rd (P.biaFaultSpan o) c) c1 else c1
    else c) c

/-- The span switch at the end of a hold (R105). DESIGN CHOICE (log): a commit in this very tick comes before it, and so still falls
in the hold (R106). -/
def spanSwitchStep (o : Nat) (c : Chip) : Chip :=
  let x := biasOf o c
  if x.switchAt == some c.clk then
    let c1 := setBias o { x with switchAt := none } c
    let c2 := wr (P.biaCodeNow o) x.pendCode (wr (P.biaSpanNow o) x.pendSpan c1)
    emit (.bias o x.pendCode x.pendSpan (biasVoltage x.pendSpan x.pendCode) c.tl.gt) (count (P.biaSpanChangeCount o) (wr (P.biaSpanBusy o) 0 c2))
  else c

end Sys2Proof.Machine
end

