-- ==== Sys2Proof/Machine/Dac.lean ====
section
/-!
DEFINITION. What the DACs put out (R28, R63, R64, R79, R86, R87, R92–R97, R134): envelopes, tone sums, the flux input and the codes.
Everything is carried without loss up to the DAC code.
-/

namespace Sys2Proof.Machine

/-- Rounded to nearest, ties away from zero (R64, R94). -/
def roundAway (q : Rat) : Int := if 0 ≤ q then (q + 1 / 2).floor else -((-q + 1 / 2).floor)

/-- A value held to ±m, and whether that changed it. -/
def limit (m x : Int) : Int × Bool := if m < x then (m, true) else if x < -m then (-m, true) else (x, false)

/-! ### Sines (R63)

R63 gives cos φ and sin φ of an exact φ. DEDUCED (log): the model takes them as rationals within 10^-18 of the real values, which
give the code of R64 unless the real sum lies that close to a rounding boundary. -/

/-- π to 20 decimal places. -/
def piQ : Rat := 314159265358979323846 / 10 ^ 20

/-- n terms of an alternating power series in m = x², from the one after 1/k!. -/
def altSeries (m : Rat) : (n k : Nat) → Rat
  | 0, _ => 0
  | n + 1, k => 1 - m / (((k + 1) * (k + 2) : Nat) : Rat) * altSeries m n (k + 2)

/-- cos x and sin x for 0 ≤ x ≤ π/4, by their power series. -/
def cosSmall (x : Rat) : Rat := altSeries (x * x) 12 0
def sinSmall (x : Rat) : Rat := x * altSeries (x * x) 12 1

/-- cos and sin of r / 2^30 of a quarter turn, 0 ≤ r ≤ 2^30. -/
def cosQuarter (r : Nat) : Rat :=
  if r ≤ 2 ^ 29 then cosSmall (piQ * r / 2 ^ 31) else sinSmall (piQ * ((2 ^ 30 - r : Nat) : Rat) / 2 ^ 31)
def sinQuarter (r : Nat) : Rat := cosQuarter (2 ^ 30 - r)

/-- cos(2π p / 2^32) (R63). -/
def cosTurn (p : Nat) : Rat :=
  let r := p % 2 ^ 30
  match p / 2 ^ 30 % 4 with
  | 0 => cosQuarter r
  | 1 => -sinQuarter r
  | 2 => -cosQuarter r
  | _ => sinQuarter r

/-- sin(2π p / 2^32) (R63). -/
def sinTurn (p : Nat) : Rat := cosTurn (p + 3 * 2 ^ 30)

/-! ### Envelopes (R73, R79, R92) -/

/-- Sample i of a shelf: I, or Q, as value × 32,768. -/
def sampleOf (q : Bool) (shelf i : Nat) (c : Chip) : Int :=
  let a := 4 * (rd (P.shelfStart shelf) c + i) + (if q then 2 else 0)
  sgn 16 (leNat (memGet c.mem a 2))

/-- RATE and LENGTH of a play's shelf. -/
def playRate (p : Play) (c : Chip) : Nat := rd (P.shelfRate p.shelf) c
def playLen (p : Play) (c : Chip) : Nat := rd (P.shelfLength p.shelf) c

/-- A play's sample period in 1/24 tick. -/
def period24 (rate : Nat) : Nat := if rate == 0 then 12 else 24 * rate

/-- A shelf on a lane's timeline: the play that has latched it, if one has. -/
structure Seg where
  shelf : Nat
  play : Option Play

/-- A shelf that a commit point would latch. -/
def playable (s : Nat) (c : Chip) : Bool := decide (shelfValid ≤ rd (P.shelfState s) c)

/-- The shelf that follows one without a gap, as this tick knows it: the start latched for its end, else the pending jump there,
else the chained successor. DESIGN CHOICE (log): R79 interpolates toward the successor's first sample also before the successor
is latched; which one that will be, the tick can only expect. -/
def segAfter (l : Lane) (g : Seg) (c : Chip) : Option Seg :=
  let expect (o : Option Nat) : Option Seg := (o.filter (fun s => playable s c)).map (fun s => { shelf := s, play := none })
  match g.play with
  | none => expect (if on (P.shelfNextEn g.shelf) c then some (rd (P.shelfNext g.shelf) c) else none)
  | some p =>
    match l.plays.find? (fun r => r.start == p.stop && r != p) with
    | some r => if r.silent then none else some { shelf := r.shelf, play := some r }
    | none => expect (match l.jump with
      | some j => if j.boundary == p.stop then j.shelf else p.next
      | none => p.next)

/-- n samples of a lane from sample i of a shelf on, across shelf boundaries; zeros where none plays. -/
def samplesFrom (l : Lane) (q : Bool) (c : Chip) : (n : Nat) → Seg → (i : Nat) → List Int
  | 0, _, _ => []
  | n + 1, g, i =>
    if i < rd (P.shelfLength g.shelf) c then sampleOf q g.shelf i c :: samplesFrom l q c n g (i + 1)
    else match segAfter l g c with
      | none => List.replicate (n + 1) 0
      | some h => sampleOf q h.shelf 0 c :: samplesFrom l q c n h 1

/-- The n samples of a lane before sample i of the play that starts at GT g, the nearest first. -/
def samplesBefore (l : Lane) (q : Bool) (c : Chip) : (n : Nat) → (g i : Nat) → List Int
  | 0, _, _ => []
  | n + 1, g, i =>
    match l.plays.find? (fun p => p.start == g && !p.silent) with
    | none => List.replicate (n + 1) 0
    | some p =>
      if 0 < i then sampleOf q p.shelf (i - 1) c :: samplesBefore l q c n g (i - 1)
      else match l.plays.find? (fun r => r.stop == g && !r.silent && decide (r.start < g)) with
        | none => List.replicate (n + 1) 0
        | some r => sampleOf q r.shelf (playLen r c - 1) c :: samplesBefore l q c n r.start (playLen r c - 1)

/-- The 32-tap polyphase filter of R79 between two nominal instants; its taps are free values. -/
def polyphase (rate r : Nat) (xs : List Int) : Rat := (xs.zipIdx.map (fun x => Config.polyTap rate r x.2 * (x.1 : Rat))).sum

/-- The resampled envelope of a lane, as value × 32,768, `k` 1/24 ticks into GT `g`; 0 with no shelf in play. At its nominal instant
a sample is itself (R63, R79, R92). -/
def envelope (l : Lane) (q : Bool) (g k : Nat) (c : Chip) : Rat :=
  match l.plays.find? (fun p => !p.silent && decide (p.start ≤ g ∧ g < p.stop)) with
  | none => 0
  | some p =>
    let rate := playRate p c
    let d := period24 rate
    let t := 24 * (g - p.start) + k
    let i := t / d
    let r := t % d
    let seg : Seg := { shelf := p.shelf, play := some p }
    if r == 0 then sampleOf q p.shelf i c
    else if 8 ≤ rate then
      match samplesFrom l q c 2 seg i with
      | [a, b] => (((d : Int) - r) * a + (r : Int) * b : Int) / (d : Rat)
      | _ => 0
    else polyphase rate r ((samplesBefore l q c 15 p.start i).reverse ++ samplesFrom l q c 17 seg i)

/-! ### Ports that put out -/

/-- The port's DAC is powered: its converters are, in the mode in force (R27, R88). -/
def dacOn (b p : Nat) (c : Chip) : Bool := c.pw.analog && on (portEn b p) c

/-- A CALW window taken on a port switches its DAC to the sense load at slot time g (R87, R134). -/
def gapped (b p g : Nat) (c : Chip) : Bool :=
  c.rin.gaps.any (fun x => x.port == portNo b p && x.taken && decide (x.start ≤ g ∧ g < x.start + 2048))

/-- The samples that enter a port's stream in this tick reach its pin: its DAC is powered, no forced zero is in force (R14), and no
taken window covers the port (R87, R100). -/
def portLive (b p : Nat) (c : Chip) : Bool := dacOn b p c && !c.pw.forcedZero && !gapped b p c.tl.gt c

/-- A ramp's code: +1 at each sample from −m to +m, then over again (R28). -/
def rampCode (m samples : Nat) (k : Nat) (c : Chip) : Int :=
  (((samples * (c.clk - c.syn.benchAt) + k) % (2 * m + 1) : Nat) : Int) - (m : Int)

/-! ### DRV and PRB ports (R63, R64) -/

/-- What tone t of a port adds at DAC sample k of this tick, before PORT_SCALE (R63); `cw`: the carrier of BENCH (R28). -/
def toneTerm (b p t k : Nat) (cw : Bool) (c : Chip) : Rat :=
  let tgt := mkTone b p t
  let l := laneOf tgt c
  let x := toneOf tgt c
  let ph := ((x.accNow c.clk + x.fw * k) % 2 ^ 48 / 2 ^ 16 + x.frame) % 2 ^ 32
  let a : Int := if cw then 0x7FFF else l.amp
  let i : Rat := if cw then 0x7FFF else envelope l false c.tl.gt k c
  let q : Rat := if cw then 0 else envelope l true c.tl.gt k c
  (rd (P.toneToneGain b p t) c : Rat) / 32768 * ((a : Rat) / 32768) * ((i * cosTurn ph - q * sinTurn ph) / 32768)

/-- y of a port at DAC sample k of this tick (R63, R81). -/
def portSum (b p k : Nat) (cw : Bool) (c : Chip) : Rat :=
  (rd (P.portPortScale b p) c : Rat) / 32768 *
    (((List.range (tones b)).filter (fun t => bitAt (rd (P.portToneEn b p) c) t)).map (fun t => toneTerm b p t k cw c)).sum

/-- A tone of the port has a shelf in play in this tick. -/
def portPlays (b p : Nat) (c : Chip) : Bool :=
  (List.range (tones b)).any (fun t =>
    (laneOf (mkTone b p t) c).plays.any (fun q => !q.silent && decide (q.start ≤ c.tl.gt ∧ c.tl.gt < q.stop)))

/-- The DAC code of a port for sample k of this tick's stream, and whether it saturates (R28, R64). -/
def portCode (b p k : Nat) (c : Chip) : Int × Bool :=
  let sum (cw : Bool) : Int × Bool := limit 8191 (roundAway (portSum b p k cw c * 8191))
  if !portLive b p c then (0, false)
  else if c.md.mode == .bench then
    (if rd P.sysBenchDac c == 1 then sum true else if rd P.sysBenchDac c == 2 then (rampCode 8191 24 k c, false) else (0, false))
  else if portPlays b p c then sum false else (0, false)

/-! ### FLX ports (R93, R94, R97, R113) -/

/-- x of an FLX port at DAC sample m of this tick (R28, R93). -/
def flxInput (p m : Nat) (c : Chip) : Rat :=
  let off := (rdS (P.flxFlxOffset p) c : Rat) / 32768
  if c.md.mode == .bench then
    if rd P.sysBenchFlx c == 1 then
      let a := (rdS P.sysBenchFlxAmp c : Rat) / 32768
      if c.syn.benchHigh == Config.squareHigh then off - a else off + a
    else off
  else
    let l := laneOf (.flx (Fin.ofNat 24 p)) c
    off + (rd (P.flxFlxScale p) c : Rat) / 32768 * ((l.amp : Rat) / 32768) *
      (envelope l (on (P.flxSrcSel p) c) c.tl.gt (12 * m) c / 32768)

/-- The DAC code of a filter output (R94). -/
def flxCode (y : Rat) : Int × Bool := limit 32767 (roundAway (y * 32767))

/-- The code an FLX port settles to on its offset alone: the exponential stages have unity gain at DC, the FIR stage the sum of its
taps (R95). -/
def flxRest (p : Nat) (c : Chip) : Int :=
  (flxCode ((rdS (P.flxFlxOffset p) c : Rat) / 32768 * (((List.range 16).map (fun j => rdS (P.flxFirTap p j) c)).sum : Rat) / 65536)).1

/-- CODE_NOW of an FLX port: the code that reaches its DAC in this tick, 52 + PORT_DELAY ticks after its sample entered the pipeline,
before the 8 ticks in the DAC (R97, R113). DESIGN CHOICE (log): of the tick's two samples it shows the second, and where the
pipeline holds none, after a power-up or a discard, the code of the offset alone. -/
def flxCodeNow (p : Nat) (c : Chip) : Int :=
  if !dacOn 5 p c || c.pw.forcedZero then 0
  else if c.md.mode == .bench && rd P.sysBenchFlx c == 2 then rampCode 32767 2 1 c
  else (Tab.get c.syn.codes p []).getD (51 + rd (P.flxPortDelay p) c) (flxRest p c)

/-! ### Shelf starts on their way to the pins (R72, R86, R97) -/

/-- First samples whose time at the pin comes in this tick leave, from a DAC that is powered and not forced to zero. -/
def pipeStep (c : Chip) : Chip :=
  (c.syn.pipe.filter (fun x => decide (x.due ≤ c.clk))).foldl (fun c x =>
    let (b, n) := tgtPort x.t
    if dacOn b n c && !c.pw.forcedZero then emit (.shelf x.t x.shelf x.gt x.at256) c else c)
    { c with syn := { c.syn with pipe := c.syn.pipe.filter (fun x => decide (c.clk < x.due)) } }

end Sys2Proof.Machine
end

