-- ==== Sys2Proof/Machine/LinkOps.lean ====
section
/-!
DEFINITION. The parts of the links that other families use: group state, pairs and their queues (R230, R281), control frames
and floods (R273), and the transmit side (R289, R293).
-/

namespace Sys2Proof.Machine

/-! ### Groups -/

/-- Group g. -/
def groupOf (g : Nat) (c : Chip) : Group := Tab.get c.lk.groups g Group.reset

/-- Put group g. -/
def setGroup (g : Nat) (x : Group) (c : Chip) : Chip :=
  { c with lk := { c.lk with groups := Tab.put c.lk.groups g Group.reset x } }

/-! LG_STATE codes of R263. -/
def lgOff : Nat := 0
def lgSleep : Nat := 1
def lgTraining : Nat := 2
def lgActive : Nat := 3
def lgStandby : Nat := 4
def lgSwitching : Nat := 5
def lgDown : Nat := 6

/-- LG_STATE of group g. -/
def lgState (g : Nat) (c : Chip) : Nat := rd (P.lgLgState g) c

/-- Groups 2k and 2k + 1 are paired (R281). -/
def paired (g : Nat) (c : Chip) : Bool := bitAt (rd P.lnkPair c) (g / 2)

/-- The other member of a group's pair. -/
def partner (g : Nat) : Nat := if g % 2 == 0 then g + 1 else g - 1

/-- The key of the outcome queue of a group: its own, or the pair's at the lower member (R230, R274). -/
def queueKey (g : Nat) (c : Chip) : Nat := if paired g c then g / 2 * 2 else g

/-- The modes in which the lanes are awake as set (R293). -/
def lanesAwake (c : Chip) : Bool :=
  inModes [.configure, .calibrate, .syncing, .ready, .run, .hold, .bench] c

/-- TX_UP: LG_EN, and all four data lanes and the clock lane awake and ready to transmit (R289). -/
def txUp (g : Nat) (c : Chip) : Bool :=
  on (P.lgLgEn g) c && lanesAwake c &&
  (List.range 4).all (fun k => !on (P.laneTxSleep (4 * g + k)) c && c.lk.txReady.contains (4 * g + k)) &&
  !on (P.ckTxSleep g) c && c.lk.txReady.contains (16 + g)

/-- Modes in which timing frames are sent and accepted (R293). -/
def timingModes (c : Chip) : Bool := inModes [.syncing, .ready, .run, .hold, .bench] c

/-- Modes in which outcome and bulk frames are sent and accepted (R293). -/
def trafficModes (c : Chip) : Bool := inModes [.run, .hold, .bench] c

/-- TL_DEPTH: a follower's hops to node 0, as its last beacon gave them; 0 for EXTERNAL and MESH_ROOT (R41, R61). -/
def depthOf (c : Chip) : Nat := if rd P.tlTlSource c == 2 then rd P.tlTlDepth c else 0

/-! ### Control frames (R273) -/

/-! The subtypes of R273. -/
namespace Sub
def joinReq : Nat := 0x01
def joinAck : Nat := 0x02
def joinNak : Nat := 0x03
def leave : Nat := 0x04
def switch : Nat := 0x05
def trigArm : Nat := 0x10
def trigFire : Nat := 0x11
end Sub

/-- The payload of a CONTROL frame as three 64-bit words (R273). -/
def ctlWords (sub cseq node : Nat) (nodeValid : Bool) (status serial arg subject : Nat) : List Nat :=
  [sub % 256 + cseq % 256 * 2 ^ 8 + (node % 64 + 64 * b2n nodeValid) * 2 ^ 16 + status % 256 * 2 ^ 24 + serial % 2 ^ 32 * 2 ^ 32,
   arg % 2 ^ 64, subject % 2 ^ 32]

/-- Queue a timing frame on group g. -/
def queueTiming (g : Nat) (k : TimingKind) (words : List Nat) (notBefore : Nat) (c : Chip) : Chip :=
  let x := groupOf g c
  setGroup g { x with timing := x.timing ++ [{ kind := k, words := words, notBefore := notBefore }] } c

/-- Queue a timing frame on every ACTIVE group whose transmit side is up, but one (R57, R273). -/
def floodTiming (k : TimingKind) (words : List Nat) (except : Option Nat) (notBefore : Nat) (c : Chip) : Chip :=
  (List.range 4).foldl (fun c g =>
    if timingModes c && lgState g c == lgActive && txUp g c && except != some g then queueTiming g k words notBefore c else c) c

/-- Create a control frame and flood it: it takes the next CSEQ, and its key is one the node has seen (R273). -/
def floodControl (sub node : Nat) (nodeValid : Bool) (status arg subject notBefore : Nat) (c : Chip) : Chip :=
  let n := c.lk.cseq
  let c1 := { c with lk := { c.lk with cseq := (n + 1) % 256 } }
  floodTiming .control (ctlWords sub n node nodeValid status Config.deviceSerial arg subject) none notBefore c1

/-! ### Outcome queues (R230) -/

/-- The records queued for a group. -/
def outQueue (g : Nat) (c : Chip) : List Nat := Tab.get c.oc.queues (queueKey g c) []

/-- Queue a record for one group or pair, or drop it when its 64 places are taken, or when no outcome frame is sent in the
mode (R230). -/
def enqueueRec (key r : Nat) (c : Chip) : Chip :=
  let q := Tab.get c.oc.queues key []
  if q.length < 64 && trafficModes c then countT P.outSharedSent 201 { c with oc := { c.oc with queues := Tab.put c.oc.queues key [] (q ++ [r]) } }
  else countT P.outShareDrop 204 (setFlag P.outShareOver c)

/-- The queues a mask of groups names, a pair's once (R230, R281). -/
def queuesOf (mask : Nat) (c : Chip) : List Nat :=
  (((List.range 4).filter (fun g => bitAt mask g)).map (fun g => queueKey g c)).dedup

/-- Discard every queued record at entry to a mode without outcome frames (R230). -/
def shareDiscard (c : Chip) : Chip :=
  let n := c.oc.queues.foldl (fun n q => n + q.2.length) 0
  if n == 0 then c
  else total 204 n (countN P.outShareDrop n (setFlag P.outShareOver { c with oc := { c.oc with queues := [] } }))

/-! ### Frames on the line (R265, R266, R282, R290, R291) -/

/-- The member of a pair that carries its traffic: the one ACTIVE or SWITCHING, and the lower one while neither is (R282). -/
def sendMember (g : Nat) (c : Chip) : Nat :=
  let up (k : Nat) : Bool := lgState k c == lgActive || lgState k c == lgSwitching
  let a := g / 2 * 2
  if !paired g c then g else if !up a && up (a + 1) then a + 1 else a

/-- The node uses the group as a standby member: MIRROR (R266, R282). -/
def asStandby (g : Nat) (c : Chip) : Bool := sendMember g c != g

/-- Lanes 1–3 of a start column (R266): TYPE and MIRROR, LEN, SRC and SRC_VALID. -/
def startBytes (ty : Nat) (mirror : Bool) (len : Nat) (c : Chip) : List Byte :=
  [BitVec.ofNat 8 (ty + 16 * b2n mirror), BitVec.ofNat 8 len, BitVec.ofNat 8 (rd P.lnkNodeId c + 64 * b2n (on P.lnkNodeValid c))]

/-- A frame's payload, least significant byte first (R265). -/
def payloadBytes (ws : List Nat) : List Byte := ws.flatMap (leBytes 8)

/-- The CRC of a frame: over lanes 1–3 of its start column and then its payload (R265). -/
def frameCrc (start : List Byte) (ws : List Nat) : Nat := crc32c (start ++ payloadBytes ws)

/-- The characters of lane k, from the start column to the CRC column: payload byte j travels on lane j mod 4 (R265). -/
def laneChars (k : Nat) (start : List Byte) (ws : List Nat) : List LinkChar :=
  let bs := payloadBytes ws
  (if k == 0 then .k277 else .data (start.getD (k - 1) 0).toNat) ::
    (List.range (2 * ws.length)).map (fun j => LinkChar.data (bs.getD (4 * j + k) 0).toNat) ++
    [.data (frameCrc start ws / 256 ^ k % 256)]

/-- What lane k of group g puts on its pins for these characters: a pattern in their place (R291), idle characters in a near-end
parallel loop, the received characters in a far-end loop (R290). -/
def lanePins (g k : Nat) (cs : List LinkChar) (c : Chip) : LanePins :=
  match rd (P.lanePattern (4 * g + k)) c, rd (P.laneLoop (4 * g + k)) c with
  | 0, 2 => .chars (cs.map (fun _ => .k285))
  | 0, 3 => .echo
  | 0, _ => .chars cs
  | 1, _ => .prbs7
  | _, _ => .prbs31

/-- A data lane of the group carries a pattern and no frame (R291). -/
def patterned (g : Nat) (c : Chip) : Bool := (List.range 4).any (fun k => rd (P.lanePattern (4 * g + k)) c != 0)

/-- All five lanes of a group share one LOOP setting (R290). -/
def oneLoop (g : Nat) (c : Chip) : Bool :=
  (List.range 4).all (fun k => rd (P.laneLoop (4 * g + k)) c == rd (P.ckLoop g) c)

/-- The group is in a near-end loop: it receives its own frames, and its receive pins are ignored (R290). -/
def nearLoop (g : Nat) (c : Chip) : Bool := oneLoop g c && (rd (P.ckLoop g) c == 1 || rd (P.ckLoop g) c == 2)

/-- The group's receiver takes a frame: its lanes carry no pattern, and in a near-end loop it is an own frame that arrives now. -/
def hears (g : Nat) (i : Instr) (c : Chip) : Bool :=
  !patterned g c && (!nearLoop g c || c.lk.looped.contains (c.clk, i))

/-- The meaning of a frame's reception on group g. -/
def rxChip (g : Nat) (i : Instr) (f : Chip → Chip) (s : State) : Host.Outcome State Fault Refusal :=
  onChip (fun c => if hears g i c then f c else c) s

/-- A field of a payload: w bits from bit lo of word k. -/
def payField (ws : List Nat) (k lo w : Nat) : Nat := bits (ws.getD k 0) lo w

/-- The control fields of a payload (R273). -/
def ctlOf (ws : List Nat) : Ctl :=
  { cseq := BitVec.ofNat 8 (payField ws 0 8 8), node := Fin.ofNat 64 (payField ws 0 16 6), nodeValid := payField ws 0 22 1 == 1,
    status := BitVec.ofNat 8 (payField ws 0 24 8), originSerial := BitVec.ofNat 32 (payField ws 0 32 32),
    arg := BitVec.ofNat 64 (payField ws 1 0 64), subjectSerial := BitVec.ofNat 32 (payField ws 2 0 32) }

/-- The beacon of a payload (R269). -/
def beaconOf (ws : List Nat) : Beacon :=
  { txGt := BitVec.ofNat 64 (payField ws 0 0 64), txF := BitVec.ofNat 8 (payField ws 1 0 8),
    echoTxGt := BitVec.ofNat 32 (payField ws 1 8 32), echoTxF := BitVec.ofNat 8 (payField ws 1 40 8),
    echoRxGt := BitVec.ofNat 32 (payField ws 1 48 16 + payField ws 2 0 16 * 2 ^ 16), echoRxF := BitVec.ofNat 8 (payField ws 2 16 8),
    gtState := BitVec.ofNat 3 (payField ws 2 24 3), depth := BitVec.ofNat 3 (payField ws 2 27 3), echoValid := payField ws 2 30 1 == 1 }

/-- The BULK frame of a payload (R286). -/
def bulkOf (ws : List Nat) : Bulk :=
  let n := payField ws 0 8 6
  { chan := Fin.ofNat 64 (payField ws 0 0 6), dataLen := n, last := payField ws 0 14 1 == 1, bseq := BitVec.ofNat 16 (payField ws 0 16 16),
    data := (payloadBytes (ws.drop 1)).take n }

/-- The reception of a frame of this type and payload: at GT `gt` and fraction f, for a beacon (R267, R269–R273, R286). -/
def frameCommand (rx : Rx) (ty : Nat) (ws : List Nat) (gt f : Nat) : Option Instr :=
  match ty with
  | 1 => some (.beaconRx rx (beaconOf ws) (BitVec.ofNat 64 gt) (BitVec.ofNat 8 f))
  | 2 => some (.outcomeFrameRx rx (ws.map (BitVec.ofNat 64 ·)))
  | 3 => some (.snapshotFrameRx rx (BitVec.ofNat 64 (payField ws 0 0 64)) (BitVec.ofNat 16 (payField ws 1 0 16))
      (Fin.ofNat 64 (payField ws 1 16 6)))
  | 4 =>
    match payField ws 0 0 8 with
    | 0x01 => some (.joinReq rx (ctlOf ws))
    | 0x02 => some (.joinAck rx (ctlOf ws))
    | 0x03 => some (.joinNak rx (ctlOf ws))
    | 0x04 => some (.leaveFrame rx (ctlOf ws))
    | 0x05 => some (.switchFrame rx (ctlOf ws))
    | 0x10 => some (.trigArm rx (ctlOf ws))
    | 0x11 => some (.trigFire rx (ctlOf ws))
    | _ => none
  | 5 => some (.bulkFrameRx rx (bulkOf ws))
  | 6 => some (.bulkAck rx (Fin.ofNat 64 (payField ws 0 0 6)) (BitVec.ofNat 16 (payField ws 0 16 16)))
  | _ => none

/-- A frame sent into a near-end loop comes back: after the serializer, the receive path and the frame check, whose terms R232
bounds by 16, 25 and 12 ticks; the frames of a group keep their order. -/
def loopFrame (g ty : Nat) (mirror : Bool) (ws : List Nat) (c : Chip) : Chip :=
  if nearLoop g c && !patterned g c then
    let d := draw 16 c
    let e := draw 8 d.2
    let mine := c.lk.looped.filter (fun p => decide (c.clk < p.1))
    let at_ := max (c.clk + 1 + d.1 % 53) ((mine.map (·.1 + 1)).foldl max 0)
    let rx : Rx := { lg := Fin.ofNat 4 g, src := Fin.ofNat 64 (rd P.lnkNodeId c), srcValid := on P.lnkNodeValid c, mirror := mirror }
    match frameCommand rx ty ws (c.tl.gt + (at_ - c.clk)) e.1 with
    | some i => { e.2 with lk := { c.lk with looped := c.lk.looped ++ [(at_, i)] } }
    | none => e.2
  else c

/-- A frame leaves on group g: its columns at the pins, and its way back in a near-end loop (R265, R290). -/
def sendFrame (g ty : Nat) (mirror : Bool) (ws : List Nat) (c : Chip) : Chip :=
  let st := startBytes ty mirror ws.length c
  loopFrame g ty mirror ws (emit (.frame g ((List.range 4).map (fun k => lanePins g k (laneChars k st ws) c))) c)

end Sys2Proof.Machine
end

