-- ==== Sys2Proof/Machine/Acq.lean ====
section
/-!
DEFINITION. Records, staging and loss (R297–R299, R310, R313, R314), the trigger word (R301) and the trigger units' fires
(R302, R303, R305, R307).
-/

namespace Sys2Proof.Machine

/-! ### Streams -/

/-- Stream k. -/
def streamOf (k : Nat) (c : Chip) : Stream := Tab.get c.aq.streams k Stream.reset

/-- Put stream k. -/
def setStream (k : Nat) (x : Stream) (c : Chip) : Chip :=
  { c with aq := { c.aq with streams := Tab.put c.aq.streams k Stream.reset x } }

/-- A record's bytes: header and payload (R297). -/
def Rec.bytes (r : Rec) : Nat := 8 * (1 + r.words.length)

/-- Bytes in a list of records. -/
def recBytes (l : List Rec) : Nat := l.foldl (fun n r => n + r.bytes) 0

/-- The stream's part of the acquisition buffer, in bytes (R310, R312). -/
def partBytes (k : Nat) (c : Chip) : Nat := rd (P.stBufSize k) c * 4096

/-- FILL: bytes held (R316). -/
def fillOf (k : Nat) (c : Chip) : Nat := recBytes (streamOf k c).staged + recBytes (streamOf k c).held

/-- The kinds of record a mode lets a stream take (R315). -/
def modeTakes (rtype : Nat) (c : Chip) : Bool :=
  match c.md.mode with
  | .run | .hold => true
  | .configure | .calibrate | .bench | .syncing | .ready => rtype == 0x2 || rtype == 0x3 || rtype == 0x7 || rtype == 0x8
  | _ => false

/-- Place a record in stream order: among the records of one tick by type, then source (R299). -/
def placeRec (r : Rec) : List Rec → List Rec
  | [] => [r]
  | x :: xs =>
    if x.offered == r.offered && (decide (r.rtype < x.rtype) || (r.rtype == x.rtype && decide (r.src < x.src))) then
      r :: x :: xs
    else x :: placeRec r xs

/-- Whether n more bytes fit a stream's staging, the oldest held blocks giving way (R310). -/
def roomFor (k n : Nat) (c : Chip) : Bool := decide (recBytes (streamOf k c).staged + n ≤ partBytes k c)

/-- Drop the oldest held blocks until the part fits. -/
def trimHeld (cap used : Nat) : List Rec → List Rec
  | [] => []
  | r :: rs => if used + recBytes (r :: rs) ≤ cap then r :: rs else trimHeld cap used rs

/-- Hold a stream within its part: held blocks give way to records that await the writer, and the stream no longer holds every
block since the end of a block that went (R310). -/
def fitPart (k : Nat) (c : Chip) : Chip :=
  let s := streamOf k c
  let held := trimHeld (partBytes k c) (recBytes s.staged) s.held
  let gone := s.held.take (s.held.length - held.length)
  setStream k { s with held := held, since := gone.foldl (fun t r => some (max (t.getD r.hi) r.hi)) s.since } c

/-- The GAP record of a stream that has lost records (R298, R314). -/
def gapRec (s : Stream) (clk : Nat) : Rec :=
  { rtype := 1, src := 0, flags := 0, words := [s.lost % 2 ^ 64, s.lostGt], offered := clk, lo := 0, hi := 0 }

/-- Write the GAP record once room has returned (R314). -/
def gapStep (k : Nat) (c : Chip) : Chip :=
  let s := streamOf k c
  if s.lost != 0 && roomFor k 24 c then
    count (P.stGapCount k) (fitPart k (setStream k { s with staged := s.staged ++ [gapRec s c.clk], lost := 0 } c))
  else c

/-- A record finds no room: it is discarded, counted, and may mark a shot (R314). -/
def loseRec (k : Nat) (r : Rec) (sq : Option Nat) (c : Chip) : Chip :=
  let s := streamOf k c
  let c1 := setStream k { s with lost := s.lost + 1, lostGt := if s.lost == 0 then c.tl.gt else s.lostGt } c
  let c2 := setFlag W.streamLoss (countT (P.stLostCount k) (222 + k) (setFlag (P.stLoss k) c1))
  match sq with
  | some q => if on (P.stLossInvalid k) c && (r.rtype == 6 || r.rtype == 5 || r.rtype == 7 || r.rtype == 4) then
      markNow q Sf.capture c2 else c2
  | none => c2

/-- Stage a record in stream k; `sq` is the sequencer whose shot a loss marks (R205, R314). -/
def stageRec (k : Nat) (r : Rec) (sq : Option Nat) (c : Chip) : Chip :=
  let c1 := gapStep k c
  let s := streamOf k c1
  if s.lost == 0 && roomFor k r.bytes c1 then
    fitPart k (setStream k { s with staged := placeRec r s.staged } c1)
  else loseRec k r sq c1

/-- Offer a record to stream k if it is enabled and the mode takes such records (R315). -/
def offerTo (k : Nat) (r : Rec) (sq : Option Nat) (c : Chip) : Chip :=
  if on (P.stStreamEn k) c && modeTakes r.rtype c then stageRec k r sq c else c

/-- Offer a record to every stream a test names. -/
def offerAll (want : Nat → Bool) (r : Rec) (sq : Option Nat) (c : Chip) : Chip :=
  (List.range 16).foldl (fun c k => if want k then offerTo k r sq c else c) c

/-- A short fine time (R45): GT[55:0] and the fraction. -/
def shortFine (t : Int) : Nat := toField 64 t

/-- Offer a POINT record (R149, R298). -/
def offerPoint (e : Nat) (r : Result) (dropped : Bool) (c : Chip) : Chip :=
  let ch := 12 * e + r.c
  let x : Rec :=
    { rtype := 6, src := ch,
      flags := b2n r.aborted + 2 * b2n r.kchg + 4 * b2n r.split + 8 * b2n r.conv + 16 * b2n r.sat + 32 * b2n dropped,
      words := [toField 32 r.i + toField 32 r.q * 2 ^ 32, shortFine (commonTime ((r.endGt : Int) * 256) c)],
      offered := c.clk, lo := 0, hi := 0 }
  offerAll (fun k => rd (P.stKind k) c == 3 && bitAt (rd (P.stSrcSel k) c) (ch / 24)) x (ownerOfCh ch c) c

/-- Offer an OUTCOME record (R216, R231, R299). -/
def offerOutcome (word : Nat) (remote : Bool) (ch : Nat) (c : Chip) : Chip :=
  let x : Rec := { rtype := 5, src := if remote then 0 else ch, flags := b2n remote, words := [word], offered := c.clk,
                   lo := 0, hi := 0 }
  offerAll (fun k => rd (P.stKind k) c == 4 &&
    (if remote then bitAt (rd (P.stSrcSel k) c) 12 else bitAt (rd (P.stSrcSel k) c) (ch / 24))) x
    (if remote then none else ownerOfCh ch c) c

/-- Offer a SHOT record (R203, R298): the boundary's GT, SHOT_COUNT after the close and the shot's flags. -/
def offerShot (s flags cnt gt : Nat) (byHold byEnd : Bool) (c : Chip) : Chip :=
  let x : Rec := { rtype := 4, src := s, flags := b2n byHold + 2 * b2n byEnd,
                   words := [gt, cnt % 2 ^ 48 + flags % 2 ^ 16 * 2 ^ 48], offered := c.clk, lo := 0, hi := 0 }
  offerAll (fun k => rd (P.stKind k) c == 5 && bitAt (rd (P.stSrcSel k) c) s) x (some s) c

/-- Offer an EDGE record (R298, R300). -/
def offerEdge (p : Nat) (falling : Bool) (t : Int) (c : Chip) : Chip :=
  let x : Rec := { rtype := 3, src := p, flags := b2n falling, words := [shortFine t], offered := c.clk, lo := 0, hi := 0 }
  offerAll (fun k => bitAt (rd (P.stEdgePin k) c) p) x none c

/-! ### Pin instants and windows (R118, R299, R310) -/

/-- The pin instant of a sample, in common time: `delay` ticks before tick m, less RIN_FINE (R118, R299, R47). -/
def pinInstant (r m delay : Nat) (c : Chip) : Int :=
  commonTime ((m : Int) * 256 - ((delay * 256 + rd (P.rinRinFine r) c : Nat) : Int)) c

/-- A stream with windows of blocks: a triggered one of kind CHAN or RAW; the other kinds have no block to hold (R309, R310). -/
def windowed (k : Nat) (c : Chip) : Bool := on (P.stTriggered k) c && (rd (P.stKind k) c == 1 || rd (P.stKind k) c == 2)

/-- The pin instant at which the block under way of a stream's input begins (R299). -/
def blockFrom (k : Nat) (c : Chip) : Int :=
  let r := bits (rd (P.stSrcSel k) c) 0 4
  if rd (P.stKind k) c == 1 then pinInstant r (c.tl.gt - c.tl.gt % 1024) 48 c
  else pinInstant r (c.tl.gt - c.tl.gt % 256) (if on (P.stRawCorr k) c then 16 else 8) c

/-- A block's pin instants meet a window (R310). -/
def meets (lo hi : Int) (r : Rec) : Bool := decide (max lo r.lo < min hi r.hi)

/-! ### The trigger word -/

/-- VAL of the register OSELk names; 0 while it is not VALID (R301). -/
def oselVal (k : Nat) (c : Chip) : Nat :=
  let r := rd (P.trgOselReg k) c
  if on (P.trgOselRemote k) c then (if on (P.rrRregValid r) c then rd (P.rrRregVal r) c else 0)
  else if decide (r < 288) && on (P.chOregValid r) c then rd (P.chOregVal r) c else 0

/-- The trigger word of this tick (R301). -/
def tword (c : Chip) : Nat :=
  (List.range 16).foldl (fun n k => n + oselVal k c * 2 ^ (2 * k)) 0 +
  (List.range 4).foldl (fun n p => n + (if (Tab.find c.aq.edges p).isSome then 2 ^ (32 + p) else 0)) 0 +
  c.aq.level % 16 * 2 ^ 36 + c.aq.fireBits % 256 * 2 ^ 40 + c.aq.evBits % 2 ^ 16 * 2 ^ 48

/-! ### Trigger units -/

/-- Trigger unit t. -/
def tuOf (t : Nat) (c : Chip) : TrigUnit := Tab.get c.aq.units t TrigUnit.reset

/-- Put trigger unit t. -/
def setTu (t : Nat) (x : TrigUnit) (c : Chip) : Chip :=
  { c with aq := { c.aq with units := Tab.put c.aq.units t TrigUnit.reset x } }

/-- A fire of TU_SEL on a triggered stream (R310): the MARK, then the held blocks that meet the window around F; the window stays
open while blocks of it are still to come. A fire before the last one has been emitted is not served, and has its MARK only where
MARK_TU asks for it (R305). -/
def openWindow1 (k t : Nat) (mark : Rec) (f : Int) (c : Chip) : Chip :=
  let s := streamOf k c
  if s.win.isSome then
    let c1 := count (P.stFireIgnoredCount k) (setFlag (P.stFireIgnored k) c)
    if bitAt (rd (P.stMarkTu k) c) t then offerTo k mark none c1 else c1
  else
    let lo := f - 256 * (rd (P.stPre k) c : Nat)
    let hi := f + 256 * (rd (P.stPost k) c : Nat)
    let short := decide (lo < s.since.getD (blockFrom k c))
    let all := decide (hi ≤ s.upto.getD lo)
    let c1 := setFlagIf short (P.stShortPre k) (setStream k { s with win := if all then none else some (lo, hi) } c)
    let c2 := offerTo k { mark with flags := mark.flags + 2 * b2n short } none c1
    (s.held.filter (meets lo hi)).foldl (fun c r => offerTo k { r with offered := c.clk } (ownerOfCh r.src c) c) c2

/-- A unit decides a fire at F by a node (R305): FIRED, FIRE_GT, its producer, its word bit in the next tick, its MARK
records and the windows of the triggered streams it selects. -/
def tuDecide (t : Nat) (f : Int) (node : Nat) (remote : Bool) (word : Nat) (c : Chip) : Chip :=
  let x := tuOf t c
  let auto := on (P.tuAuto t) c
  let x1 := { x with state := if auto then 4 else 0, rearmAt := c.clk + rd (P.tuHoldoff t) c + 1, lastF := some f, cands := [] }
  let c1 := wr (P.tuFireNode t) node (wr (P.tuFireGt t) (shortFine f) (setFlag (P.tuFired t) (setTu t x1 c)))
  let c2 := raise (0xC0 + t) (countT (P.tuFireCount t) (238 + t) c1)
  let c3 := { c2 with aq := { c2.aq with nextFire := c2.aq.nextFire ||| 2 ^ t } }
  let m : Rec := { rtype := 2, src := t + node % 64 * 8, flags := b2n remote, words := [shortFine f, if remote then 0 else word],
                   offered := c.clk, lo := 0, hi := 0 }
  (List.range 16).foldl (fun c k =>
    let mine := on (P.stTriggered k) c && rd (P.stTuSel k) c == t
    if on (P.stStreamEn k) c && mine && windowed k c then openWindow1 k t m f c
    else if mine || bitAt (rd (P.stMarkTu k) c) t then offerTo k m none c else c) c3

/-- The fire time of a local fire in this tick, in common time (R47, R303). -/
def fireTime (value care : Nat) (c : Chip) : Int :=
  let stamps := (List.range 4).filterMap (fun p =>
    if bitAt value (32 + p) && bitAt care (32 + p) then Tab.find c.aq.edges p else none)
  match stamps with
  | [] => commonTime ((c.tl.gt : Int) * 256) c
  | s :: ss => ss.foldl max s

/-- A cared position has a new value source in this tick (R302, UPDATE). -/
def freshCared (care : Nat) (c : Chip) : Bool :=
  (List.range 16).any (fun k => c.aq.fresh.contains k && bits care (2 * k) 2 != 0) ||
  (List.range 4).any (fun p => (Tab.find c.aq.edges p).isSome && bitAt care (32 + p)) ||
  (bits care 40 8 &&& c.aq.fireBits) != 0 || (bits care 48 16 &&& c.aq.evBits) != 0

/-- The unit's bit of its SCOPE: MESH. -/
def tuMesh (t : Nat) (c : Chip) : Bool := on (P.tuScope t) c

/-- When a unit decides on a first candidate F: at ⌊F⌋ + SETTLE, or at the next tick if that tick has passed (R307). -/
def settleTick (f : Int) (t : Nat) (c : Chip) : Nat :=
  let d := f / 256 + (rd (P.tuSettle t) c : Nat) - (c.tl.gt : Nat)
  if d < 0 then c.clk + 1 else c.clk + d.toNat

/-- A unit runs in the mode in force: a LOCAL one in each mode that has units, a MESH one only where the mode admits it (R315). -/
def tuRuns (t : Nat) (c : Chip) : Bool := !tuMesh t c || inModes [.syncing, .ready, .run, .hold] c

/-- Evaluate unit t on the trigger word of this tick (R302): an armed unit that meets its mode's condition fires. A LOCAL unit
decides at once; a MESH unit holds its candidate and settles (R305, R307). -/
def tuEval (c : Chip) (t : Nat) : Chip :=
  let x := tuOf t c
  if x.state == 2 && x.cands.isEmpty && tuRuns t c then
    let value := rd (P.tuValue t) c
    let care := rd (P.tuCare t) c
    let w := tword c
    let m := (w ^^^ value) &&& care == 0
    let fire := m && (if on (P.tuMode t) c then freshCared care c else !x.prev)
    let x1 := { x with matched := m }
    let c1 := setTu t x1 c
    if fire then
      let f := fireTime value care c
      if tuMesh t c then
        let node := rd P.lnkNodeId c
        let c2 := setTu t { x1 with state := 3, cands := [{ f := f, node := node, remote := false, word := w }],
                                    settleAt := settleTick f t c } c1
        floodControl Sub.trigFire node true 0 (toField 56 f + t * 2 ^ 56) 0 (c.clk + 1) c2
      else tuDecide t f (rd P.lnkNodeId c) false w c1
    else c1
  else c

/-- Evaluate every unit, once a tick, when the word of the tick is whole (R301, R302). -/
def tuEvalAll (c : Chip) : Chip := (List.range 8).foldl tuEval c

end Sys2Proof.Machine
end

