-- ==== Sys2Proof/Machine/Sched.lean ====
section
/-!
DEFINITION. What several families need of the modes and the timeline: the scheduled-action queue (R51–R54), the fault entry to
HOLD (R20, R21), the loss of GT (R48–R50), GT steps (R53) and the throttle's pauses (R433).
-/

namespace Sys2Proof.Machine

/-! ### Discarding slots, and cancelling a start (R208, R209) -/

/-- A sequencer's slots, latched ones included, are discarded; it goes back to SQ_ENTRY with nothing kept but C. -/
def sqToEntry (s : Nat) (c : Chip) : Chip :=
  setSq s { Sequencer.reset with pc := rd (P.sqSqEntry s) c, cursor := (sqOf s c).cursor } c

/-- A sequencer goes back to the checkpoint of the last SHOT it executed, or to SQ_ENTRY if it executed none (R209). -/
def sqRewind (s : Nat) (c : Chip) : Chip :=
  match (sqOf s c).check with
  | some k =>
    setSq s { Sequencer.reset with pc := k.pc, loops := k.loops, calls := k.calls, s := k.s, check := some k,
                                   cursor := (sqOf s c).cursor } c
  | none => sqToEntry s c

/-- Gaps that sequencers declared and that have not begun are discarded with their slots (R208, R209). -/
def gapsDrop (c : Chip) : Chip :=
  { c with rin := { c.rin with gaps := c.rin.gaps.filter (fun g => !(g.sq.isSome && decide (c.tl.gt < g.start))) } }

/-- A start that is refused or cancelled: from READY each sequencer returns to SQ_ENTRY, from HOLD to its checkpoint; the lanes
stop, and no slot of the cancelled run acts (R208, R209). A sequencer that is done stays done. -/
def cancelStart (c : Chip) : Chip :=
  gapsDrop (laneStopAll ((List.range 64).foldl (fun c s =>
    if c.md.mode == .hold then (if on (P.sqSqDone s) c then c else sqRewind s c) else sqToEntry s c) c))

/-! ### Transitions -/

/-- Drop the transition in progress: whoever asked for it receives a status (R21), and a start it had begun is cancelled (R208,
R209). -/
def dropTransition (status : Nat) (c : Chip) : Chip :=
  let c0 := if c.md.trans == some .run then cancelStart c else c
  let c1 := { c0 with md := { c0.md with trans := none, transGt := 0, fault := false, transIssuer := none } }
  match c.md.transIssuer with
  | some i => respond i status true (c.md.transGt != 0) [] c1
  | none => c1

/-- A fault entry to HOLD: in RUN, a transition to HOLD takes place at the next tick, and beats a commanded one (R20, R21). It marks
the shot in progress on every sequencer (R205). -/
def faultEntry (c : Chip) : Chip :=
  if c.md.mode == .run && !c.md.fault then
    let c1 := dropTransition St.modeRefused (markAll Sf.aborted c)
    { c1 with md := { c1.md with trans := some .hold, fault := true, transAt := c.clk + 1 } }
  else c

/-- Begin a transition (R18): IN_TRANSITION is 1 until it completes. -/
def beginTransition (m : Mode) (gt : Nat) (i : Option Issuer) (c : Chip) : Chip :=
  { c with md := { c.md with trans := some m, transGt := gt, fault := false, transAt := c.clk, transIssuer := i } }

/-! ### Scheduled actions (R51–R54) -/

/-- Entries of the queue in use: actions, the snapshots and a transition named at a GT (R51). -/
def schedUsed (c : Chip) : Nat :=
  c.tl.sched.length + c.tl.snaps.length + (if c.md.trans.isSome && c.md.transGt != 0 then 1 else 0)

/-- Room for one more (R51). -/
def schedRoom (c : Chip) : Bool := decide (schedUsed c < 256)

/-- Put an entry in the queue. -/
def schedule (a : Act) (gt : Nat) (gt0 : Bool) (i : Option Issuer) (c : Chip) : Chip :=
  { c with tl := { c.tl with sched := c.tl.sched ++ [{ act := a, gt := gt, gt0 := gt0, vouched := vouched c, issuer := i }] } }

/-- The first entry due in this tick whose action passes a test. -/
def schedDue (p : Act → Bool) (c : Chip) : Option Sched :=
  c.tl.sched.find? (fun e => p e.act && e.gt == c.tl.gt)

/-- Take the first such entry off the queue. -/
def schedPop (p : Act → Bool) (c : Chip) : Chip :=
  { c with tl := { c.tl with sched := c.tl.sched.eraseP (fun e => p e.act && e.gt == c.tl.gt) } }

/-- The action may still take place at its tick (R53): it names no time in common time, or GT is still vouched for. -/
def schedKeeps (e : Sched) (c : Chip) : Bool := e.gt0 || !e.vouched || vouched c

/-- An arm that does not take place leaves its unit IDLE (R304). -/
def armDropped (a : Act) (c : Chip) : Chip :=
  match a with
  | .arm t => if (tuOf t c).state == 1 then setTu t { tuOf t c with state := 0 } c else c
  | _ => c

/-- An entry is cancelled: its issuer receives the status. -/
def cancelled (e : Sched) (status : Nat) (c : Chip) : Chip := armDropped e.act (finish e.issuer status [] c)

/-- Cancel every pending entry: each issuer receives the status (R53). -/
def cancelAll (status : Nat) (c : Chip) : Chip :=
  let es := c.tl.sched
  let ss := c.tl.snaps
  let c1 := { c with tl := { c.tl with sched := [], snaps := [] } }
  let c2 := es.foldl (fun c e => cancelled e status c) c1
  let c3 := ss.foldl (fun c e => e.issuers.foldl (fun c i => finish (some i) status [] c) c) c2
  if c3.md.trans.isSome && c3.md.transGt != 0 then dropTransition status c3 else c3

/-- A GT step: GT takes a new value; every pending entry is cancelled (R53). -/
def gtStep (gt : Nat) (c : Chip) : Chip :=
  cancelAll St.gtStepped { c with tl := { c.tl with gt := gt % 2 ^ 64 } }

/-! ### Losing GT (R48–R50) -/

/-- A cause of GT loss: the flag, its count, GT_STATE, and what the mode then does. The alignment in progress in SYNCING is
abandoned and starts over (R48); `wait` holds it until the forced zero ends (R26). -/
def gtLoss (wait : Bool) (c : Chip) : Chip :=
  let c1 := raise 0xE8 (countT P.tlGtLostCount 246 (setFlag W.gtLost c))
  match c.md.mode with
  | .run => faultEntry { c1 with tl := { c1.tl with state := 5 } }
  | .ready =>
    let c2 := { c1 with tl := { c1.tl with state := 5 } }
    if c2.md.trans == some .syncing then c2
    else beginTransition .syncing 0 none (dropTransition St.modeRefused c2)
  | .hold => { c1 with tl := { c1.tl with state := 5 } }
  | .syncing =>
    { c1 with tl := { c1.tl with align := if wait then .idle
                                          else if rd P.tlTlSource c == 2 then .waitUp else .waitEpoch,
                                 alignN := 0, thetas := [] } }
  | _ => c1

/-! ### Throttling (R433, R435) -/

/-- The pause of a throttle level. -/
def pauseOf (level : Nat) : Nat := if level == 0 then 0 else if level == 1 then 256 else if level == 2 then 512 else 768

/-- This tick lies in a pause (R433). -/
def paused (c : Chip) : Bool := decide (c.tl.gt % 1024 < c.th.pause)

/-- The between-shot pause in force (R435). -/
def shotPause (c : Chip) : Nat := if rd W.thrLevel c == 4 then rd P.thmShotPause c else 0

end Sys2Proof.Machine
end

