-- ==== Sys2Proof/Machine/Clock.lean ====
section
/-!
DEFINITION. Clock loss (R14, R26) and the end of the forced zero.
-/

namespace Sys2Proof.Machine

/-- The place of a source in the list of clocks (R13). -/
def srcNo : ClockSource → Nat
  | .refclk => 0 | .fabric => 1 | .dacA => 2 | .dacB => 3 | .adc => 4 | .serdes => 5

/-- A source has been good for `n` ticks without a break (R20, R26). -/
def clockGood (k n : Nat) (c : Chip) : Bool :=
  match c.pw.goodAt.getD k none with
  | some t => decide (t + n ≤ c.clk)
  | none => false

/-- A source is there to be good: REFCLK and the fabric PLL always, the other synthesizers while the analog core is powered (R27). -/
def clockPowered (k : Nat) (c : Chip) : Bool := decide (k < 2) || c.pw.analog

/-- REFCLK and every powered synthesizer have been good for 10 µs without a break (R26). -/
def clocksGood (c : Chip) : Bool := (List.range 6).all (fun k => !clockPowered k c || clockGood k 10000 c)

/-- REFCLK is present and the fabric PLL locked (R20, R26). -/
def fabricGood (c : Chip) : Bool := clockGood 0 0 c && clockGood 1 0 c

/-- A source is lost: from when on it is good again, if that is known. -/
def sourceLost (src : ClockSource) (back : Option Nat) (c : Chip) : Chip :=
  { c with pw := { c.pw with goodAt := c.pw.goodAt.set (srcNo src) (back.map (c.clk + ·)) } }

/-- The clock monitor watches a source in the mode in force (R26): all of them while the analog core is powered, REFCLK and the
fabric PLL while it is not, nothing in RESET and SHUTDOWN. -/
def monitored (src : ClockSource) (c : Chip) : Bool :=
  match c.md.mode with
  | .reset | .shutdown => false
  | .boot | .fallback | .standby => src == .refclk || src == .fabric
  | _ => true

/-- A loss of REFCLK or of a synthesizer, which lasts `back` ticks if that is known (R14, R26, R48): CLK_LOST, GT_LOST, the forced
zero, and what the mode does. A CALW window in progress does not count. -/
def clockLoss (src : ClockSource) (back : Option Nat) (c : Chip) : Chip :=
  if !clockPowered (srcNo src) c then c
  else if monitored src c then
    let c1 := sourceLost src back c
    let c2 := { c1 with pw := { c1.pw with forcedZero := true },
                        rin := { c1.rin with gaps := c1.rin.gaps.map (fun g => { g with spoiled := true }) } }
    gtLoss true (setFlag W.clkLost c2)
  else sourceLost src back c

/-- The forced zero ends, 10 µs after REFCLK and every powered synthesizer are good again: coherent loads everywhere, and in
SYNCING the alignment starts over (R26). -/
def zeroEnd (c : Chip) : Chip :=
  if c.pw.forcedZero && clocksGood c then
    let c1 := cohLoadAll { c with pw := { c.pw with forcedZero := false } }
    if c1.md.mode == .syncing && c1.tl.align == .idle then
      { c1 with tl := { c1.tl with align := if rd P.tlTlSource c1 == 2 then .waitUp else .waitEpoch } }
    else c1
  else c

end Sys2Proof.Machine
end

