-- ==== Sys2Proof/Machine/DxeWord.lean ====
section
/-!
DEFINITION. The discrimination engines' instruction words (R175, R176): the instructions, the decoder and an encoder.
-/

namespace Sys2Proof.Machine

/-- The program instructions of R176. Operands are the fields of R175 that an instruction uses; the others are ignored. -/
inductive DxeInstr where
  | nop
  | ld (d b : BitVec 4) (step : BitVec 8)
  | ld2 (d b : BitVec 4) (step : BitVec 8)
  | st (b s : BitVec 4) (step : BitVec 8)
  | ldi (d : BitVec 4) (imm : BitVec 32)
  | ldih (d : BitVec 4) (imm : BitVec 32)
  | mov (d s : BitVec 4)
  | add (d s t : BitVec 4)
  | sub (d s t : BitVec 4)
  | addi (d s : BitVec 4) (imm : BitVec 32)
  | and (d s t : BitVec 4)
  | or (d s t : BitVec 4)
  | xor (d s t : BitVec 4)
  | sha (d s : BitVec 4) (imm : BitVec 32)
  | mul (d s t : BitVec 4)
  | cmp (s t : BitVec 4)
  | cmpi (s : BitVec 4) (imm : BitVec 32)
  | sat (d s : BitVec 4) (imm : BitVec 32)
  | mac (d : BitVec 2) (s t : BitVec 4)
  | cmac (d : BitVec 2) (s t : BitVec 4)
  | aclr (d : BitVec 2) (all : BitVec 1)
  | amov (d : BitVec 4) (s : BitVec 2) (imm : BitVec 6)
  | popr (d : BitVec 4)
  | rdcur (d : BitVec 4)
  | cls (d s : BitVec 4) (imm : BitVec 8)
  | outc (s : BitVec 4)
  | trkw (s t k : BitVec 4)
  | getm (d : BitVec 4)
  | rdgt (d : BitVec 4)
  | setb (b s : BitVec 4)
  | setp (b s : BitVec 4)
  | getp (d b : BitVec 4)
  | branch (cond : BitVec 4) (target : BitVec 12)
  | call (target : BitVec 12)
  | ret
  | rts
  | rpt (count : BitVec 16) (len : BitVec 8)
  | rptr (s : BitVec 4) (len : BitVec 8)
  | setm (imm : BitVec 3)
  | idle
  | halt
  deriving DecidableEq, Repr

/-! The fields of R175. -/

/-- OP, bits [63:56]. -/
def dxeOp (w : Word) : BitVec 8 := w.extractLsb' 56 8
/-- D, bits [55:52]. -/
def dxeD (w : Word) : BitVec 4 := w.extractLsb' 52 4
/-- S, bits [51:48]. -/
def dxeS (w : Word) : BitVec 4 := w.extractLsb' 48 4
/-- T, bits [47:44]: a second source, or buffer b. -/
def dxeT (w : Word) : BitVec 4 := w.extractLsb' 44 4
/-- STEP, bits [43:36]. -/
def dxeStep (w : Word) : BitVec 8 := w.extractLsb' 36 8
/-- COND, bits [35:32]. -/
def dxeCond (w : Word) : BitVec 4 := w.extractLsb' 32 4
/-- IMM, bits [31:0]. -/
def dxeImm (w : Word) : BitVec 32 := w.extractLsb' 0 32

/-- Read an instruction word; an opcode R176 does not give is illegal. -/
def decodeDxe (w : Word) : Option DxeInstr :=
  let d := dxeD w
  let s := dxeS w
  let t := dxeT w
  let i := dxeImm w
  match (dxeOp w).toNat with
  | 0x00 => some .nop
  | 0x01 => some (.ld d t (dxeStep w))
  | 0x02 => some (.ld2 d t (dxeStep w))
  | 0x03 => some (.st t s (dxeStep w))
  | 0x04 => some (.ldi d i)
  | 0x05 => some (.ldih d i)
  | 0x06 => some (.mov d s)
  | 0x08 => some (.add d s t)
  | 0x09 => some (.sub d s t)
  | 0x0A => some (.addi d s i)
  | 0x0B => some (.and d s t)
  | 0x0C => some (.or d s t)
  | 0x0D => some (.xor d s t)
  | 0x0E => some (.sha d s i)
  | 0x0F => some (.mul d s t)
  | 0x10 => some (.cmp s t)
  | 0x11 => some (.cmpi s i)
  | 0x12 => some (.sat d s i)
  | 0x18 => some (.mac (d.extractLsb' 0 2) s t)
  | 0x19 => some (.cmac (d.extractLsb' 0 2) s t)
  | 0x1A => some (.aclr (d.extractLsb' 0 2) (i.extractLsb' 0 1))
  | 0x1B => some (.amov d (s.extractLsb' 0 2) (i.extractLsb' 0 6))
  | 0x20 => some (.popr d)
  | 0x21 => some (.rdcur d)
  | 0x22 => some (.cls d s (i.extractLsb' 0 8))
  | 0x23 => some (.outc s)
  | 0x24 => some (.trkw s t d)
  | 0x25 => some (.getm d)
  | 0x26 => some (.rdgt d)
  | 0x28 => some (.setb t s)
  | 0x29 => some (.setp t s)
  | 0x2A => some (.getp d t)
  | 0x30 => some (.branch (dxeCond w) (i.extractLsb' 0 12))
  | 0x31 => some (.call (i.extractLsb' 0 12))
  | 0x32 => some .ret
  | 0x33 => some .rts
  | 0x34 => some (.rpt (i.extractLsb' 0 16) (i.extractLsb' 16 8))
  | 0x35 => some (.rptr s (i.extractLsb' 16 8))
  | 0x36 => some (.setm (i.extractLsb' 0 3))
  | 0x37 => some .idle
  | 0x38 => some .halt
  | _ => none

/-- A word from its fields, as R175 lays them out. -/
def dxeWord (op : BitVec 8) (d s t : BitVec 4) (step : BitVec 8) (cond : BitVec 4) (imm : BitVec 32) : Word :=
  op ++ d ++ s ++ t ++ step ++ cond ++ imm

/-- The word of an instruction, every field it does not use 0. -/
def encodeDxe : DxeInstr → Word
  | .nop => dxeWord 0x00 0 0 0 0 0 0
  | .ld d b p => dxeWord 0x01 d 0 b p 0 0
  | .ld2 d b p => dxeWord 0x02 d 0 b p 0 0
  | .st b s p => dxeWord 0x03 0 s b p 0 0
  | .ldi d i => dxeWord 0x04 d 0 0 0 0 i
  | .ldih d i => dxeWord 0x05 d 0 0 0 0 i
  | .mov d s => dxeWord 0x06 d s 0 0 0 0
  | .add d s t => dxeWord 0x08 d s t 0 0 0
  | .sub d s t => dxeWord 0x09 d s t 0 0 0
  | .addi d s i => dxeWord 0x0A d s 0 0 0 i
  | .and d s t => dxeWord 0x0B d s t 0 0 0
  | .or d s t => dxeWord 0x0C d s t 0 0 0
  | .xor d s t => dxeWord 0x0D d s t 0 0 0
  | .sha d s i => dxeWord 0x0E d s 0 0 0 i
  | .mul d s t => dxeWord 0x0F d s t 0 0 0
  | .cmp s t => dxeWord 0x10 0 s t 0 0 0
  | .cmpi s i => dxeWord 0x11 0 s 0 0 0 i
  | .sat d s i => dxeWord 0x12 d s 0 0 0 i
  | .mac d s t => dxeWord 0x18 (d.zeroExtend 4) s t 0 0 0
  | .cmac d s t => dxeWord 0x19 (d.zeroExtend 4) s t 0 0 0
  | .aclr d a => dxeWord 0x1A (d.zeroExtend 4) 0 0 0 0 (a.zeroExtend 32)
  | .amov d s i => dxeWord 0x1B d (s.zeroExtend 4) 0 0 0 (i.zeroExtend 32)
  | .popr d => dxeWord 0x20 d 0 0 0 0 0
  | .rdcur d => dxeWord 0x21 d 0 0 0 0 0
  | .cls d s i => dxeWord 0x22 d s 0 0 0 (i.zeroExtend 32)
  | .outc s => dxeWord 0x23 0 s 0 0 0 0
  | .trkw s t k => dxeWord 0x24 k s t 0 0 0
  | .getm d => dxeWord 0x25 d 0 0 0 0 0
  | .rdgt d => dxeWord 0x26 d 0 0 0 0 0
  | .setb b s => dxeWord 0x28 0 s b 0 0 0
  | .setp b s => dxeWord 0x29 0 s b 0 0 0
  | .getp d b => dxeWord 0x2A d 0 b 0 0 0
  | .branch k a => dxeWord 0x30 0 0 0 0 k (a.zeroExtend 32)
  | .call a => dxeWord 0x31 0 0 0 0 0 (a.zeroExtend 32)
  | .ret => dxeWord 0x32 0 0 0 0 0 0
  | .rts => dxeWord 0x33 0 0 0 0 0 0
  | .rpt n l => dxeWord 0x34 0 0 0 0 0 ((0 : BitVec 8) ++ l ++ n)
  | .rptr s l => dxeWord 0x35 0 s 0 0 0 ((0 : BitVec 8) ++ l ++ (0 : BitVec 16))
  | .setm i => dxeWord 0x36 0 0 0 0 0 (i.zeroExtend 32)
  | .idle => dxeWord 0x37 0 0 0 0 0 0
  | .halt => dxeWord 0x38 0 0 0 0 0 0

end Sys2Proof.Machine
end

