-- ==== Sys2Proof/Machine/Flags.lean ====
section
/-!
DEFINITION. The flag computations of the discrimination engines (R176) and the branch conditions (R177).
-/

namespace Sys2Proof.Machine

/-- Z, N, C, V. -/
structure Flags where
  z : Bool
  n : Bool
  c : Bool
  v : Bool
  deriving DecidableEq, Repr

/-- The flags of an addition: C is the carry out of bit 63, V the signed overflow (R176). -/
def addFlags (a b : Word) : Flags :=
  let r := a + b
  { z := r == 0, n := r.msb, c := decide (2 ^ 64 ≤ a.toNat + b.toNat), v := a.msb == b.msb && r.msb != a.msb }

/-- The flags of a subtraction a + NOT b + 1: C is its carry out of bit 63, 1 when no borrow occurs (R176). -/
def subFlags (a b : Word) : Flags :=
  let r := a - b
  { z := r == 0, n := r.msb, c := decide (b.toNat ≤ a.toNat), v := a.msb != b.msb && r.msb != a.msb }

/-- The flags of the other flag setters: C and V are cleared (R176). -/
def logicFlags (r : Word) : Flags := { z := r == 0, n := r.msb, c := false, v := false }

/-- SFL's four bits: Z, N, C, V in bits 0 to 3. -/
def Flags.code (f : Flags) : Nat :=
  (if f.z then 1 else 0) + (if f.n then 2 else 0) + (if f.c then 4 else 0) + (if f.v then 8 else 0)

/-- The flags of SFL's four bits. -/
def Flags.ofCode (n : Nat) : Flags := { z := n.testBit 0, n := n.testBit 1, c := n.testBit 2, v := n.testBit 3 }

/-- Whether a branch condition holds; codes 10–15 name none (R177). -/
def condHolds (k : Nat) (f : Flags) : Option Bool :=
  match k with
  | 0 => some true
  | 1 => some f.z
  | 2 => some (!f.z)
  | 3 => some f.n
  | 4 => some (!f.n)
  | 5 => some f.c
  | 6 => some (!f.c)
  | 7 => some f.v
  | 8 => some (!f.z && f.n == f.v)
  | 9 => some (f.z || f.n != f.v)
  | _ => none

end Sys2Proof.Machine
end

