-- ==== Sys2Proof/Machine/Readout.lean ====
section
/-!
DEFINITION. The read-out input chain and the window integrator: channel samples (R118–R123), windows and their results
(R124–R126, R145–R149), the estimator and its switches (R127–R132), and the DAC-side calibration windows (R133–R137).
-/

namespace Sys2Proof.Machine

/-! ### ADC codes and the correction stage (R118, R120, R128, R132, R141) -/

/-- The modes in which the ADCs sample and the estimator runs (the mode table of chapter 05). -/
def sampling (c : Chip) : Bool :=
  inModes [.configure, .calibrate, .syncing, .ready, .run, .hold, .bench] c

/-- A channel's word lets its stream run: not off, and legal if it comes from a paired tone (R115, R121, R123). -/
def chRuns (ch : Nat) (c : Chip) : Bool :=
  on (P.rinRinEn (ch / 24)) c && sampling c && chWord ch c != 0 && ((pairOf ch c).isNone || rxLegal (chWord ch c))

/-- Hold a value to a range. -/
def clampI (lo hi x : Int) : Int := if x < lo then lo else if hi < x then hi else x

/-- s/n as a whole number; how a fraction is rounded is left open. -/
def wholeDiv (s : Int) (n : Nat) : Int :=
  if s % (n : Int) == 0 then s / (n : Int) else s / (n : Int) + (if Config.roundUp s n then 1 else 0)
def wholeOf (q : Rat) : Int := wholeDiv q.num q.den

/-- An input's estimator. -/
def estOf (r : Nat) (c : Chip) : Estimator := Tab.get c.rin.ests r Estimator.reset

/-- Put an input's estimator. -/
def setEst (r : Nat) (x : Estimator) (c : Chip) : Chip :=
  { c with rin := { c.rin with ests := Tab.put c.rin.ests r Estimator.reset x } }

/-- The internal path's gain, 20 dB ± 1 dB down: its square lies in [10^-2.1, 10^-1.9] (R455); a part outside that is none. -/
def loopGain (r : Nat) : Rat :=
  let g := Config.loopGain r
  if 891250938 / 10 ^ 10 ≤ g ∧ g ≤ 1122018454 / 10 ^ 10 then g else 1 / 10

/-- ADC sample s of input r, counted from tick count 0 as it leaves the ADC, in codes (R118). With BENCH_SRC = 1 it is what PRB port r
put into its stream 60 + PORT_DELAY ticks on its way to the pin, 2 in the path and 8 in the ADC earlier; a sine at DAC code ±8,191
and one at ADC code ±2,047 have the same power (R141, R450, R455). DESIGN CHOICE (log): the path takes every other DAC sample and no
part of a fine delay. -/
def adcCode (r s : Nat) (c : Chip) : Int :=
  let v := s / 12
  if on (P.rinBenchSrc r) c then
    let codes := (Tab.get c.syn.loop r []).getD (c.clk - 1 + 70 + rd (P.portPortDelay 4 r) c - v) []
    clampI (-2048) 2047 (wholeOf (loopGain r * (codes.getD (2 * (s % 12)) 0 : Rat) * 2047 / 8191))
  else sgn 12 (Config.adcSample r v (s % 12) (rd (P.rinRinFine r) c))

/-- The word of sub-ADC j in force as tick v enters the correction stage: that of before the first switch after it (R131, R132). -/
def setAt (r j v : Nat) (c : Chip) : Nat :=
  match ((estOf r c).switches.filter (fun x => decide (v < x.clk))).getLast? with
  | some x => x.old.getD j 0
  | none => rd (P.rinAppSet r j) c

/-- (x − offset) × (1 + gain) of sample s, by its sub-ADC's set (R128). -/
def scaled (r s : Nat) (c : Chip) : Rat :=
  let w := setAt r (s % 8) (s / 12) c
  ((adcCode r s c : Rat) - (sgn 16 (bits w 0 16) : Rat) / 16) * (1 + (sgn 16 (bits w 16 16) : Rat) / 2 ^ 20)

/-- Sample s after the correction stage: delayed by −skew (R128); the taps of a fractional delay are free values. -/
def corrected (r s : Nat) (c : Chip) : Rat :=
  let k := sgn 16 (bits (setAt r (s % 8) (s / 12) c) 32 16)
  if k == 0 then scaled r s c
  else ((List.range 17).map (fun d => Config.delayTap k d * scaled r (s + d - 8) c)).sum

/-! ### Channel samples (R115, R116, R118, R119, R132) -/

/-- HIGH: a word at or above 6 GHz (R115). -/
def inHigh (fw : Nat) : Bool := decide (2 ^ 46 ≤ fw)

/-- A frequency in units of 24 GHz / 2^48 against that of a channel: the offset at which a component appears in the channel's stream,
and whether it appears as its mirror, with its phase reversed (R116). -/
def seenAt (f fc : Nat) : Int × Bool :=
  if inHigh f == inHigh fc then ((fc : Int) - f, false) else (2 ^ 47 - (fc : Int) - f, true)

/-- Where 250 MS/s puts an offset: itself modulo 250 MHz, within ±125 MHz, in 1/96 of the unit of `seenAt` (R116). -/
def aliased (d : Int) : Int := (96 * d + 2 ^ 47) % 2 ^ 48 - 2 ^ 47

/-- The filter's power response at an offset: 1 at the channel frequency (R116, R119). -/
def chPower (d : Int) : Rat :=
  let turn (i : Nat) : Nat := toField 48 (2 * d * i) / 2 ^ 16
  let re := ((List.range 384).map (fun i => Config.chTap i * cosTurn (turn i))).sum
  let im := ((List.range 384).map (fun i => Config.chTap i * sinTurn (turn i))).sum
  re * re + im * im

/-- The mask of R116 on the taps: flat within ±0.1 dB up to ±100 MHz, at least 70 dB down from 150 MHz, falling between. 100 MHz is
2^48 / 240 units; a power within ±0.1 dB of 1 has its 100th power within a factor of 10. -/
def chMask : Prop :=
  (∀ d : Int, 240 * d.natAbs ≤ 2 ^ 48 → chPower d ^ 100 ≤ 10 ∧ 1 ≤ 10 * chPower d ^ 100) ∧
  (∀ d : Int, 2 ^ 48 ≤ 160 * d.natAbs → d.natAbs ≤ 2 ^ 46 → chPower d ≤ 1 / 10 ^ 7) ∧
  (∀ d e : Int, 2 ^ 48 ≤ 240 * d.natAbs → d.natAbs ≤ e.natAbs → 160 * e.natAbs ≤ 2 ^ 48 → chPower e ≤ chPower d)

/-- The channel oscillator's phase in 1/2^32 turn as ADC sample s, past the correction stage, is mixed (R118, R123). -/
def mixPhase (ch s : Nat) (c : Chip) : Nat :=
  let t := chTurn ch (s / 12 + 8) c
  (t.2 + 2 * t.1 * (s % 12)) % 2 ^ 48 / 2 ^ 16

/-- What the filter makes of the 384 corrected samples that entered the correction stage in ticks m − 39 to m − 8, mixed down: real
and imaginary part (R116, R132). In HIGH the channel mixes against the fold, at +θ, and conjugates the stream (R115). -/
def mixed (ch : Nat) (c : Chip) : Rat × Rat :=
  let s0 := 12 * (c.clk - 39)
  let sum (f : Nat → Rat) : Rat :=
    ((List.range 384).map (fun i => Config.chTap i * corrected (ch / 24) (s0 + i) c * f (mixPhase ch (s0 + i) c))).sum
  let re := sum cosTurn
  let im := sum sinTurn
  if inHigh (chWord ch c) then
    let high := (re, im)
    (high.1, -high.2)
  else (re, -im)

/-- The component a channel finds, before its limit (R119): 8 A × 2^RX_GAIN at the filter's gain, turned by −2π RX_PHASE / 2^32. -/
def chComponent (ch : Nat) (c : Chip) : Int × Int :=
  let z := mixed ch c
  let g : Rat := 16 * 2 ^ rd (P.rinRxGain (ch / 24) (ch % 24)) c
  let p := rd (P.rinRxPhase (ch / 24) (ch % 24)) c
  (wholeOf (g * (z.1 * cosTurn p + z.2 * sinTurn p)), wholeOf (g * (z.2 * cosTurn p - z.1 * sinTurn p)))

/-- The channel sample z that reaches the DXE in this tick, held to ±32,767 (R118, R119). -/
def chSample (ch : Nat) (c : Chip) : Int × Int :=
  if chRuns ch c then
    let z := chComponent ch c
    (clampI (-32767) 32767 z.1, clampI (-32767) 32767 z.2)
  else (0, 0)

/-- A component of this tick's sample lies beyond ±32,767 (R119). -/
def chBeyond (ch : Nat) (c : Chip) : Bool :=
  chRuns ch c && (decide (32767 < (chComponent ch c).1.natAbs) || decide (32767 < (chComponent ch c).2.natAbs))

/-! ### Engine memory (R150) -/

/-- The address of data word w of engine e. -/
def dataAddr (e w : Nat) : Nat := 0x01EC0000 + 0x20000 * e + 4 * (w % 32768)

/-- Word j of classifier entry t of engine e, from its SH fields (R165). -/
def clsWord (e t j : Nat) (c : Chip) : Nat :=
  if j < 3 then rd (P.dxeAxis e t j) c
  else if j < 6 then rd (P.dxeThr e t j) c
  else if j == 6 then rd (P.dxeMap e t) c
  else rd (P.dxeNax e t) c

/-- Data-memory word w of engine e: the classifier table lies in words 0x7800 up (R150). -/
def dataWord (e w : Nat) (c : Chip) : Nat :=
  let w := w % 32768
  if 0x7800 ≤ w then clsWord e ((w - 0x7800) / 8) (w % 8) c else leNat (memGet c.mem (dataAddr e w) 4)

/-! ### The integrator (R145) -/

/-- Bring a sum into an accumulator component of 56 bits. -/
def acc56 (x : Int) : Int := sgn 56 (toField 56 x)

/-- Add the product of the sample z that arrived in the last frame tick, with memory and buffer as they stand now. -/
def integrate (z : Int × Int) (c : Chip) (w : Window) : Window :=
  let e := w.ch / 12
  let b := w.ch % 12
  let len := rd (P.dxeCbLen e b) c
  if len == 0 then { w with idx := w.idx + 1 }
  else
    let k := dataWord e (rd (P.dxeCbBase e b) c + w.idx % len) c
    let ki := sgn 16 (bits k 0 16)
    let kq := sgn 16 (bits k 16 16)
    { w with accI := acc56 (w.accI + (z.1 * ki - z.2 * kq)), accQ := acc56 (w.accQ + (z.1 * kq + z.2 * ki)), idx := w.idx + 1 }

/-- The window takes the sample of frame tick m: it arrived in [start, stop) (R124). -/
def Window.takes (w : Window) (m : Nat) : Bool := decide (w.start ≤ m ∧ m < w.stop)

/-- What every window adds for the frame tick m that has just passed, whose samples are `zs`. -/
def integrateAll (m : Nat) (zs : Nat → Int × Int) (c : Chip) : Chip :=
  { c with rin := { c.rin with windows := c.rin.windows.map (fun w => if w.takes m then integrate (zs w.ch) c w else w) } }

/-! ### Windows (R124–R126, R145) -/

/-- The windows open on a channel: not yet closed. -/
def openOn (ch : Nat) (c : Chip) : List Window := c.rin.windows.filter (fun w => w.ch == ch && w.due.isNone)

/-- The last frame tick below an end GT (R146). -/
def lastFrame (stop : Nat) : Nat := (stop - 1) / 4 * 4

/-- An ACQ of length L opens a window on a channel in this tick (R124–R126, R145). ACQ_OVER and CONV mark the shot in progress (R205),
an illegal paired word the shot of the ACQ (R123). -/
def openWindow (sq shot ch len : Nat) (c : Chip) : Chip :=
  let r := ch / 24
  let live := (openOn ch c).filter (fun w => decide (c.tl.gt < w.stop))
  if 2 ≤ live.length then
    markNow sq Sf.acqOver (count (P.rinAcqOverCount r) (setFlag (P.rinAcqOver r) c))
  else
    let slot := if live.any (fun w => w.w == 0) then 1 else 0
    let conv := on (P.rinCalConverging r) c
    let recent := (estOf r c).switches.filter (fun x => decide (c.tl.gt < x.gt + 39))
    let illegal := match pairOf ch c with
      | some t => !rxLegal (toneOf t c).fw
      | none => false
    let w : Window :=
      { ch := ch, w := slot, start := c.tl.gt, stop := c.tl.gt + len, sq := sq, shot := shot, accI := 0, accQ := 0, idx := 0,
        stamp := commonTime (((c.tl.gt + 3) / 4 * 4 : Nat) * 256 - 48 * 256 - (rd (P.rinRinFine r) c : Nat)) c,
        kchg := false, sw := recent.getLast?.map (·.gt), conv := conv,
        aborted := false, due := none }
    let c1 := { c with rin := { c.rin with windows := c.rin.windows ++ [w] } }
    let c2 := if conv && on (P.rinConvInvalid r) c then markNow sq Sf.conv c1 else c1
    if illegal then markShot sq shot Sf.freq c2 else c2

/-- The window contains a mixed stretch (R132): it opened before n + 39, for the earliest such switch n, and closes after n + 8. -/
def Window.split (w : Window) : Bool :=
  match w.sw with
  | some n => decide (n + 8 < w.stop)
  | none => false

/-- Close a window at this tick: its slot is free, its entry is due at m_last + 6, and CAL_SPLIT is flagged (R132, R145,
R146). -/
def closeWindow (w : Window) (c : Chip) : Chip :=
  let r := w.ch / 24
  let w1 := { w with due := some (lastFrame w.stop + 6) }
  let c1 := { c with rin := { c.rin with windows := c.rin.windows.map (fun x => if x == w then w1 else x) } }
  if w.split then count (P.rinCalSplitCount r) (setFlag (P.rinCalSplit r) c1) else c1

/-- WINDOW_END: the window of engine e, channel c, slot w ends in this tick. -/
def windowEnd (e k w : Nat) (c : Chip) : Chip :=
  match c.rin.windows.find? (fun x => x.ch == 12 * e + k && x.w == w && x.due.isNone && x.stop == c.tl.gt) with
  | some x => closeWindow x c
  | none => c

/-- WINDOW_ABORT (R126, R147): every open window closes in this tick, marked aborted, as if this were its end GT. -/
def abortWindows (c : Chip) : Chip :=
  (c.rin.windows.filter (fun w => w.due.isNone)).foldl (fun c w =>
    let w1 := { w with stop := c.tl.gt, aborted := true }
    closeWindow w1 { c with rin := { c.rin with windows := c.rin.windows.map (fun x => if x == w then w1 else x) } }) c

/-! ### Results (R146–R149) -/

/-- An engine's processor state. -/
def engOf (e : Nat) (c : Chip) : Engine := Tab.get c.dx.eng e Engine.reset

/-- Put an engine's processor state. -/
def setEng (e : Nat) (x : Engine) (c : Chip) : Chip :=
  { c with dx := { c.dx with eng := Tab.put c.dx.eng e Engine.reset x } }

/-- The result of a window: its accumulator shifted by RSHIFT and saturated to 32 bits (R146). -/
def resultOf (w : Window) (c : Chip) : Result :=
  let s := rd (P.dxeRshift (w.ch / 12) (w.ch % 12)) c
  let i := w.accI / (2 ^ s : Nat)
  let q := w.accQ / (2 ^ s : Nat)
  { c := w.ch % 12, w := w.w, i := satS 32 i, q := satS 32 q, aborted := w.aborted, kchg := w.kchg, split := w.split,
    conv := w.conv, sat := satS 32 i != i || satS 32 q != q, endGt := w.stop, sq := w.sq, entered := c.clk }

/-- Write one result entry: into the queue, or discarded when it is full; offered as a point either way (R148, R149). -/
def writeResult (e : Nat) (w : Window) (c : Chip) : Chip :=
  let x := engOf e c
  let r := resultOf w c
  let c0 := { c with rin := { c.rin with windows := c.rin.windows.filter (fun y => y != w) } }
  if x.queue.length < 32 then offerPoint e r false (setEng e { x with queue := x.queue ++ [r] } c0)
  else
    offerPoint e r true (markNow w.sq Sf.resqOver (countT (P.dxeResqOverCount e) (176 + e) (setFlag (P.dxeResqOver e) c0)))

/-- The windows of engine e whose entries are due in this tick, by ascending channel, then slot (R146). -/
def dueResults (e : Nat) (c : Chip) : List Window :=
  (List.range 24).flatMap (fun k => c.rin.windows.filter (fun w =>
    w.ch == 12 * e + k / 2 && w.w == k % 2 && w.due == some c.tl.gt))

/-- RESULT_ENTRY. -/
def resultEntry (e : Nat) (c : Chip) : Chip := (dueResults e c).foldl (fun c w => writeResult e w c) c

/-! ### The estimator (R120, R127–R130) -/

/-- The input's ADC samples, and its estimator runs (R121 and the mode table). -/
def adcRuns (r : Nat) (c : Chip) : Bool := on (P.rinRinEn r) c && sampling c

/-- An overrange code (R120). -/
def overCode (x : Int) : Bool := x == -2048 || x == 2047

/-- An input's ADC takes the 12 samples of this tick (R120, R127): ADC_OVR and its count, and the block of 4,096 samples under way,
which may end among them. -/
def adcTick (c : Chip) (r : Nat) : Chip :=
  let x := estOf r c
  match x.from_ with
  | none => c
  | some t =>
    let n := 12 * (c.clk - t)
    let hits (a b : Nat) : Bool := (List.range (b - a)).any (fun i => overCode (adcCode r (12 * c.clk + a + i) c))
    let cut := 4096 - n % 4096
    let c1 := if hits 0 12 then countT (P.rinAdcOvrCount r) (152 + r) (setFlag (P.rinAdcOvr r) c) else c
    if cut ≤ 12 then setEst r { x with ended := some (x.ovr || hits 0 cut), ovr := hits cut 12 } c1
    else setEst r { x with ended := none, ovr := x.ovr || hits 0 12 } c1

/-- Every input's ADC at the start of a tick. -/
def adcStep (c : Chip) : Chip := (c.rin.ests.map (·.1)).foldl adcTick c

/-- The ADCs that begin to sample in this tick, and those that stop (R121): a block that is cut off is lost. -/
def adcPower (c : Chip) : Chip :=
  (List.range 12).foldl (fun c r =>
    let x := estOf r c
    if adcRuns r c then
      if x.from_.isSome then c else adcTick (setEst r { x with from_ := some c.clk, ovr := false, ended := none } c) r
    else if x.from_.isNone && x.ended.isNone then c
    else setEst r { x with from_ := none, ovr := false, ended := none } c) c

/-- The mean of a list, in whole units. -/
def estMean (l : List Int) : Int := if l.isEmpty then 0 else wholeDiv l.sum l.length

/-- The estimate of sub-ADC j, the mean over the last n blocks that updated it: offset, gain, skew, and whether it was clamped (R128).
DESIGN CHOICE (log): the gain's limit of +3.125 % does not fit its 16 bits, and the model clamps to the largest value that does. -/
def estimate (hist : List (List (Int × Int))) (skews : List (List Int)) (n j : Nat) : (Int × Int × Int) × Bool :=
  let all := (hist.take n).filterMap (fun e => e[j]?)
  let o := estMean (all.map (·.1))
  let g := estMean (all.map (·.2))
  let k := estMean ((skews.take n).filterMap (fun e => e[j]?))
  let o1 := clampI (-2048) 2048 o
  let g1 := clampI (-32768) 32767 g
  let k1 := clampI (-32767) 32767 k
  ((o1, g1, k1), o1 != o || g1 != g || k1 != k)

/-- A set's 48 bits: offset, gain, skew (R142, APP_SET). -/
def setWord (x : Int × Int × Int) : Nat := toField 16 x.1 + toField 16 x.2.1 * 2 ^ 16 + toField 16 x.2.2 * 2 ^ 32

/-- Show the estimate in EST_OFFSET, EST_GAIN and EST_SKEW. -/
def showEstimate (r : Nat) (es : List ((Int × Int × Int) × Bool)) (c : Chip) : Chip :=
  (List.range 8).foldl (fun c j =>
    match es[j]? with
    | some ((o, g, k), _) => wrS (P.rinEstSkew r j) k (wrS (P.rinEstGain r j) g (wrS (P.rinEstOffset r j) o c))
    | none => c) c

/-- The block that ends in this tick has a sample in a pause (R127, R433). -/
def blockPaused (r : Nat) (c : Chip) : Bool :=
  match (estOf r c).from_ with
  | none => false
  | some t =>
    let first := (12 * (c.clk - t) + 12) / 4096 * 4096 - 4096
    (List.range (c.clk - t - first / 12 + 1)).any (fun k => decide (k ≤ c.tl.gt ∧ (c.tl.gt - k) % 1024 < c.th.pause))

/-- A block that updates the estimate: the means, EST_RANGE and the EST fields (R127, R128). -/
def estUpdate (r : Nat) (b : EstBlock) (c : Chip) : List ((Int × Int × Int) × Bool) × Chip :=
  let x := estOf r c
  let hist := (b.est.map (fun e => (e.1, e.2.1)) :: x.hist).take 4096
  let skews := if b.skewBlind then x.skews else (b.est.map (·.2.2) :: x.skews).take 4096
  let es := (List.range 8).map (estimate hist skews (2 ^ rd (P.rinEstAvg r) c))
  (es, showEstimate r es (setFlagIf (es.any (·.2)) (P.rinEstRange r) (setEst r { x with hist := hist, skews := skews } c)))

/-- A counted block (R129, R130): convergence, EST_BLOCKS, and with enough of them a complete estimate, which SW_MODE BOUNDARY brings
into force at the next tick or, in RUN, at a boundary. -/
def estCount (r : Nat) (es : List (Int × Int × Int)) (c : Chip) : Chip :=
  let x := estOf r c
  let conv := min 1048576 (rd (P.rinConvSamples r) c + 4096)
  let since := x.since + 1
  let done := if on (P.rinCalConverging r) c then conv == 1048576 else decide (2 ^ rd (P.rinEstAvg r) c ≤ since)
  setEst r (if done then { x with since := 0, latest := some es, waiting := none, autoAt := some (c.clk + 1) } else { x with since := since })
    (wr (P.rinConvSamples r) conv (countT (P.rinEstBlocks r) (164 + r) c))

/-- ESTIMATOR_BLOCK (R127–R130): a block of 4,096 samples of input r ends in this tick. -/
def estimatorBlock (r : Nat) (b : EstBlock) (c : Chip) : Chip :=
  match (estOf r c).ended with
  | none => c
  | some bad =>
    let c0 := setEst r { estOf r c with ended := none } c
    if blockPaused r c then c0
    else if decide (b.rms < rd (P.rinEstMin r) c) || bad then count (P.rinEstReject r) c0
    else
      let u := estUpdate r b c0
      if b.skewBlind then count (P.rinEstReject r) (setFlag (P.rinSkewBlind r) u.2)
      else estCount r (u.1.map (·.1)) u.2

/-- CAL_CONVERGING clears at the first tick boundary after CONV_SAMPLES reaches 2^20 (R129). -/
def convergeStep (c : Chip) : Chip :=
  (List.range 12).foldl (fun c r =>
    if on (P.rinCalConverging r) c && rd (P.rinConvSamples r) c == 1048576 then wr (P.rinCalConverging r) 0 c else c) c

/-- Convergence restarts (R129): at entry to CONFIGURE from STANDBY. -/
def convergeRestart (c : Chip) : Chip :=
  (List.range 12).foldl (fun c r =>
    wr (P.rinConvSamples r) 0 (wr (P.rinCalConverging r) 1 (setEst r { estOf r c with since := 0 } c))) c

/-! ### Switches (R130–R132) -/

/-- Switch input r to the latest complete estimate as it stood at the start of this tick; false if there is none, or the ADC does not
sample (R131 and the mode table). -/
def switchNow (r : Nat) (c : Chip) : Bool × Chip :=
  let x := estOf r c
  if x.lastAt == some c.clk then (true, c)
  else match x.prior with
  | none => (false, c)
  | some es =>
    if !sampling c then (false, c) else
    let old := (List.range 8).map (fun j => rd (P.rinAppSet r j) c)
    let past := x.switches.filter (fun y => decide (c.clk < y.clk + 512))
    let c1 := setEst r { x with waiting := none, lastAt := some c.clk, switches := { gt := c.tl.gt, clk := c.clk, old := old } :: past } c
    let c2 := (List.range 8).foldl (fun c j => match es[j]? with
      | some s => wr (P.rinAppSet r j) (setWord s) c
      | none => c) c1
    let c3 := wr (P.rinLastSwitchGt r) c.tl.gt c2
    (true, { c3 with rin := { c3.rin with windows := c3.rin.windows.map (fun w =>
      if w.ch / 24 == r && w.due.isNone && w.sw.isNone then { w with sw := some c.tl.gt } else w) } })

/-- The switches of input r due in this tick (R53, R130, R131): the scheduled ones, that of GT 0, and that of SW_MODE BOUNDARY, which
in RUN waits for the first shot boundary after this tick. They act as one, and each scheduled one is answered. -/
def calSwitch (r : Nat) (c : Chip) : Chip :=
  let mine (e : Sched) : Bool := e.act == .calSwitch r && e.gt == c.tl.gt
  let due := c.tl.sched.filter mine
  let x := estOf r c
  let soon := x.soonAt == some c.clk
  let auto := x.autoAt == some c.clk && on (P.rinSwMode r) c
  let wait := auto && c.md.mode == .run
  let c1 := { c with tl := { c.tl with sched := c.tl.sched.filter (fun e => !mine e) } }
  let c2 := if soon || auto then
      setEst r { x with soonAt := if soon then none else x.soonAt, autoAt := none, waiting := if wait then some c.clk else x.waiting } c1
    else c1
  let done := if soon || (auto && !wait) || due.any (fun e => schedKeeps e c) then switchNow r c2 else (true, c2)
  due.foldl (fun d e =>
    finish e.issuer (if !schedKeeps e c then St.notAligned else if done.1 then St.ok else St.calNotReady) [] d) done.2

/-- The switches that wait for a shot boundary (R130). -/
def switchAtBoundary (c : Chip) : Chip :=
  (List.range 12).foldl (fun c r =>
    match (estOf r c).waiting with
    | some t => if t < c.clk && on (P.rinSwMode r) c then (switchNow r c).2 else c
    | none => c) c

/-! ### DAC-side calibration windows (R133–R137) -/

/-- DCAL_DONE of a global port. -/
def dcalDone (k : Nat) : Field := P.calpDcalDone (calInst k)

/-- A pass of the port is in progress: some of its 16 windows are done (R133, R136). -/
def passOpen (k : Nat) (c : Chip) : Bool := decide (0 < rd (dcalDone k) c ∧ rd (dcalDone k) c < 16)

/-- A port is due: a pass in progress, none completed since power-up, or DCAL_INTERVAL over (R133). -/
def calDue (k : Nat) (c : Chip) : Bool :=
  passOpen k c ||
  match Tab.find c.rin.passAt k with
  | none => true
  | some t => decide (t + rd P.calDcalInterval c * 1000000000 ≤ c.clk)

/-- Sense receivers busy at some time of [n, n + 2048). -/
def receiversBusy (n : Nat) (c : Chip) : Nat :=
  (c.rin.gaps.filter (fun g => g.taken && decide (g.start < n + 2048 ∧ n < g.start + 2048))).length

/-- CALW_TAKE for one named port at the commit point of a CALW slot at GT n (R133, R434). -/
def calwTake (sq n : Nat) (c : Chip) (k : Nat) : Chip :=
  let (b, p) := portOfNo k
  let take := on P.calDcalEn c && on (portEn b p) c && calDue k c && decide (receiversBusy n c < 4) &&
    rd W.thrLevel c == 0
  let g : Gap := { port := k, start := n, taken := take, sq := some sq, spoiled := false }
  { c with rin := { c.rin with gaps := c.rin.gaps ++ [g] } }

/-- A clash (R135): the flag, its count, and the shot of the CALW's sequencer. -/
def calwClash (t : Target) (c : Chip) : Chip :=
  markTarget t Sf.calwClash (count P.calCalwClashCount (setFlag P.calCalwClash c))

/-- The targets of a global port. -/
def targetsOf (k : Nat) : List Target :=
  let (b, p) := portOfNo k
  if b == 5 then [.flx (Fin.ofNat 24 p)]
  else (List.range (if b == 3 then 8 else 24)).map (fun t => mkTone b p t)

/-- CALW_CLASH at the CALW's commit point: shelves latched before it that are in play inside the gap (R135). DESIGN CHOICE (log): the
count rises once for each shelf and gap that clash, here for a shelf latched before the gap, and by `clashAtStart` for a later one. -/
def clashAtCommit (n k : Nat) (c : Chip) : Chip :=
  (targetsOf k).foldl (fun c t =>
    (laneOf t c).plays.foldl (fun c p =>
      if !p.silent && decide (p.latched < c.tl.gt ∧ p.start < n + 2048 ∧ n < p.stop) then calwClash t c else c) c) c

/-- CALW_CLASH at a shelf's start: the shelf was latched in or after the tick that declared the gap (R135). -/
def clashAtStart (t : Target) (p : Play) (c : Chip) : Chip :=
  let (b, n) := tgtPort t
  if !p.silent && c.rin.gaps.any (fun g => g.port == portNo b n && g.sq.isSome &&
      decide (g.start ≤ p.latched + 16 ∧ p.start < g.start + 2048 ∧ g.start < p.stop)) then calwClash t c
  else c

/-- CALW_GAP (R134, R137): a taken gap on a port begins in this tick; in CALIBRATE the engine opens its own. -/
def calwGap (k : Nat) (c : Chip) : Chip :=
  if c.rin.gaps.any (fun g => g.port == k && g.taken && g.start == c.tl.gt) then
    let c1 := if rd (dcalDone k) c == 16 then wr (dcalDone k) 0 c else c
    count P.calWindowsTaken c1
  else if c.md.mode == .calibrate && (c.rin.calTodo.take 4).contains k && c.md.trans.isNone && rd W.thrLevel c != 4 &&
      !c.pw.forcedZero && !c.rin.gaps.any (fun g => g.port == k && decide (c.tl.gt < g.start + 2048)) then
    let g : Gap := { port := k, start := c.tl.gt, taken := true, sq := none, spoiled := false }
    let c1 := if rd (dcalDone k) c == 16 then wr (dcalDone k) 0 c else c
    count P.calWindowsTaken { c1 with rin := { c1.rin with gaps := c1.rin.gaps ++ [g] } }
  else c

/-- The pass of a port ends in this tick with a result (R136, R137). DESIGN CHOICE (log): a pass that fails is not the port's last
completed pass, from which R133 counts DCAL_INTERVAL. -/
def passEnd (k : Nat) (pass : Bool) (c : Chip) : Chip :=
  let c1 := { c with rin := { c.rin with calTodo := c.rin.calTodo.filter (· != k) } }
  if pass then
    let c2 := wr (P.calpDcalSrc (calInst k)) 1 (wr (P.calpDcalLastGt (calInst k)) c.tl.gt (wr (dcalDone k) 16 c1))
    { c2 with rin := { c2.rin with passAt := Tab.ins c2.rin.passAt k c.clk, dacSet := Tab.ins c2.rin.dacSet k 2 } }
  else
    let c2 := setFlag (P.calpDcalBad (calInst k)) (wr (dcalDone k) 0 c1)
    setFlagIf (c.md.mode == .calibrate) W.calFailed c2

/-- CALW_WINDOW_END (R134, R136): a taken window of the port ends in this tick; the 16th completes the pass, which `pass`
tells the result of. -/
def calwWindowEnd (k : Nat) (pass : Bool) (c : Chip) : Chip :=
  match c.rin.gaps.find? (fun g => g.port == k && g.taken && g.start + 2048 == c.tl.gt) with
  | none => c
  | some g =>
    let c1 := { c with rin := { c.rin with gaps := c.rin.gaps.filter (· != g) } }
    if g.spoiled then c1
    else
      let n := rd (dcalDone k) c1 + 1
      if n == 16 then passEnd k pass c1 else wr (dcalDone k) n c1

/-! ### Commands -/

def execWindowEnd (e : Fin 24) (c : Fin 12) (w : Fin 2) (s : State) : Host.Outcome State Fault Refusal :=
  onChip (windowEnd e.val c.val w.val) s

def execResultEntry (e : Fin 24) (s : State) : Host.Outcome State Fault Refusal := onChip (resultEntry e.val) s

def execEstimatorBlock (r : Fin 12) (blk : EstBlock) (s : State) : Host.Outcome State Fault Refusal :=
  onChip (estimatorBlock r.val blk) s

def execCalSwitch (r : Fin 12) (s : State) : Host.Outcome State Fault Refusal := onChip (calSwitch r.val) s

def execCalwGap (p : Port) (s : State) : Host.Outcome State Fault Refusal := onChip (calwGap (portOp p)) s

def execCalwWindowEnd (p : Port) (pass : Bool) (s : State) : Host.Outcome State Fault Refusal :=
  onChip (calwWindowEnd (portOp p) pass) s

end Sys2Proof.Machine
end

