-- ==== Sys2Proof/Machine/Groups.lean ====
section
/-!
DEFINITION. Parameter groups (R381) and the whole value of a parameter (R7).
-/

namespace Sys2Proof.Machine

/-- The SH fields of a parameter. -/
def shFields (id : Nat) : List Row := (fieldsOf id).filter (fun r => r.acc == .sh)

/-- The group kinds of R381. -/
inductive GroupKind where
  | port | tone | offset | shaping | bias | channel | classifier | bind | decision
  deriving DecidableEq, Repr

/-- The kind of the group a parameter with SH fields belongs to, and which one of its kind: block and instance. -/
def groupOfId (id : Nat) : Option (GroupKind × Nat) :=
  if (shFields id).isEmpty then none
  else
    let b := id / 2 ^ 24
    let i := id / 2 ^ 12 % 2 ^ 12
    let k := id % 2 ^ 12
    match b with
    | 3 => some (if k < 0x100 then .port else .tone, 3 * 4096 + i)
    | 4 => some (if k < 0x100 then .port else .tone, 4 * 4096 + i)
    | 5 => some (if k == 4 then .offset else .shaping, i)
    | 6 => some (.bias, 0)
    | 7 => some (.channel, i)
    | 8 => some (.classifier, i)
    | 2 => some (.bind, 0)
    | 9 => some (.decision, 0)
    | _ => none

/-- A number for each kind, for the key of a group. -/
def GroupKind.code : GroupKind → Nat
  | .port => 0 | .tone => 1 | .offset => 2 | .shaping => 3 | .bias => 4 | .channel => 5 | .classifier => 6 | .bind => 7
  | .decision => 8

/-- The key of a group. -/
def groupKey (g : GroupKind × Nat) : Nat := g.1.code * 2 ^ 16 + g.2

/-- The group may be placed in ADAPT (R381). -/
def mayAdapt (g : GroupKind × Nat) : Bool :=
  match g.1 with
  | .tone => g.2 / 4096 == 4
  | .offset | .channel | .classifier => true
  | _ => false

/-- The group of a parameter is in ADAPT. -/
def inAdapt (id : Nat) (c : Chip) : Bool :=
  match groupOfId id with
  | some g => c.mb.adapt.contains (groupKey g)
  | none => false

/-- A decision entry's parameter (R238): the entry itself lies in SRAM, where bulk-port writes reach it too (R221, R224). -/
def isDecEntry (id : Nat) : Bool := decide (0x09100000 ≤ id ∧ id < 0x09110000)

/-- The address of decision entry e (R15). -/
def entryAddr (e : Nat) : Nat := 0x02A00000 + 4 * (e % 65536)

/-- Decision entry e (R221). -/
def entryOf (e : Nat) (c : Chip) : Nat := leNat (memGet c.mem (entryAddr e) 4)

/-- What the stored fields of a parameter hold, as one value. -/
def storedValue (id : Nat) (c : Chip) : Nat :=
  if isDecEntry id then entryOf (id - 0x09100000) c % 2 ^ 18 else
  (fieldsOf id).foldl (fun n r => if r.acc == .wo then n else n + rd r.f c * 2 ^ r.f.lo) 0

/-- Write the bits of a value that a mask covers into the stored fields of a parameter that pass a test. -/
def storeValue (id value mask : Nat) (p : Row → Bool) (c : Chip) : Chip :=
  if isDecEntry id then
    let old := entryOf (id - 0x09100000) c
    let m := mask % 2 ^ 18
    { c with mem := memPut c.mem (entryAddr (id - 0x09100000)) (leBytes 4 (old - (old &&& m) + (value &&& m))) }
  else (fieldsOf id).foldl (fun c r =>
    if p r then
      let m := bits mask r.f.lo r.f.w
      let v := bits value r.f.lo r.f.w
      if m == 0 then c else wr r.f (rd r.f c - (rd r.f c &&& m) + (v &&& m)) c
    else c) c

/-- Keep a classifier entry for the rest of the tick, before a write to it (R166). -/
def keepCls (e t : Nat) (c : Chip) : Chip :=
  match Tab.find c.dx.clsOld (256 * e + t) with
  | some _ => c
  | none => { c with dx := { c.dx with clsOld := Tab.ins c.dx.clsOld (256 * e + t) ((List.range 8).map (fun j => clsWord e t j c)) } }

/-- Word j of classifier entry t as it stood at the start of this tick (R166). -/
def clsAt (e t j : Nat) (c : Chip) : Nat :=
  match Tab.find c.dx.clsOld (256 * e + t) with
  | some l => l.getD j 0
  | none => clsWord e t j c

end Sys2Proof.Machine
end

