-- ==== Sys2Proof/Machine/Operands.lean ====
section
/-!
DEFINITION. The operand forms of the discrimination engines: registers, halves and pairs, and circular buffers (R152, R153).
-/

namespace Sys2Proof.Machine

/-- General register Gn. -/
def gReg (x : Engine) (n : BitVec 4) : Word := Tab.get x.g n.toNat 0

/-- Accumulator An. -/
def aReg (x : Engine) (n : BitVec 2) : BitVec 56 := Tab.get x.a n.toNat 0

/-- Pointer Pb as stored. -/
def pReg (x : Engine) (b : BitVec 4) : Nat := Tab.get x.p b.toNat 0

/-- The flags as an instruction that issues now sees them. -/
def flagsOf (x : Engine) : Flags := { z := x.fz, n := x.fn, c := x.fc, v := x.fv }

/-- Gs[31:0], signed. -/
def low32 (w : Word) : Int := (w.extractLsb' 0 32).toInt

/-- Gs[63:32], signed. -/
def high32 (w : Word) : Int := (w.extractLsb' 32 32).toInt

/-- Gs[15:0], signed. -/
def low16 (w : Word) : Int := (w.extractLsb' 0 16).toInt

/-- Gs[31:16], signed. -/
def mid16 (w : Word) : Int := (w.extractLsb' 16 16).toInt

/-- LEN of circular buffer b of engine e. -/
def cbLen (e : Nat) (b : BitVec 4) (c : Chip) : Nat := rd (P.dxeCbLen e b.toNat) c

/-- Step 1 of R153: Pb reduced modulo LEN. -/
def ptrIn (e : Nat) (x : Engine) (b : BitVec 4) (c : Chip) : Nat :=
  if cbLen e b c ≤ pReg x b then pReg x b % cbLen e b c else pReg x b

/-- Step 2 of R153: the data word that offset o of buffer b names. -/
def cbWord (e : Nat) (b : BitVec 4) (o : Nat) (c : Chip) : Nat := (rd (P.dxeCbBase e b.toNat) c + o) % 32768

/-- Step 3 of R153: the pointer after a signed step, in 0 to LEN − 1. -/
def ptrNext (e : Nat) (x : Engine) (b : BitVec 4) (step : BitVec 8) (c : Chip) : Nat :=
  (((ptrIn e x b c : Int) + step.toInt) % (cbLen e b c : Int)).toNat

end Sys2Proof.Machine
end

