-- ==== Sys2Proof/Machine/Dxe.lean ====
section
/-!
DEFINITION. The discrimination engines' program processor (R152–R178): issue, faults, service requests, each instruction, the
tracking writes (R168–R170) and the integrator's LEN_ZERO (R155).
-/

namespace Sys2Proof.Machine

/-! ### Issue -/

/-- The instruction word at address j of engine e's program memory (R150). -/
def progWord (e j : Nat) (c : Chip) : Word := BitVec.ofNat 64 (leNat (memGet c.mem (0x01E00000 + 0x8000 * e + 8 * j) 8))

/-- The modes in which a program runs and requests are raised (R178). -/
def dxeMode (c : Chip) : Bool := sampling c

/-- The program of engine e runs. -/
def dxeRuns (e : Nat) (c : Chip) : Bool := on (P.dxeDxeRun e) c && dxeMode c

/-- Request k is pending: 0 RESULT, 1 HOST, 2 TICK (R160). -/
def reqPending (x : Engine) (k : Nat) : Bool :=
  if k == 0 then !x.queue.isEmpty else if k == 1 then x.hostSince.isSome else x.tickSince.isSome

/-- The request that would be taken: the first pending one whose mask bit is 1. -/
def reqDue (x : Engine) : Option Nat := (List.range 3).find? (fun k => bitAt x.srm k && reqPending x k)

/-- R161: a request is accepted in this tick. -/
def accepts (e : Nat) (c : Chip) : Option Nat :=
  let x := engOf e c
  if dxeRuns e c && !x.handler && x.reps.isEmpty && x.xfer.isNone && decide (x.issueAt ≤ c.clk) then reqDue x else none

/-- An instruction is due to issue in this tick. -/
def dxeReady (e : Nat) (c : Chip) : Bool :=
  dxeRuns e c && !(engOf e c).idle && decide ((engOf e c).issueAt ≤ c.clk) && (accepts e c).isNone

/-- The instruction due to issue in this tick, if one is and its word is one. -/
def dxeDue (e : Nat) (c : Chip) : Option DxeInstr :=
  if dxeReady e c && decide ((engOf e c).pc < 4096) then decodeDxe (progWord e (engOf e c).pc c) else none

/-- Queue results for the tick in which they can first be read, and no instruction before the next tick (R157). -/
def dxeLate (e : Nat) (l : List Late) (c : Chip) : Chip :=
  let x := engOf e c
  setEng e { x with late := x.late ++ l, issueAt := c.clk + 1 } c

/-- The address after the one at `a`, and the repeats still active (R159). -/
def repNext (a : Nat) : List Rep → Nat × List Rep
  | [] => (a + 1, [])
  | r :: rs =>
    if r.last == a then
      if 1 < r.left then (r.first, { r with left := r.left - 1 } :: rs) else repNext a rs
    else (a + 1, r :: rs)

/-- Move past the instruction at the program counter: the second delay slot makes the transfer, a block's last instruction
its next pass (R158, R159, R161). -/
def dxeAdvance (x : Engine) : Engine :=
  match x.xfer with
  | some t =>
    if t.slots ≤ 1 then
      { x with xfer := none, pc := t.target.getD (x.pc + 1), handler := if t.rts then false else x.handler }
    else { x with xfer := some { t with slots := t.slots - 1 }, pc := x.pc + 1 }
  | none => let n := repNext x.pc x.reps; { x with pc := n.1, reps := n.2 }

/-! ### Faults (R173) -/

/-- A DXE fault: the engine stops at the faulting instruction, which does not issue; in RUN the Crivon goes to HOLD. -/
def dxeFault (e code : Nat) (c : Chip) : Chip :=
  let x := engOf e c
  if x.faultAt == some c.clk then (if code < rd (P.dxeFaultCode e) c then wr (P.dxeFaultCode e) code c else c)
  else
    faultEntry (raise (0xCC + e) (wr (P.dxeDxeRun e) 0 (wr (P.dxeFaultPc e) x.pc (wr (P.dxeFaultCode e) code
      (setFlag (P.dxeDxeFault e) (setEng e { x with faultAt := some c.clk, xfer := none, idle := false } c))))))

/-- The address of a buffer's access meets LEN 0. -/
def lenZero (e : Nat) (b : BitVec 4) (c : Chip) : Bool := cbLen e b c == 0

/-- LEN of a repeat: 0 means 256 (R176). -/
def repLen (l : BitVec 8) : Nat := if l == 0 then 256 else l.toNat

/-- The faults a repeat meets. -/
def rptFaults (x : Engine) (len : Nat) : List Nat :=
  (if 4 ≤ x.reps.length then [0x04] else []) ++
  (match x.reps with
   | r :: _ => if r.last < x.pc + len then [0x05] else []
   | [] => [])

/-- A control transfer's faults: a delay slot, an active repeat. -/
def xferFaults (x : Engine) : List Nat :=
  (if x.xfer.isSome then [0x03] else []) ++ (if x.reps.isEmpty then [] else [0x06])

/-- The causes of a fault that an instruction meets (R173). -/
def dxeFaults (e : Nat) (i : DxeInstr) (c : Chip) : List Nat :=
  let x := engOf e c
  let slot := if x.xfer.isSome then [0x03] else []
  match i with
  | .ld _ b _ | .ld2 _ b _ => if lenZero e b c then [0x07] else []
  | .st b _ _ =>
    if lenZero e b c then [0x07] else if 0x7800 ≤ cbWord e b (ptrIn e x b c) c then [0x08] else []
  | .cmac d _ _ => if d.toNat % 2 == 1 then [0x01] else []
  | .trkw _ _ k => if 8 ≤ k.toNat then [0x01] else []
  | .setb _ s => if 32768 < bits (gReg x s).toNat 16 16 then [0x09] else []
  | .branch k _ => (if 10 ≤ k.toNat then [0x02] else []) ++ xferFaults x
  | .call _ => xferFaults x
  | .ret => xferFaults x ++ (if x.lk.isNone then [0x0A] else [])
  | .rts => xferFaults x ++ (if x.handler then [] else [0x0A])
  | .rpt _ l => slot ++ rptFaults x (repLen l)
  | .rptr _ l => slot ++ rptFaults x (repLen l)
  | .idle | .halt => slot
  | _ => []

/-- Issue an instruction of engine e if it is the one due in this tick and a test admits it: it meets a fault, or has its
effect and the engine moves on. -/
def dxeIssue (e : Nat) (p : DxeInstr → Bool) (eff : DxeInstr → Chip → Chip) (c : Chip) : Chip :=
  match dxeDue e c with
  | none => c
  | some i =>
    if p i then
      match (dxeFaults e i c).min? with
      | some code => dxeFault e code c
      | none => eff i c
    else c

/-- The common shape: results in `l` ticks, then the next address. -/
def dxeDone (e : Nat) (l : List Late) (c : Chip) : Chip :=
  let c1 := dxeLate e l c
  setEng e (dxeAdvance (engOf e c1)) c1

/-- One result of latency n. -/
def lateIn (n : Nat) (d : Dest) (c : Chip) : Late := { due := c.clk + n, dest := d }

/-- A value for Gd in n ticks. -/
def lateG (n : Nat) (d : BitVec 4) (v : Word) (c : Chip) : Late := lateIn n (.g d.toNat v) c

/-- Flags for the next tick. -/
def lateF (f : Flags) (c : Chip) : Late := lateIn 1 (.flags f.z f.n f.c f.v) c

/-- A pointer for the next tick. -/
def lateP (b : BitVec 4) (v : Nat) (c : Chip) : Late := lateIn 1 (.ptr b.toNat v) c

/-! ### Memory and moves -/

/-- Sign-extend a 32-bit number to a register. -/
def sx32 (v : Nat) : Word := (BitVec.ofNat 32 v).signExtend 64

def effLd (e : Nat) (i : DxeInstr) (c : Chip) : Chip :=
  let x := engOf e c
  match i with
  | .ld d b p => dxeDone e [lateG 2 d (sx32 (dataWord e (cbWord e b (ptrIn e x b c) c) c)) c, lateP b (ptrNext e x b p c) c] c
  | _ => c

def effLd2 (e : Nat) (i : DxeInstr) (c : Chip) : Chip :=
  let x := engOf e c
  match i with
  | .ld2 d b p =>
    let o := ptrIn e x b c
    let lo := dataWord e (cbWord e b o c) c
    let hi := dataWord e (cbWord e b ((o + 1) % cbLen e b c) c) c
    dxeDone e [lateG 2 d (BitVec.ofNat 64 (lo + hi * 2 ^ 32)) c, lateP b (ptrNext e x b p c) c] c
  | _ => c

def effSt (e : Nat) (i : DxeInstr) (c : Chip) : Chip :=
  let x := engOf e c
  match i with
  | .st b s p =>
    dxeDone e [lateIn 1 (.mem (dataAddr e (cbWord e b (ptrIn e x b c) c)) (bits (gReg x s).toNat 0 32)) c,
               lateP b (ptrNext e x b p c) c] c
  | _ => c

/-- Moves, constants and the readers of the engine's inputs. -/
def effMove (e : Nat) (i : DxeInstr) (c : Chip) : Chip :=
  let x := engOf e c
  match i with
  | .ldi d v => dxeDone e [lateG 1 d (v.signExtend 64) c] c
  | .ldih d v => dxeDone e [lateG 1 d (v ++ (gReg x d).extractLsb' 0 32) c] c
  | .mov d s => dxeDone e [lateG 1 d (gReg x s) c] c
  | .getm d => dxeDone e [lateG 1 d x.msg c] c
  | .rdgt d => dxeDone e [lateG 1 d (BitVec.ofNat 64 c.tl.gt) c] c
  | .getp d b => dxeDone e [lateG 1 d (BitVec.ofNat 64 (pReg x b)) c] c
  | .setp b s => dxeDone e [lateP b (bits (gReg x s).toNat 0 16) c] c
  | .setb b s => dxeDone e [lateIn 2 (.cb b.toNat (bits (gReg x s).toNat 0 15) (bits (gReg x s).toNat 16 16)) c] c
  | .setm v => dxeDone e [lateIn 1 (.srm v.toNat) c] c
  | .nop => dxeDone e [] c
  | _ => c

/-! ### Arithmetic (R176) -/

/-- SHA: left by IMM if positive, arithmetic right by −IMM if negative. -/
def shaVal (a : Word) (imm : BitVec 32) : Word :=
  if imm.msb then a.sshiftRight (-imm.toInt).toNat else a <<< imm.toNat

/-- SAT: clamp to ±IMM, IMM unsigned. -/
def satVal (a : Word) (imm : BitVec 32) : Word := BitVec.ofInt 64 (clampI (-(imm.toNat : Int)) imm.toNat a.toInt)

def effAlu (e : Nat) (i : DxeInstr) (c : Chip) : Chip :=
  let x := engOf e c
  let put (d : BitVec 4) (v : Word) (f : Flags) : Chip := dxeDone e [lateG 1 d v c, lateF f c] c
  match i with
  | .add d s t => put d (gReg x s + gReg x t) (addFlags (gReg x s) (gReg x t))
  | .sub d s t => put d (gReg x s - gReg x t) (subFlags (gReg x s) (gReg x t))
  | .addi d s v => put d (gReg x s + v.signExtend 64) (addFlags (gReg x s) (v.signExtend 64))
  | .and d s t => put d (gReg x s &&& gReg x t) (logicFlags (gReg x s &&& gReg x t))
  | .or d s t => put d (gReg x s ||| gReg x t) (logicFlags (gReg x s ||| gReg x t))
  | .xor d s t => put d (gReg x s ^^^ gReg x t) (logicFlags (gReg x s ^^^ gReg x t))
  | .sha d s v => put d (shaVal (gReg x s) v) (logicFlags (shaVal (gReg x s) v))
  | .cmp s t => dxeDone e [lateF (subFlags (gReg x s) (gReg x t)) c] c
  | .cmpi s v => dxeDone e [lateF (subFlags (gReg x s) (v.signExtend 64)) c] c
  | .sat d s v => dxeDone e [lateG 1 d (satVal (gReg x s) v) c] c
  | .mul d s t => dxeDone e [lateG 2 d (BitVec.ofInt 64 (low32 (gReg x s) * low32 (gReg x t))) c] c
  | _ => c

/-! ### Accumulators -/

/-- MAC and CMAC add to the accumulator as an instruction that issues now reads it: one still in flight does not count (R157). -/
def effMac (e : Nat) (i : DxeInstr) (c : Chip) : Chip :=
  let x := engOf e c
  match i with
  | .mac d s t => dxeDone e [lateIn 3 (.a d.toNat (aReg x d + BitVec.ofInt 56 (low32 (gReg x s) * low16 (gReg x t)))) c] c
  | .cmac d s t =>
    let a := gReg x s
    let b := gReg x t
    dxeDone e
      [lateIn 3 (.a d.toNat (aReg x d + BitVec.ofInt 56 (low32 a * low16 b - high32 a * mid16 b))) c,
       lateIn 3 (.a (d.toNat + 1) (aReg x (d + 1) + BitVec.ofInt 56 (low32 a * mid16 b + high32 a * low16 b))) c] c
  | .aclr d all =>
    if all == 1 then dxeDone e ((List.range 4).map (fun k => lateIn 1 (.a k 0) c)) c
    else dxeDone e [lateIn 1 (.a d.toNat 0) c] c
  | .amov d s v => dxeDone e [lateG 1 d (((aReg x s).sshiftRight v.toNat).signExtend 64) c] c
  | _ => c

/-! ### Results and outcomes (R164–R167) -/

/-- What RDCUR writes: CUR's description. -/
def curWord (r : Result) : Word :=
  BitVec.ofNat 64 (r.c + r.w * 2 ^ 4 + b2n r.aborted * 2 ^ 8 + b2n r.kchg * 2 ^ 9 + b2n r.split * 2 ^ 10 + b2n r.conv * 2 ^ 11 +
    b2n r.sat * 2 ^ 12 + r.endGt % 2 ^ 32 * 2 ^ 32)

def effCur (e : Nat) (i : DxeInstr) (c : Chip) : Chip :=
  let x := engOf e c
  match i with
  | .popr d =>
    match x.queue with
    | [] => dxeDone e [lateIn 1 (.zero true) c] (setEng e { x with cur := none, posted := false } c)
    | r :: q =>
      dxeDone e [lateG 1 d (BitVec.ofNat 64 (toField 32 r.i + toField 32 r.q * 2 ^ 32)) c, lateIn 1 (.zero false) c]
        (setEng e { x with queue := q, cur := some r, posted := false } c)
  | .rdcur d => dxeDone e [lateG 1 d (match x.cur with | some r => curWord r | none => 0) c] c
  | _ => c

/-- d_k of R165, for the point in Gs and axis k of entry t. -/
def clsDot (e t : Nat) (g : Word) (k : Nat) (c : Chip) : Int :=
  let a := clsAt e t k c
  low32 g * sgn 16 (bits a 0 16) + high32 g * sgn 16 (bits a 16 16)

/-- b_k of R165. -/
def clsBit (e t : Nat) (g : Word) (k : Nat) (c : Chip) : Bool :=
  decide (k < clsAt e t 7 c % 4) && decide (sgn 32 (clsAt e t (3 + k) c) * 65536 ≤ clsDot e t g k c)

def effCls (e : Nat) (i : DxeInstr) (c : Chip) : Chip :=
  let x := engOf e c
  match i with
  | .cls d s v =>
    let t := (v.toNat + (match x.cur with | some r => r.c | none => 0)) % 256
    let g := gReg x s
    let nax := clsAt e t 7 c % 4
    let j := b2n (clsBit e t g 0 c) + 2 * b2n (clsBit e t g 1 c) + 4 * b2n (clsBit e t g 2 c)
    dxeDone e
      (((List.range 3).filter (· < nax)).map (fun k => lateIn 3 (.a k (BitVec.ofInt 56 (clsDot e t g k c))) c) ++
       [lateG 3 d (BitVec.ofNat 64 (bits (clsAt e t 6 c) (2 * j) 2)) c]) c
  | _ => c

/-- OUTC: the record reaches the bus in the next tick, or is discarded (R167, R216). -/
def effOutc (e : Nat) (i : DxeInstr) (c : Chip) : Chip :=
  let x := engOf e c
  match i with
  | .outc s =>
    match x.cur with
    | none => dxeDone e [] (count (P.dxeOutcDropCount e) c)
    | some r =>
      if x.posted || r.aborted then dxeDone e [] (count (P.dxeOutcDropCount e) c)
      else
        let c1 := setEng e { x with posted := true } c
        if c.md.mode == .run then
          let o : OutRec :=
            { engine := e, ch := 12 * e + r.c, val := bits (gReg x s).toNat 0 2,
              flags := b2n r.kchg + 2 * b2n r.split + 4 * b2n r.conv + 8 * b2n r.sat, endGt := r.endGt, due := c.clk + 5 }
          dxeDone e [] (countT P.outOutcPosted 200 { c1 with oc := { c1.oc with bus := c1.oc.bus ++ [o] } })
        else dxeDone e [] (count (P.dxeOutcDropCount e) c1)
  | _ => c

/-! ### Tracking writes (R168–R170) -/

/-- The tracking targets of R168 that engine e may write. -/
def trkTarget (e id : Nat) : Bool :=
  let b := id / 2 ^ 24
  let i := id / 2 ^ 12 % 2 ^ 12
  let k := id % 2 ^ 12
  (b == 4 && decide (i < 12 ∧ 0x100 ≤ k ∧ k < 0x280) && k % 16 == 0) ||
  (b == 7 && decide (i < 12 ∧ 0x100 ≤ k ∧ k < 0x280) && decide (k % 16 < 2)) ||
  (b == 5 && decide (i < 24) && k == 4) ||
  (b == 8 && i == e && decide (0x800 ≤ k) && decide (3 ≤ k % 8 ∧ k % 8 < 6))

/-- The width of a target's value, and whether its step is a signed difference. -/
def trkShape (id : Nat) : Nat × Bool :=
  let k := id % 2 ^ 12
  match id / 2 ^ 24 with
  | 4 => (48, false)
  | 7 => if k % 16 == 0 then (48, false) else (32, true)
  | 5 => (16, true)
  | _ => (32, true)

/-- The step from `ref` to `v`: as R168 measures it. FLX_OFFSET and THR are signed codes; RX_PHASE is taken modulo 2^32. -/
def trkStep (id ref v : Nat) : Int :=
  let w := (trkShape id).1
  if id / 2 ^ 24 == 7 && id % 16 == 1 then sgn 32 (toField 32 ((v : Int) - (ref : Int)))
  else if (trkShape id).2 then sgn w v - sgn w ref
  else (v : Int) - (ref : Int)

/-- The value a slot writes: `v`, or `ref` moved by the limit towards it (R169). -/
def trkValue (id ref v lim : Nat) : Nat :=
  let d := trkStep id ref v
  if d.natAbs ≤ lim then v
  else toField (trkShape id).1 ((ref : Int) + (if d < 0 then -(lim : Int) else (lim : Int)))

/-- The tracking write that waits for a parameter and was issued last. -/
def trkPending (id : Nat) (c : Chip) : Option Track := (c.dx.track.filter (fun t => t.id == id)).getLast?

def effTrkw (e : Nat) (i : DxeInstr) (c : Chip) : Chip :=
  let x := engOf e c
  match i with
  | .trkw s t k =>
    let id := bits (gReg x t).toNat 0 32
    let slot := k.toNat
    let lim := rd (P.dxeTrkMaxStep e slot) c
    if c.md.mode == .run && inAdapt id c && lim != 0 && trkTarget e id then
      let v := (gReg x s).toNat % 2 ^ (trkShape id).1
      let ref := match trkPending id c with
        | some p => p.value
        | none => storedValue id c
      let w := trkValue id ref v lim
      let c1 := if w == v then c else count (P.dxeTrkClampCount e) c
      let p : Track :=
        { engine := e, slot := slot, id := id, value := w,
          at_ := if on (P.dxeTrkApply e slot) c then some (c.tl.gt + 4) else none, sq := rd (P.dxeTrkSq e slot) c,
          after := c.tl.gt + 16, issued := c.clk }
      dxeDone e [] { c1 with dx := { c1.dx with track := c1.dx.track ++ [p] } }
    else dxeDone e [] (count (P.dxeTrkRefusedCount e) c)
  | _ => c

/-! ### Control -/

/-- Put a transfer in hand: two delay slots follow. -/
def dxeXfer (e : Nat) (target : Option Nat) (rts : Bool) (l : List Late) (c : Chip) : Chip :=
  let c1 := dxeLate e l c
  let x := engOf e c1
  setEng e { x with xfer := some { slots := 2, target := target, rts := rts }, pc := x.pc + 1 } c1

/-- A repeat of `n` passes over the next `len` instructions. -/
def dxeRepeat (e n len : Nat) (c : Chip) : Chip :=
  let c1 := dxeLate e [] c
  let x := engOf e c1
  if n == 0 then let p := repNext (x.pc + len) x.reps; setEng e { x with pc := p.1, reps := p.2 } c1
  else setEng e { x with pc := x.pc + 1, reps := { first := x.pc + 1, last := x.pc + len, left := n } :: x.reps } c1

/-- The engine stops with HALTED set (R174). -/
def dxeHalt (e : Nat) (c : Chip) : Chip := wr (P.dxeHalted e) 1 (wr (P.dxeDxeRun e) 0 c)

def effCtl (e : Nat) (i : DxeInstr) (c : Chip) : Chip :=
  let x := engOf e c
  match i with
  | .branch k a => dxeXfer e (if condHolds k.toNat (flagsOf x) == some true then some a.toNat else none) false [] c
  | .call a =>
    dxeXfer e (some a.toNat) false [] (setEng e { x with lk := some ((x.pc + 3) % 4096) } c)
  | .ret => dxeXfer e x.lk false [] c
  | .rts =>
    let f := Flags.ofCode x.sfl
    dxeXfer e (some x.spc) true [{ due := c.clk + 3, dest := .flags f.z f.n f.c f.v }] c
  | .rpt n l => dxeRepeat e n.toNat (repLen l) c
  | .rptr s l => dxeRepeat e (bits (gReg x s).toNat 0 16) (repLen l) c
  | .idle => dxeDone e [] (setEng e { x with idle := true } c)
  | .halt => dxeHalt e (dxeDone e [] c)
  | _ => c

/-! ### Start, stop and requests (R152, R160–R162, R174) -/

/-- Start engine e at 0x000. -/
def dxeStart (e : Nat) (c : Chip) : Chip :=
  let x := engOf e c
  let x1 := { x with pc := 0, g := [], a := [], fz := false, fn := false, fc := false, fv := false, lk := none, spc := 0, sfl := 0,
                     srm := 0, reps := [], xfer := none, late := x.late.filter (fun l => match l.dest with
                       | .cb .. | .ptr .. | .mem .. => true
                       | _ => false),
                     handler := false, idle := false, issueAt := c.clk + 1, queue := [], startAt := c.clk + 1 }
  wr (P.dxeHalted e) 0 (wr (P.dxeFaultCode e) 0 (wr (P.dxeDxeRun e) 1 (setEng e x1 c)))

/-- A write of 0 to DXE_RUN: the engine stops at the next tick (R174). -/
def dxeStop (e : Nat) (c : Chip) : Chip :=
  let x := engOf e c
  setEng e { x with late := x.late ++ [{ due := c.clk + 1, dest := .stop }] } c

/-- A write of DXE_MSG: GETM's value, and HOST is pending where requests exist (R160, R178). -/
def dxeMessage (e v : Nat) (c : Chip) : Chip :=
  let x := engOf e c
  setEng e { x with msg := BitVec.ofNat 64 v,
                    hostSince := if dxeMode c then (if x.hostSince.isSome then x.hostSince else some c.clk) else none } c

/-- TICK_REQUEST (R160): GT is a multiple of TICK_PERIOD µs after the tick in which TICK_PERIOD was written. -/
def tickRequest (e : Nat) (c : Chip) : Chip :=
  let x := engOf e c
  let p := rd (P.dxeTickPeriod e) c * 1000
  if dxeMode c && p != 0 && c.tl.gt % p == 0 && decide (x.periodAt < c.clk) && x.tickSince.isNone then
    setEng e { x with tickSince := some c.clk } c
  else c

/-- SERVICE_ACCEPT (R161, R162). -/
def serviceAccept (e : Nat) (c : Chip) : Chip :=
  match accepts e c with
  | none => c
  | some k =>
    let x := engOf e c
    let since := if k == 0 then (match x.queue with | r :: _ => r.entered | [] => c.clk)
      else if k == 1 then x.hostSince.getD c.clk else x.tickSince.getD c.clk
    let h := c.clk - max since x.startAt
    let lim := rd (P.dxeHoldoffLimit e) c
    let x1 := { x with spc := x.pc, sfl := (flagsOf x).code, pc := 8 * (k + 1), handler := true, idle := false,
                       issueAt := c.clk + 2, hostSince := if k == 1 then none else x.hostSince,
                       tickSince := if k == 2 then none else x.tickSince }
    let c1 := maxRc (P.dxeHoldoffMax e) h (setEng e x1 c)
    if lim != 0 && decide (lim < h) then count (P.dxeHoldoffExcCount e) (setFlag (P.dxeHoldoffExceeded e) c1) else c1

/-! ### What the end of a tick brings -/

/-- Circular buffer b of engine e takes a new base and length; windows open on channel b are marked (R147, R154). -/
def setBuffer (e b base len : Nat) (c : Chip) : Chip :=
  let changed := rd (P.dxeCbBase e b) c != base || rd (P.dxeCbLen e b) c != len
  let c1 := wr (P.dxeCbLen e b) len (wr (P.dxeCbBase e b) base c)
  if changed && b < 12 then
    { c1 with rin := { c1.rin with windows := c1.rin.windows.map (fun w =>
        if w.ch == 12 * e + b && w.due.isNone then { w with kchg := true } else w) } }
  else c1

/-- One result reaches its register. -/
def landOne (e : Nat) (c : Chip) (d : Dest) : Chip :=
  let x := engOf e c
  match d with
  | .g n v => setEng e { x with g := Tab.put x.g n 0 v } c
  | .a n v => setEng e { x with a := Tab.put x.a n 0 v } c

  | .flags z n cy v => setEng e { x with fz := z, fn := n, fc := cy, fv := v } c
  | .zero z => setEng e { x with fz := z } c
  | .cb b base len => setBuffer e b base len c
  | .ptr b v => setEng e { x with p := Tab.put x.p b 0 v } c
  | .srm v => setEng e { x with srm := v } c
  | .stop => if on (P.dxeDxeRun e) c then dxeHalt e c else c
  | .mem a v => { c with mem := memPut c.mem a (leBytes 4 v) }

/-- The results of engine e that can first be read in the tick that begins, in issue order (R157). -/
def landResults (e : Nat) (c : Chip) : Chip :=
  let x := engOf e c
  let due := x.late.filter (fun l => l.due ≤ c.clk)
  due.foldl (fun c l => landOne e c l.dest) (setEng e { x with late := x.late.filter (fun l => c.clk < l.due) } c)

/-- What an address that is due to issue meets where no instruction stands: the program has run past address 4,095, or the word is no
instruction (R173). -/
def noInstr (e : Nat) (c : Chip) : List Nat :=
  if !dxeReady e c then []
  else if 4096 ≤ (engOf e c).pc then [0x0B]
  else if (decodeDxe (progWord e (engOf e c).pc c)).isNone then [0x01]
  else []

/-- The causes of a fault at the address due to issue in this tick (R173). -/
def dueFaults (e : Nat) (c : Chip) : List Nat :=
  noInstr e c ++ (match dxeDue e c with
    | some i => dxeFaults e i c
    | none => [])

/-- INTEGRATOR_LEN_ZERO (R155): a sample of an open window of channel k found LEN 0 while the program runs. The instruction due in the
tick does not issue, and the lowest code of its causes and this one is recorded (R173). -/
def integratorLenZero (e k : Nat) (c : Chip) : Chip :=
  let m := c.tl.gt - 1
  if (dxeRuns e c || ((engOf e c).faultAt == some c.clk && dxeMode c)) && m % 4 == 0 && rd (P.dxeCbLen e k) c == 0 &&
      c.rin.windows.any (fun w => w.ch == 12 * e + k && w.takes m) then
    dxeFault e ((dueFaults e c).foldl min 0x07) c
  else c

/-- DXE_ILLEGAL_OP: the word due is no instruction, or the program has run past address 4,095 (R173). -/
def dxeIllegalOp (e : Nat) (c : Chip) : Chip :=
  match noInstr e c with
  | code :: _ => dxeFault e code c
  | [] => c

/-! ### Tracking writes take effect -/

/-- Put a tracked value into force (R168, R170). -/
def trkApply (id v : Nat) (c : Chip) : Chip :=
  let i := id / 2 ^ 12 % 2 ^ 12
  let k := id % 2 ^ 12
  match id / 2 ^ 24 with
  | 4 => setFreq (mkTone 4 i ((k - 0x100) / 16)) v (wr (P.toneToneFreq 4 i ((k - 0x100) / 16)) v c)
  | 7 =>
    let ch := (k - 0x100) / 16
    if k % 16 == 0 then setRx (24 * i + ch) v (wr (P.rinRxFreq i ch) v c) else wr (P.rinRxPhase i ch) v c
  | 5 => wr (P.flxFlxOffset i) v c
  | _ =>
    let t := (k - 0x800) / 8
    wr (P.dxeThr i t (k % 8)) v (keepCls i t c)

/-- Sequencer s executes a SHOT or END slot in this tick. -/
def boundaryDue (s : Nat) (c : Chip) : Bool :=
  (sqOf s c).latched.any (fun l => l.at_ == c.tl.gt && (l.slot.kind == 0x05 || l.slot.kind == 0x0A))

/-- A tracking write's time has come (R170). -/
def trkDue (t : Track) (c : Chip) : Bool :=
  match t.at_ with
  | some g => g == c.tl.gt
  | none => boundaryDue t.sq c && decide (t.after < c.tl.gt)

/-- Tracking writes in the order in which they take effect: by issue, then by engine (R170). -/
def trkOrder (l : List Track) : List Track :=
  l.foldr (fun t acc =>
    let before (x : Track) : Bool := decide (x.issued < t.issued) || (x.issued == t.issued && decide (x.engine < t.engine))
    acc.takeWhile before ++ t :: acc.dropWhile before) []

/-- TRACKING_WRITE_APPLY (R168–R170): every write due in this tick; one whose group has left ADAPT, or whose Crivon has left
RUN, is discarded and counted. -/
def trackingApply (c : Chip) : Chip :=
  let due := trkOrder (c.dx.track.filter (fun t => trkDue t c))
  let c1 := { c with dx := { c.dx with track := c.dx.track.filter (fun t => !trkDue t c) } }
  due.foldl (fun c t =>
    if inAdapt t.id c && c.md.mode == .run then
      let old := storedValue t.id c
      let c1 := trkApply t.id t.value c
      audit (.loop t.engine t.slot) false false t.id old (storedValue t.id c1) c1
    else count (P.dxeTrkRefusedCount t.engine) c) c1

/-! ### Commands: one for each instruction, and the engine's own events -/

/-- NOP of R176 issues on engine e. -/
def execDxeNop (e : Fin 24) (s : State) : Host.Outcome State Fault Refusal :=
  onChip (dxeIssue e.val (fun i => match i with | .nop => true | _ => false) (effMove e.val)) s

/-- LD of R176 issues on engine e. -/
def execLd (e : Fin 24) (s : State) : Host.Outcome State Fault Refusal :=
  onChip (dxeIssue e.val (fun i => match i with | .ld .. => true | _ => false) (effLd e.val)) s

/-- LD2 of R176 issues on engine e. -/
def execLd2 (e : Fin 24) (s : State) : Host.Outcome State Fault Refusal :=
  onChip (dxeIssue e.val (fun i => match i with | .ld2 .. => true | _ => false) (effLd2 e.val)) s

/-- ST of R176 issues on engine e. -/
def execSt (e : Fin 24) (s : State) : Host.Outcome State Fault Refusal :=
  onChip (dxeIssue e.val (fun i => match i with | .st .. => true | _ => false) (effSt e.val)) s

/-- LDI of R176 issues on engine e. -/
def execLdi (e : Fin 24) (s : State) : Host.Outcome State Fault Refusal :=
  onChip (dxeIssue e.val (fun i => match i with | .ldi .. => true | _ => false) (effMove e.val)) s

/-- LDIH of R176 issues on engine e. -/
def execLdih (e : Fin 24) (s : State) : Host.Outcome State Fault Refusal :=
  onChip (dxeIssue e.val (fun i => match i with | .ldih .. => true | _ => false) (effMove e.val)) s

/-- MOV of R176 issues on engine e. -/
def execMov (e : Fin 24) (s : State) : Host.Outcome State Fault Refusal :=
  onChip (dxeIssue e.val (fun i => match i with | .mov .. => true | _ => false) (effMove e.val)) s

/-- ADD of R176 issues on engine e. -/
def execAdd (e : Fin 24) (s : State) : Host.Outcome State Fault Refusal :=
  onChip (dxeIssue e.val (fun i => match i with | .add .. => true | _ => false) (effAlu e.val)) s

/-- SUB of R176 issues on engine e. -/
def execSub (e : Fin 24) (s : State) : Host.Outcome State Fault Refusal :=
  onChip (dxeIssue e.val (fun i => match i with | .sub .. => true | _ => false) (effAlu e.val)) s

/-- ADDI of R176 issues on engine e. -/
def execAddi (e : Fin 24) (s : State) : Host.Outcome State Fault Refusal :=
  onChip (dxeIssue e.val (fun i => match i with | .addi .. => true | _ => false) (effAlu e.val)) s

/-- AND of R176 issues on engine e. -/
def execAnd (e : Fin 24) (s : State) : Host.Outcome State Fault Refusal :=
  onChip (dxeIssue e.val (fun i => match i with | .and .. => true | _ => false) (effAlu e.val)) s

/-- OR of R176 issues on engine e. -/
def execOr (e : Fin 24) (s : State) : Host.Outcome State Fault Refusal :=
  onChip (dxeIssue e.val (fun i => match i with | .or .. => true | _ => false) (effAlu e.val)) s

/-- XOR of R176 issues on engine e. -/
def execXor (e : Fin 24) (s : State) : Host.Outcome State Fault Refusal :=
  onChip (dxeIssue e.val (fun i => match i with | .xor .. => true | _ => false) (effAlu e.val)) s

/-- SHA of R176 issues on engine e. -/
def execSha (e : Fin 24) (s : State) : Host.Outcome State Fault Refusal :=
  onChip (dxeIssue e.val (fun i => match i with | .sha .. => true | _ => false) (effAlu e.val)) s

/-- MUL of R176 issues on engine e. -/
def execMul (e : Fin 24) (s : State) : Host.Outcome State Fault Refusal :=
  onChip (dxeIssue e.val (fun i => match i with | .mul .. => true | _ => false) (effAlu e.val)) s

/-- CMP of R176 issues on engine e. -/
def execCmp (e : Fin 24) (s : State) : Host.Outcome State Fault Refusal :=
  onChip (dxeIssue e.val (fun i => match i with | .cmp .. => true | _ => false) (effAlu e.val)) s

/-- CMPI of R176 issues on engine e. -/
def execCmpi (e : Fin 24) (s : State) : Host.Outcome State Fault Refusal :=
  onChip (dxeIssue e.val (fun i => match i with | .cmpi .. => true | _ => false) (effAlu e.val)) s

/-- SAT of R176 issues on engine e. -/
def execSat (e : Fin 24) (s : State) : Host.Outcome State Fault Refusal :=
  onChip (dxeIssue e.val (fun i => match i with | .sat .. => true | _ => false) (effAlu e.val)) s

/-- MAC of R176 issues on engine e. -/
def execMac (e : Fin 24) (s : State) : Host.Outcome State Fault Refusal :=
  onChip (dxeIssue e.val (fun i => match i with | .mac .. => true | _ => false) (effMac e.val)) s

/-- CMAC of R176 issues on engine e. -/
def execCmac (e : Fin 24) (s : State) : Host.Outcome State Fault Refusal :=
  onChip (dxeIssue e.val (fun i => match i with | .cmac .. => true | _ => false) (effMac e.val)) s

/-- ACLR of R176 issues on engine e. -/
def execAclr (e : Fin 24) (s : State) : Host.Outcome State Fault Refusal :=
  onChip (dxeIssue e.val (fun i => match i with | .aclr .. => true | _ => false) (effMac e.val)) s

/-- AMOV of R176 issues on engine e. -/
def execAmov (e : Fin 24) (s : State) : Host.Outcome State Fault Refusal :=
  onChip (dxeIssue e.val (fun i => match i with | .amov .. => true | _ => false) (effMac e.val)) s

/-- POPR of R176 issues on engine e. -/
def execPopr (e : Fin 24) (s : State) : Host.Outcome State Fault Refusal :=
  onChip (dxeIssue e.val (fun i => match i with | .popr .. => true | _ => false) (effCur e.val)) s

/-- RDCUR of R176 issues on engine e. -/
def execRdcur (e : Fin 24) (s : State) : Host.Outcome State Fault Refusal :=
  onChip (dxeIssue e.val (fun i => match i with | .rdcur .. => true | _ => false) (effCur e.val)) s

/-- CLS of R176 issues on engine e. -/
def execCls (e : Fin 24) (s : State) : Host.Outcome State Fault Refusal :=
  onChip (dxeIssue e.val (fun i => match i with | .cls .. => true | _ => false) (effCls e.val)) s

/-- OUTC of R176 issues on engine e. -/
def execOutc (e : Fin 24) (s : State) : Host.Outcome State Fault Refusal :=
  onChip (dxeIssue e.val (fun i => match i with | .outc .. => true | _ => false) (effOutc e.val)) s

/-- TRKW of R176 issues on engine e. -/
def execTrkw (e : Fin 24) (s : State) : Host.Outcome State Fault Refusal :=
  onChip (dxeIssue e.val (fun i => match i with | .trkw .. => true | _ => false) (effTrkw e.val)) s

/-- GETM of R176 issues on engine e. -/
def execGetm (e : Fin 24) (s : State) : Host.Outcome State Fault Refusal :=
  onChip (dxeIssue e.val (fun i => match i with | .getm .. => true | _ => false) (effMove e.val)) s

/-- RDGT of R176 issues on engine e. -/
def execRdgt (e : Fin 24) (s : State) : Host.Outcome State Fault Refusal :=
  onChip (dxeIssue e.val (fun i => match i with | .rdgt .. => true | _ => false) (effMove e.val)) s

/-- SETB of R176 issues on engine e. -/
def execSetb (e : Fin 24) (s : State) : Host.Outcome State Fault Refusal :=
  onChip (dxeIssue e.val (fun i => match i with | .setb .. => true | _ => false) (effMove e.val)) s

/-- SETP of R176 issues on engine e. -/
def execSetp (e : Fin 24) (s : State) : Host.Outcome State Fault Refusal :=
  onChip (dxeIssue e.val (fun i => match i with | .setp .. => true | _ => false) (effMove e.val)) s

/-- GETP of R176 issues on engine e. -/
def execGetp (e : Fin 24) (s : State) : Host.Outcome State Fault Refusal :=
  onChip (dxeIssue e.val (fun i => match i with | .getp .. => true | _ => false) (effMove e.val)) s

/-- BRANCH of R176 issues on engine e. -/
def execBranch (e : Fin 24) (s : State) : Host.Outcome State Fault Refusal :=
  onChip (dxeIssue e.val (fun i => match i with | .branch .. => true | _ => false) (effCtl e.val)) s

/-- CALL of R176 issues on engine e. -/
def execDxeCall (e : Fin 24) (s : State) : Host.Outcome State Fault Refusal :=
  onChip (dxeIssue e.val (fun i => match i with | .call .. => true | _ => false) (effCtl e.val)) s

/-- RET of R176 issues on engine e. -/
def execDxeRet (e : Fin 24) (s : State) : Host.Outcome State Fault Refusal :=
  onChip (dxeIssue e.val (fun i => match i with | .ret => true | _ => false) (effCtl e.val)) s

/-- RTS of R176 issues on engine e. -/
def execRts (e : Fin 24) (s : State) : Host.Outcome State Fault Refusal :=
  onChip (dxeIssue e.val (fun i => match i with | .rts => true | _ => false) (effCtl e.val)) s

/-- RPT of R176 issues on engine e. -/
def execRpt (e : Fin 24) (s : State) : Host.Outcome State Fault Refusal :=
  onChip (dxeIssue e.val (fun i => match i with | .rpt .. => true | _ => false) (effCtl e.val)) s

/-- RPTR of R176 issues on engine e. -/
def execRptr (e : Fin 24) (s : State) : Host.Outcome State Fault Refusal :=
  onChip (dxeIssue e.val (fun i => match i with | .rptr .. => true | _ => false) (effCtl e.val)) s

/-- SETM of R176 issues on engine e. -/
def execSetm (e : Fin 24) (s : State) : Host.Outcome State Fault Refusal :=
  onChip (dxeIssue e.val (fun i => match i with | .setm .. => true | _ => false) (effMove e.val)) s

/-- IDLE of R176 issues on engine e. -/
def execIdle (e : Fin 24) (s : State) : Host.Outcome State Fault Refusal :=
  onChip (dxeIssue e.val (fun i => match i with | .idle => true | _ => false) (effCtl e.val)) s

/-- HALT of R176 issues on engine e. -/
def execHalt (e : Fin 24) (s : State) : Host.Outcome State Fault Refusal :=
  onChip (dxeIssue e.val (fun i => match i with | .halt => true | _ => false) (effCtl e.val)) s

/-- SERVICE_ACCEPT (R161, R162). -/
def execServiceAccept (e : Fin 24) (s : State) : Host.Outcome State Fault Refusal := onChip (serviceAccept e.val) s

/-- TICK_REQUEST (R160). -/
def execTickRequest (e : Fin 24) (s : State) : Host.Outcome State Fault Refusal := onChip (tickRequest e.val) s

/-- DXE_ILLEGAL_OP (R173). -/
def execDxeIllegalOp (e : Fin 24) (s : State) : Host.Outcome State Fault Refusal := onChip (dxeIllegalOp e.val) s

/-- INTEGRATOR_LEN_ZERO (R155). -/
def execIntegratorLenZero (e : Fin 24) (c : Fin 12) (s : State) : Host.Outcome State Fault Refusal :=
  onChip (integratorLenZero e.val c.val) s

/-- TRACKING_WRITE_APPLY (R168–R170). -/
def execTrackingWriteApply (s : State) : Host.Outcome State Fault Refusal := onChip trackingApply s

end Sys2Proof.Machine
end

