-- ==== Sys2Proof/Machine/Outcomes.lean ====
section
/-!
DEFINITION. Outcomes and feedback: outcome registers (R215–R217), selectors and freshness (R218, R219), decision units
(R220–R225), shared and remote outcomes (R230–R233) and staleness (R234).
-/

namespace Sys2Proof.Machine

/-! ### Records (R215) -/

/-- The 64-bit outcome record. -/
def recWord (val flags ch node hops endGt : Nat) : Nat :=
  val % 4 + flags % 16 * 2 ^ 2 + ch % 512 * 2 ^ 7 + node % 64 * 2 ^ 16 + hops % 4 * 2 ^ 22 + endGt % 2 ^ 40 * 2 ^ 24

/-- The GT congruent to a 40-bit field that lies nearest to GT now (R215). -/
def restoreGt (v now : Nat) : Nat :=
  let b : Int := (now - now % 2 ^ 40 : Nat) + (v : Nat)
  let lo : Int := (now : Int) - (2 ^ 39 : Nat)
  (if b < lo then b + (2 ^ 40 : Nat) else if lo + (2 ^ 40 : Nat) ≤ b then b - (2 ^ 40 : Nat) else b).toNat

/-! ### Decision units (R220–R223) -/

/-- A decision unit. -/
def duOf (d : Nat) (c : Chip) : DecUnit := Tab.get c.oc.units d DecUnit.reset

/-- Put a decision unit. -/
def setDu (d : Nat) (x : DecUnit) (c : Chip) : Chip :=
  { c with oc := { c.oc with units := Tab.put c.oc.units d DecUnit.reset x } }

/-- The unit reads in the tick of a tick count; several causes in one tick make one evaluation (R222). -/
def duRead (d at_ : Nat) (c : Chip) : Chip :=
  let x := duOf d c
  if x.reads.contains at_ then c else setDu d { x with reads := x.reads ++ [at_] } c

/-- The sources of a unit in use: register and whether it is remote (R220). -/
def duSources (d : Nat) (c : Chip) : List (Nat × Bool × Nat) :=
  (List.range (rd (P.duNbits d) c)).map (fun k =>
    (rd (P.duSrcReg d k) c, on (P.duSrcRemote d k) c, rd (P.duSrcBit d k) c))

/-- A source register: VAL, VALID, END_GT and STALE. -/
def srcState (r : Nat) (remote : Bool) (c : Chip) : Nat × Bool × Nat × Bool :=
  if remote then (rd (P.rrRregVal r) c, on (P.rrRregValid r) c, rd (P.rrRregEndGt r) c, on (P.rrStale r) c)
  else (rd (P.chOregVal r) c, on (P.chOregValid r) c, rd (P.chOregEndGt r) c, false)

/-- The modes in which decisions are evaluated at all, and on a source's new record (R237). -/
def decModes (c : Chip) : Bool := !inModes [.reset, .boot, .fallback, .shutdown] c
def updateModes (c : Chip) : Bool := inModes [.run, .hold, .bench] c

/-- A source of a unit has a new record in this tick: the unit reads in the next (R222, R237). -/
def sourceUpdate (r : Nat) (remote : Bool) (c : Chip) : Chip :=
  if !updateModes c then c else
  (List.range 64).foldl (fun c d =>
    if (duSources d c).any (fun s => s.1 == r && s.2.1 == remote) then duRead d (c.clk + 1) c else c) c

/-- What a read finds: index, entry, and the readiness of the sources (R220, R222). -/
def duSample (d : Nat) (c : Chip) : Decision :=
  let ss := duSources d c
  let st := ss.map (fun s => srcState s.1 s.2.1 c)
  let bitsOf := (ss.zip st).map (fun p => b2n (bitAt p.2.1 p.1.2.2))
  let index := (rd (P.duBase d) c + (bitsOf.zipIdx.foldl (fun n p => n + p.1 * 2 ^ p.2) 0)) % 65536
  { visible := c.clk + 5, index := index, entry := entryOf index c, valid := st.all (·.2.1),
    minEnd := (st.map (·.2.2.1)).min?, stale := st.any (·.2.2.2) }

/-- At the start of a tick, units due to read take their samples (R222). -/
def duSampleStep (c : Chip) : Chip :=
  { c with oc := { c.oc with units := c.oc.units.map (fun e =>
      (e.1, if e.2.reads.contains c.clk then { e.2 with sample := some (duSample e.1 c) } else { e.2 with sample := none })) } }

/-- DECISION_READ (R222); nothing is evaluated in a mode without decisions (R237). -/
def decisionRead (d : Nat) (c : Chip) : Chip :=
  let x := duOf d c
  if !decModes c then (if x.reads.isEmpty then c else setDu d { x with reads := [], sample := none } c)
  else if x.reads.contains c.clk then
    match x.sample with
    | some s =>
      setDu d { x with reads := x.reads.filter (fun t => c.clk < t), forming := x.forming ++ [s], lastEntry := some s.index,
                       sample := none } c
    | none => c
  else c

/-- DECISION_VISIBLE (R222, R225); one formed before a commit of the last six ticks is not ready (R223), and in a mode without
decisions none becomes visible (R237). -/
def decisionVisible (d : Nat) (c : Chip) : Chip :=
  let x := duOf d c
  if !decModes c then (if x.forming.isEmpty then c else setDu d { x with forming := [] } c)
  else match x.forming.find? (fun s => s.visible == c.clk) with
  | none => c
  | some s =>
    let c1 := setDu d { x with forming := x.forming.filter (fun s => c.clk < s.visible),
                               now := if x.notBefore ≤ c.clk then some s else none } c
    let c2 := wr (P.duIndexNow d) s.index (wr (P.duEntryNow d) s.entry (wr (P.duDecStale d) (b2n s.stale) c1))
    if bitAt s.entry 15 then raise (0x80 + d) c2 else c2

/-- A commit of the unit's settings, or of the entry it last read: it evaluates again and is not ready till then (R223). -/
def duCommit (d : Nat) (c : Chip) : Chip :=
  let c1 := duRead d (c.clk + 1) c
  setDu d { duOf d c1 with notBefore := c.clk + 6, now := none } c1

/-- Entry e has been written by a commit or a bulk-port write: the units that read it at their last evaluation, one due in this tick
included, evaluate again (R223). -/
def entryWritten (e : Nat) (c : Chip) : Chip :=
  (List.range 64).foldl (fun c d => if (duOf d c).lastEntry == some e || (duOf d c).sample.any (fun s => s.index == e) then duCommit d c else c) c

/-! ### Selectors (R218, R219) -/

/-- Read a selector for a reader whose boundary GT is `b` (R218, R219, R222, R223). -/
def readSel (sel b : Nat) (c : Chip) : Sel :=
  match bits sel 14 2 with
  | 0 =>
    let r := bits sel 0 9
    let v := rd (P.chOregVal r) c
    let ok := decide (r < 288) && on (P.chOregValid r) c && decide (b ≤ rd (P.chOregEndGt r) c)
    { value := v, alt := v == bits sel 10 2, ready := if ok then .fresh else .notReady, entry := none }
  | 1 =>
    let r := bits sel 0 8
    let v := rd (P.rrRregVal r) c
    let ok := on (P.rrRregValid r) c && decide (b ≤ rd (P.rrRregEndGt r) c)
    { value := v, alt := v == bits sel 10 2,
      ready := if on (P.rrStale r) c then .stale else if ok then .fresh else .notReady, entry := none }
  | 2 =>
    let d := bits sel 0 6
    let x := duOf d c
    match x.now with
    | none => { value := 0, alt := false, ready := .notReady, entry := none }
    | some s =>
      let staleNow := (duSources d c).any (fun q => q.2.1 && on (P.rrStale q.1) c)
      let ok := s.valid && (match s.minEnd with | some e => decide (b ≤ e) | none => true)
      { value := bits s.entry 16 2, alt := bitAt s.entry 14,
        ready := if s.stale || staleNow then .stale else if ok && decide (x.notBefore ≤ c.clk) then .fresh else .notReady,
        entry := some s.entry }
  | _ => { value := bits sel 0 2, alt := bitAt sel 0, ready := .fresh, entry := none }

/-! ### Local outcomes (R216, R217, R230) -/

/-- The trigger word's OSEL fields that read a register have a new record in this tick (R301, R302). -/
def oselFresh (r : Nat) (remote : Bool) (c : Chip) : Chip :=
  let ks := (List.range 16).filter (fun k => rd (P.trgOselReg k) c == r && on (P.trgOselRemote k) c == remote)
  { c with aq := { c.aq with fresh := c.aq.fresh ++ ks } }

/-- A local record becomes visible: its register, the units it feeds, the shared copies and acquisition (R216, R217, R222,
R230). -/
def showOutcome (o : OutRec) (c : Chip) : Chip :=
  let c1 := wr (P.chOregVal o.ch) o.val (wr (P.chOregFlags o.ch) o.flags (wr (P.chOregValid o.ch) 1 (wr (P.chOregEndGt o.ch) o.endGt c)))
  let w := recWord o.val o.flags o.ch (rd P.lnkNodeId c) 0 o.endGt
  let c2 := sourceUpdate o.ch false (oselFresh o.ch false c1)
  let c3 := if on (P.chShare o.ch) c then (queuesOf (rd P.outShareLg c) c).foldl (fun c q => enqueueRec q w c) c2 else c2
  offerOutcome w false o.ch c3

/-- OUTCOME_VISIBLE: the records of engine e that become visible in this tick. -/
def outcomeVisible (e : Nat) (c : Chip) : Chip :=
  let due := c.oc.bus.filter (fun o => o.engine == e && o.due == c.clk)
  if due.isEmpty then c
  else due.foldl (fun c o => showOutcome o c)
    { c with oc := { c.oc with bus := c.oc.bus.filter (fun o => !(o.engine == e && o.due == c.clk)) } }

/-! ### Staleness (R234) -/

/-- Why register r is STALE: bit 0 a gap, bit 1 its group is down, bit 2 its peer is gone. -/
def staleBits (r : Nat) (c : Chip) : Nat := Tab.get c.oc.stale r 0

/-- Set the reasons, and STALE with them. -/
def setStale (r b : Nat) (c : Chip) : Chip :=
  wr (P.rrStale r) (b2n (b != 0)) { c with oc := { c.oc with stale := Tab.put c.oc.stale r 0 b } }

/-- A stale case begins for the registers a test names: each holds the reason, and STALE_EVENTS counts the case. -/
def staleCase (bit : Nat) (p : Nat → Bool) (c : Chip) : Chip :=
  (List.range 256).foldl (fun c r => if p r then setStale r (staleBits r c ||| 2 ^ bit) c else c) (countT P.outStaleEvents 205 c)

/-- A reason ends for every register. -/
def staleEnd (bit : Nat) (c : Chip) : Chip :=
  (List.range 256).foldl (fun c r =>
    if bitAt (staleBits r c) bit then setStale r (staleBits r c - 2 ^ bit) c else c) c

/-! ### Remote outcomes (R231, R233) -/

/-- Register r takes a record with this word (R231). -/
def rregTakes (r w : Nat) (c : Chip) : Bool :=
  on (P.rrRregEn r) c && rd (P.rrRregNode r) c == bits w 16 6 && rd (P.rrRregCh r) c == bits w 7 9 &&
  (!on (P.rrRregValid r) c || decide (rd (P.rrRregEndGt r) c < restoreGt (bits w 24 40) c.tl.gt))

/-- REMOTE_APPLY to one register. -/
def rregApply (lg w : Nat) (c : Chip) (r : Nat) : Chip :=
  let c1 := wr (P.rrRregVal r) (bits w 0 2) (wr (P.rrRregFlags r) (bits w 2 4) (wr (P.rrRregValid r) 1
    (wr (P.rrRregLg r) lg (wr (P.rrRregEndGt r) (restoreGt (bits w 24 40) c.tl.gt) c))))
  let c2 := setStale r (staleBits r c1 % 2) c1
  sourceUpdate r true (oselFresh r true (countT P.outRemoteApplied 202 c2))

/-- OUTCOME_FORWARD: a record with hops left goes on to the FWD_LG groups other than the one it arrived on (R233). -/
def forwardRec (lg w : Nat) (c : Chip) : Chip :=
  if decide (bits w 22 2 < 3) && bits w 16 6 != rd P.lnkNodeId c then
    let w1 := setBits w 22 2 (bits w 22 2 + 1)
    ((queuesOf (rd P.outFwdLg c) c).filter (· != queueKey lg c)).foldl (fun c q => enqueueRec q w1 c) c
  else c

/-- A received record is applied, forwarded and offered (R231, R233). -/
def applyRecord (lg w : Nat) (c : Chip) : Chip :=
  let rs := (List.range 256).filter (fun r => rregTakes r w c)
  let c1 := if rs.isEmpty then countT P.outRemoteIgnored 203 c
    else offerOutcome w true 0 (rs.foldl (rregApply lg w) c)
  forwardRec lg w c1

/-! ### Commands -/

/-- OUTCOME_VISIBLE (R216, R217). -/
def execOutcomeVisible (e : Fin 24) (s : State) : Host.Outcome State Fault Refusal := onChip (outcomeVisible e.val) s

/-- DECISION_READ (R222). -/
def execDecisionRead (d : Fin 64) (s : State) : Host.Outcome State Fault Refusal := onChip (decisionRead d.val) s

/-- DECISION_VISIBLE (R222, R225). -/
def execDecisionVisible (d : Fin 64) (s : State) : Host.Outcome State Fault Refusal := onChip (decisionVisible d.val) s

end Sys2Proof.Machine
end

