-- ==== Sys2Proof/Machine/Links.lean ====
section
/-!
DEFINITION. Mesh links: lane and group states (R262–R264), node IDs (R275–R280), pairs and switch-over (R281–R285), frames sent
and received (R265–R274) and bulk traffic (R286–R288, R355, R356).
-/

namespace Sys2Proof.Machine

/-! ### Lanes and groups (R262–R264, R289, R293) -/

/-- LANE_STATE codes of R295. -/
def laneOff : Nat := 0
def laneSleep : Nat := 1
def laneAligning : Nat := 2
def laneAligned : Nat := 3

/-- The links are powered off in the mode (R293). -/
def linksOff (c : Chip) : Bool := inModes [.reset, .boot, .shutdown] c

/-- The state a lane's receiver takes, by the mode and its RX_SLEEP, from the state it is in (R262, R289, R293). -/
def rxLaneState (asleep : Bool) (old : Nat) (c : Chip) : Nat :=
  if linksOff c then laneOff
  else if !lanesAwake c || asleep then laneSleep
  else if old == laneOff || old == laneSleep then laneAligning else old

/-- What R263 asks of an enabled group at one tick: four lanes ALIGNED that carry frames, the clock present, one LOOP, and the skew
last measured at most 16 characters. -/
def groupGood (g : Nat) (c : Chip) : Bool :=
  on (P.lgLgEn g) c && (List.range 4).all (fun k => rd (P.laneLaneState (4 * g + k)) c == laneAligned) && !patterned g c &&
  on (P.ckCkPresent g) c && oneLoop g c && decide (rd (P.lgSkewMax g) c ≤ 16)

/-- Note since when R263's conditions hold. -/
def noteGood (g : Nat) (c : Chip) : Chip :=
  let x := groupOf g c
  setGroup g { x with goodSince := if groupGood g c then some (x.goodSince.getD c.clk) else none } c

/-- A code error of the group: the conditions of R263 start over. -/
def restartGood (g : Nat) (c : Chip) : Chip :=
  let x := groupOf g c
  setGroup g { x with goodSince := if groupGood g c then some (c.clk + 1) else none } c

/-- The pair of a group is in a switch-over gap (R284). -/
def inGap (g : Nat) (c : Chip) : Bool :=
  (groupOf g c).gapAt.isSome || (paired g c && (groupOf (partner g) c).gapAt.isSome)

/-- Some pair is in a gap (R234). -/
def anyGap (c : Chip) : Bool := (List.range 4).any (fun g => (groupOf g c).gapAt.isSome)

/-- A receiver of the group hears frames: the group is up (R263). -/
def recvUp (g : Nat) (c : Chip) : Bool :=
  lgState g c == lgActive || lgState g c == lgStandby || lgState g c == lgSwitching

/-- The node is the authority: NODE_AUTH, which reads 1 under MESH_ROOT (R275). -/
def isAuthority (c : Chip) : Bool := on P.lnkNodeAuth c || rd P.tlTlSource c == 1

/-- The authority frees an ID (R279). -/
def freeId (id : Nat) (c : Chip) : Chip :=
  if isAuthority c then { c with lk := { c.lk with holders := Tab.del c.lk.holders id } } else c

/-- A descriptor sends to a link group (R347). -/
def descLink (d : Desc) : Bool := bits d.w2.toNat 34 2 == 2

/-- LGRP and LCHAN of a descriptor. -/
def descGrp (d : Desc) : Nat := bits d.w4.toNat 16 2
def descChan (d : Desc) : Nat := bits d.w4.toNat 24 6

/-- Descriptors to a group, or a pair, that has gone down end with LINK_DOWN (R355). -/
def linkDownWork (g : Nat) (c : Chip) : Chip :=
  { c with dma := { c.dma with chans := c.dma.chans.map (fun p =>
      (p.1, match p.2.work with
        | some w =>
          if w.status.isNone && descLink w.desc && queueKey (descGrp w.desc) c == queueKey g c
          then { p.2 with work := some { w with status := some 9 } } else p.2
        | none => p.2)) } }

/-- The node that holds an ID leaves the mesh: the registers subscribed to it are STALE (R234). -/
def peerGone (id : Nat) (c : Chip) : Chip :=
  staleCase 2 (fun r => on (P.rrRregEn r) c && rd (P.rrRregNode r) c == id) c

/-- A group goes DOWN (R264). Its peer leaves the mesh, and the other groups hear so (R279, R234). When no paired member carries
on, its traffic stops: the group-down case of R234 and LINK_DOWN (R355). -/
def groupDown (g : Nat) (stops : Bool) (c : Chip) : Chip :=
  let c1 := wr (P.lgLgState g) lgDown (setGroup g { groupOf g c with downAt := c.clk, gapAt := none } c)
  let c2 := count (P.lgDownCount g) (setFlag (P.lgWentDown g) c1)
  let c3 := if stops then
      linkDownWork g (staleCase 1 (fun r => on (P.rrRregValid r) c && queueKey (rd (P.rrRregLg r) c) c == queueKey g c) c2)
    else c2
  if on (P.lgPeerValid g) c then
    let id := rd (P.lgPeerId g) c
    peerGone id (freeId id (floodControl Sub.leave id true 0 0 0 0 c3))
  else c3

/-! ### Pairs (R281–R285) -/

/-- A switch-over begins: `new` takes over from `old` (R283, R234). -/
def switchBegin (old new : Nat) (commanded received : Bool) (c : Chip) : Chip :=
  let c1 := setGroup old { groupOf old c with downAt := c.clk } (wr (P.lgLgState old) (if commanded then lgStandby else lgDown) c)
  let c2 := setGroup new { groupOf new c1 with gapAt := some c.clk } (wr (P.lgLgState new) lgSwitching c1)
  let c3 := wr (P.lgLastSwitchGt old) c.tl.gt (countT (P.lgSwitchCount old) (140 + old) (setFlag (P.lgSwitched old) c2))
  let c4 := if received then c3 else
    queueTiming new .control (ctlWords Sub.switch c3.lk.cseq (rd P.lnkNodeId c) (on P.lnkNodeValid c) 0 Config.deviceSerial
        (b2n commanded) 0) 0
      { c3 with lk := { c3.lk with cseq := (c3.lk.cseq + 1) % 256 } }
  raise (0xE4 + old) (staleCase 0 (fun _ => true) c4)

/-- A failure of a group (R264, R283): an active member with a standby partner switches over, any other goes DOWN. -/
def groupFail (g : Nat) (c : Chip) : Chip :=
  if lgState g c == lgActive then
    if paired g c && lgState (partner g) c == lgStandby && !inGap g c then switchBegin g (partner g) false false c
    else groupDown g true c
  else if lgState g c == lgStandby then groupDown g false c
  else c

/-- A commanded switch of a pair: its active member gives way to its standby member (R283, R285). -/
def switchPair (g : Nat) (commanded received : Bool) (c : Chip) : Chip :=
  if paired g c && !inGap g c then
    let a := if lgState g c == lgActive then g else partner g
    if lgState (partner a) c == lgStandby && lgState a c == lgActive then switchBegin a (partner a) commanded received c else c
  else c

/-- Apply the records held through the gaps, in arrival order, and end that reason of staleness (R234). -/
def gapRecords (c : Chip) : Chip :=
  if anyGap c then c
  else
    let c1 := staleEnd 0 { c with oc := { c.oc with held := [] } }
    if updateModes c then c.oc.held.foldl (fun c h => applyRecord h.lg h.word c) c1 else c1

/-- Every channel of a group or pair sends its unacknowledged frames again (R288). -/
def resendAll (g : Nat) (c : Chip) : Chip :=
  let k := queueKey g c
  let x := groupOf k c
  setGroup k { x with tx := x.tx.map (fun p => (p.1, { p.2 with resend := p.2.unacked })) } c

/-- The end of a switch-over gap (R284): the partner becomes ACTIVE once it has been good for 64 ticks, at g + 64 or later; at
g + 400 it goes DOWN if it has not. -/
def gapEnd (g : Nat) (healthy : Bool) (c : Chip) : Chip :=
  match (groupOf g c).gapAt with
  | none => c
  | some t =>
    let good := match (groupOf g c).goodSince with
      | some s => decide (s + 64 ≤ c.clk)
      | none => false
    let c0 := setGroup g { groupOf g c with gapAt := none } c
    if healthy && good && decide (t + 64 ≤ c.clk ∧ c.clk ≤ t + 400) then
      resendAll g (gapRecords (wr (P.lgLgState g) lgActive c0))
    else if decide (t + 400 ≤ c.clk) then groupDown g true (gapRecords c0)
    else c

/-! ### Joining (R275–R280) -/

/-- Send JOIN_REQ, asking for an ID if one is named (R276). The request stays pending until it is answered. -/
def joinSend (id : Nat) (named : Bool) (c : Chip) : Chip :=
  let c1 := match c.lk.joinFirst with
    | none => wr P.lnkJoinStatus 1 { c with lk := { c.lk with joinFirst := some c.clk, joinLast := c.clk } }
    | some _ => { c with lk := { c.lk with joinLast := c.clk } }
  floodControl Sub.joinReq (if named then id else 0) named 0 0 Config.deviceSerial 0 c1

/-- The request as the node's settings have it (R276). -/
def joinAsk (c : Chip) : Chip := joinSend (rd P.lnkNodeReq c) (!on P.lnkReqAny c) c

/-- The node asks on its own for the first time: a group is ACTIVE, no ID held, no request refused (R276, R277). -/
def joinFirstTime (c : Chip) : Chip :=
  if inModes [.syncing, .ready, .run, .hold] c && !on P.lnkNodeValid c && c.lk.joinFirst.isNone && !c.lk.joinBarred &&
      (List.range 4).any (fun g => lgState g c == lgActive) then joinAsk c
  else c

/-- A write of 1 to JOIN (R276): a node without an ID asks afresh. -/
def joinWrite (c : Chip) : Chip :=
  if on P.lnkNodeValid c then c
  else joinAsk { c with lk := { c.lk with joinFirst := none, joinBarred := false } }

/-- JOIN_RETRY (R276): every 100,000 ticks after the first request; NO_AUTHORITY after 1,000,000 without an answer. -/
def joinRetry (c : Chip) : Chip :=
  match c.lk.joinFirst with
  | none => c
  | some t =>
    if !on P.lnkNodeValid c && decide (t < c.clk) && (c.clk - t) % 100000 == 0 then
      joinAsk (if decide (t + 1000000 ≤ c.clk) then wr P.lnkJoinStatus 5 c else c)
    else c

/-- A write of 1 to LEAVE (R279). -/
def leaveWrite (c : Chip) : Chip :=
  let id := rd P.lnkNodeId c
  let c1 := if on P.lnkNodeValid c then peerGone id (freeId id (floodControl Sub.leave id true 0 0 Config.deviceSerial 0 c)) else c
  wr P.lnkNodeValid 0 (wr P.lnkJoinStatus 6 { c1 with lk := { c1.lk with joinFirst := none, joinBarred := true } })

/-- The authority takes ID 0 at its entry to SYNCING (R275). -/
def authorityEntry (c : Chip) : Chip :=
  if isAuthority c then
    wr P.lnkNodeMap (rd P.lnkNodeMap c ||| 1) (wr P.lnkJoinStatus 2 (wr P.lnkNodeValid 1 (wr P.lnkNodeId 0
      { c with lk := { c.lk with joinFirst := none, holders := Tab.ins c.lk.holders 0 Config.deviceSerial } })))
  else c

/-! ### Groups that come up -/

/-- A group begins to carry traffic: no beacon of its other end has been received, but misses count from the last one (R49,
R270). -/
def groupActive (g : Nat) (c : Chip) : Chip :=
  let p := c.tl.beacon.getD g BeaconPort.reset
  wr (P.lgLgState g) lgActive (setGroup g { groupOf g c with upAt := some c.clk }
    { c with tl := { c.tl with beacon := c.tl.beacon.set g { BeaconPort.reset with lastClk := p.lastClk, missed := p.missed } } })

/-- A group leaves TRAINING. `same`: its lanes reach the peer of its pair partner; if not, it is no standby member. Of two members
that come up in one tick the lower is the active one (R263, R281). -/
def comeUp (g : Nat) (same : Bool) (c : Chip) : Chip :=
  let p := partner g
  if paired g c && (lgState p c == lgActive || lgState p c == lgSwitching) then
    if !same then c
    else if decide (g < p) && lgState p c == lgActive && (groupOf p c).upAt == some c.clk then
      let ts := (groupOf p c).timing
      let c1 := wr (P.lgLgState p) lgStandby (setGroup p { groupOf p c with timing := [] } c)
      setGroup g { groupOf g (groupActive g c1) with timing := (groupOf g c1).timing ++ ts } (groupActive g c1)
    else wr (P.lgLgState g) lgStandby c
  else joinFirstTime (groupActive g c)

/-- GROUP_UP: the skew of a training group's lanes is measured, and the group leaves TRAINING once R263's conditions have held for
1,024 ticks. -/
def groupUp (g skew : Nat) (same : Bool) (c : Chip) : Chip :=
  if lgState g c == lgTraining then
    let c1 := noteGood g (wr (P.lgSkewMax g) (min skew 31) c)
    if 16 < skew then setFlag (P.lgDeskewFail g) c1
    else match (groupOf g c1).goodSince with
      | none => c1
      | some t => if t + 1024 ≤ c.clk then comeUp g same c1 else c1
  else c

/-- The lanes and groups take the states that the mode, LG_EN and the sleep bits give (R263, R289, R293). `fails`: a write, and
not a mode change, brings it about, so that an up group fails (R264). -/
def linksRefresh (fails : Bool) (c : Chip) : Chip :=
  let c1 := (List.range 16).foldl (fun c l =>
    let s := rxLaneState (on (P.laneRxSleep l) c) (rd (P.laneLaneState l) c) c
    wr (P.laneSigDetect l) (if s == laneOff then 0 else rd (P.laneSigDetect l) c) (wr (P.laneLaneState l) s c)) c
  let c2 := (List.range 4).foldl (fun c g =>
    let s := rxLaneState (on (P.ckRxSleep g) c) (rd (P.ckLaneState g) c) c
    wr (P.ckCkPresent g) (if s == laneOff || s == laneSleep then 0 else rd (P.ckCkPresent g) c) (wr (P.ckLaneState g) s c)) c1
  let awake (l : Nat) : Bool :=
    lanesAwake c && !(if l < 16 then on (P.laneTxSleep l) c else on (P.ckTxSleep (l - 16)) c)
  let c3 := { c2 with lk := { c2.lk with
    txReady := c2.lk.txReady.filter awake,
    wokenAt := (List.range 20).foldl (fun t l =>
      if awake l then (if (Tab.find t l).isSome then t else Tab.ins t l c.clk) else Tab.del t l) c2.lk.wokenAt } }
  (List.range 4).foldl (fun c g =>
    let c4 := noteGood g c
    let asleep := (List.range 4).any (fun k => rd (P.laneLaneState (4 * g + k)) c == laneSleep) || rd (P.ckLaneState g) c == laneSleep
    let rest := if linksOff c || !on (P.lgLgEn g) c then lgOff else if asleep then lgSleep
      else if lgState g c == lgOff || lgState g c == lgSleep then lgTraining else lgState g c
    if fails && recvUp g c && rest != lgState g c then groupFail g c4
    else if fails && lgState g c == lgDown then c4
    else wr (P.lgLgState g) rest c4) c3

/-- A write to PAIR (R281): of two ACTIVE members the one that reached ACTIVE first stays active, the lower on a tie; a member no
longer paired carries its own traffic. -/
def pairWritten (c : Chip) : Chip :=
  [0, 2].foldl (fun c g =>
    if paired g c then
      if lgState g c == lgActive && lgState (g + 1) c == lgActive then
        let later := decide ((groupOf (g + 1) c).upAt.getD 0 < (groupOf g c).upAt.getD 0)
        wr (P.lgLgState (if later then g else g + 1)) lgStandby c
      else c
    else [g, g + 1].foldl (fun c g => if lgState g c == lgStandby then wr (P.lgLgState g) lgActive c else c) c) c

/-! ### Events of lanes and clocks -/

/-- LANE_ALIGN: an ALIGNING lane finds its character boundary (R262). -/
def laneAlign (l : Nat) (c : Chip) : Chip :=
  if rd (P.laneLaneState l) c == laneAligning then
    noteGood (l / 4) (wr (P.laneSigDetect l) 1 (wr (P.laneLaneState l) laneAligned c))
  else c

/-- LANE_ALIGN_LOSS: the fourth code error within 256 characters (R262, R264). `sig`: a signal is still there (R295). -/
def laneAlignLoss (l : Nat) (sig : Bool) (c : Chip) : Chip :=
  if rd (P.laneLaneState l) c == laneAligned then
    groupFail (l / 4) (noteGood (l / 4) (count (P.laneAlignLossCount l) (wr (P.laneSigDetect l) (b2n sig)
      (wr (P.laneLaneState l) laneAligning c))))
  else c

/-- CODE_ERROR: an awake lane that carries coded characters receives a code error (R259, R263). -/
def codeErrorOn (l : Nat) (why : CodeErr) (c : Chip) : Chip :=
  if decide (laneAligning ≤ rd (P.laneLaneState l) c) && rd (P.lanePattern l) c == 0 then
    let c1 := match why with
      | .invalid => count (P.laneCodeErrCount l) c
      | .disparity => count (P.laneDispErrCount l) c
    restartGood (l / 4) (wr (P.laneSigDetect l) 1 c1)
  else c

/-- PRBS_ERROR: a bit error of a lane's test pattern (R291). -/
def prbsErrorOn (l : Nat) (c : Chip) : Chip :=
  if rd (P.lanePattern l) c != 0 && c.md.mode == .bench then count (P.lanePrbsErrCount l) c else c

/-- The member of the uplink whose clock lane the fabric PLL uses, under TL_REF_SEL = 1 (R44, R283). -/
def refGroup (c : Chip) : Option Nat :=
  if rd P.tlTlSource c == 2 && on P.tlTlRefSel c then
    let u := rd P.tlTlUplink c
    if paired u c && (lgState (partner u) c == lgActive || lgState (partner u) c == lgSwitching) then some (partner u) else some u
  else none

/-- The selected reference is there, as far as a clock lane is selected (R44). -/
def refPresent (c : Chip) : Bool :=
  match refGroup c with
  | some g => on (P.ckCkPresent g) c
  | none => true

/-- A selected clock lane that carries no clock is a loss of reference, for as long as it lasts; one that a switch-over has
replaced is not (R44, R14). -/
def refWatch (c : Chip) : Chip :=
  let lost := (c.pw.goodAt.getD 0 none).isNone
  if refPresent c then (if lost then { c with pw := { c.pw with goodAt := c.pw.goodAt.set 0 (some c.clk) } } else c)
  else if lost then c else clockLoss .refclk none c

/-- CK_LOSS: the clock lane shows no edge for 16 ticks (R264, R44). -/
def ckLossOn (g : Nat) (c : Chip) : Chip :=
  if on (P.ckCkPresent g) c then
    refWatch (groupFail g (noteGood g (wr (P.ckSigDetect g) 0 (wr (P.ckLaneState g) laneAligning
      (wr (P.ckCkPresent g) 0 (count (P.ckCkLossCount g) c))))))
  else c

/-- CLOCK_LANE_RETURN: the clock lane shows edges again (R263). -/
def ckReturn (g : Nat) (c : Chip) : Chip :=
  if decide (laneAligning ≤ rd (P.ckLaneState g) c) then
    noteGood g (wr (P.ckSigDetect g) 1 (wr (P.ckCkPresent g) 1 (wr (P.ckLaneState g) laneAligned c)))
  else c

/-- BUF_SLIP: the receive buffer of an awake group slips (R260, R264). -/
def bufSlipOn (g : Nat) (c : Chip) : Chip :=
  if decide (lgTraining ≤ lgState g c) then groupFail g (setFlag (P.lgBufSlip g) c) else c

/-- A cause of R264 stands: a lane not ALIGNED, no clock, BUF_SLIP, four CRC failures, or LG_EN = 0. -/
def failCause (g : Nat) (c : Chip) : Bool :=
  (List.range 4).any (fun k => rd (P.laneLaneState (4 * g + k)) c != laneAligned) || !on (P.ckCkPresent g) c ||
  on (P.lgBufSlip g) c || decide (4 ≤ (groupOf g c).crcFails.length) || !on (P.lgLgEn g) c

/-- DOWN_HOLD_END: 1,024 ticks after it went DOWN a group trains again (R263). -/
def downHoldEnd (g : Nat) (c : Chip) : Chip :=
  if lgState g c == lgDown && decide ((groupOf g c).downAt + 1024 ≤ c.clk) then
    linksRefresh false (wr (P.lgLgState g) lgTraining c)
  else c

/-- TRANSMITTER_READY: an awake transmitter is ready to send (R289). -/
def txReadyOn (l : Nat) (c : Chip) : Chip :=
  if (Tab.find c.lk.wokenAt l).isSome && !c.lk.txReady.contains l then
    { c with lk := { c.lk with txReady := c.lk.txReady ++ [l] } }
  else c

/-! ### Frames received -/

/-- PEER_ID and PEER_VALID follow the last valid frame (R294). -/
def heard (rx : Rx) (c : Chip) : Chip :=
  wr (P.lgPeerId rx.lg.val) rx.src.val (wr (P.lgPeerValid rx.lg.val) (b2n rx.srcValid) c)

/-- A timing frame passes R268 and is accepted in the mode (R293). -/
def timingHeard (rx : Rx) (c : Chip) : Bool := timingModes c && recvUp rx.lg.val c

/-- FRAME_DISCARD (R268, R264, R273): what a discarded frame counts. -/
def frameDiscard (g : Nat) (why : FrameBad) (c : Chip) : Chip :=
  if timingModes c && recvUp g c then
    match why with
    | .badCrc =>
      let x := groupOf g c
      let fails := x.crcFails.filter (fun t => c.clk < t + 1024) ++ [c.clk]
      let c1 := countT (P.lgCrcErrCount g) (136 + g) (setGroup g { x with crcFails := fails } c)
      if 4 ≤ fails.length then groupFail g (setGroup g { groupOf g c1 with crcFails := [] } c1) else c1
    | .badSubtype => count (P.lgTimingFramesRx g) (count (P.lgFrameBadCount g) c)
    | _ => setFlag (P.lgFrameErr g) (count (P.lgFrameBadCount g) c)
  else c

/-- A control frame the node acts on (R273): its key is new and not its own. It goes on to the other ACTIVE groups, but a SWITCH
does not. -/
def ctlTake (sub : Nat) (rx : Rx) (k : Ctl) (act : Chip → Chip) (c : Chip) : Chip :=
  if timingHeard rx c then
    let c1 := heard rx (count (P.lgTimingFramesRx rx.lg.val) c)
    let key := (k.originSerial.toNat, k.cseq.toNat)
    if k.originSerial.toNat == Config.deviceSerial % 2 ^ 32 || c1.lk.seen.contains key then c1
    else
      let c2 := { c1 with lk := { c1.lk with seen := (key :: c1.lk.seen).take 256 } }
      let c3 := if sub == Sub.switch then c2 else
        floodTiming .control (ctlWords sub k.cseq.toNat k.node.val k.nodeValid k.status.toNat k.originSerial.toNat k.arg.toNat
          k.subjectSerial.toNat) (some rx.lg.val) 0 c2
      act c3
  else c

/-- The node's own serial as a frame carries it. -/
def ownSerial : Nat := Config.deviceSerial % 2 ^ 32

/-- NODE_MAP notes an ID as held (R277). -/
def mapId (id : Nat) (c : Chip) : Chip := wr P.lnkNodeMap (rd P.lnkNodeMap c ||| 2 ^ id) c

/-- The authority grants an ID to a serial (R277). -/
def grant (id serial : Nat) (c : Chip) : Chip :=
  floodControl Sub.joinAck id true 0 0 serial 0 (mapId id { c with lk := { c.lk with holders := Tab.ins c.lk.holders id serial } })

/-- The authority's answer to a JOIN_REQ (R277). -/
def answerJoin (k : Ctl) (c : Chip) : Chip :=
  let serial := k.subjectSerial.toNat
  if isAuthority c then
    match c.lk.holders.find? (fun p => p.2 == serial) with
    | some (id, _) => grant id serial c
    | none =>
      if k.nodeValid then
        if (Tab.find c.lk.holders k.node.val).isSome then floodControl Sub.joinNak k.node.val true 2 0 serial 0 c
        else grant k.node.val serial c
      else match (List.range 64).find? (fun id => (Tab.find c.lk.holders id).isNone) with
        | some id => grant id serial c
        | none => floodControl Sub.joinNak 0 false 1 0 serial 0 (count P.lnkJoinRefusedCount c)
  else c

/-- A second authority answers in the mesh (R275). -/
def conflict (c : Chip) : Chip := setFlagIf (isAuthority c) P.lnkAuthConflict c

/-- JOIN_ACK (R277). -/
def joinAcked (k : Ctl) (c : Chip) : Chip :=
  let c1 := conflict (if k.nodeValid then mapId k.node.val c else c)
  if k.subjectSerial.toNat == ownSerial then
    wr P.lnkJoinStatus 2 (wr P.lnkNodeValid 1 (wr P.lnkNodeId k.node.val
      { c1 with lk := { c1.lk with joinFirst := none, joinBarred := false } }))
  else c1

/-- JOIN_NAK (R277): MESH_FULL or ID_TAKEN, and no more requests but by a write to JOIN. -/
def joinRefused (k : Ctl) (c : Chip) : Chip :=
  let c1 := conflict c
  if k.subjectSerial.toNat == ownSerial then
    wr P.lnkJoinStatus (if k.status.toNat == 1 then 3 else 4) { c1 with lk := { c1.lk with joinFirst := none, joinBarred := true } }
  else c1

/-- LEAVE (R279, R280, R234): the ID is free and its registers are stale; a node that finds itself named asks for it again. -/
def leaveHeard (k : Ctl) (c : Chip) : Chip :=
  let id := k.node.val
  let m := rd P.lnkNodeMap c
  let c1 := freeId id (count P.lnkLeaveSeenCount (wr P.lnkNodeMap (if bitAt m id then m - 2 ^ id else m) c))
  let c2 := peerGone id c1
  if on P.lnkNodeValid c && rd P.lnkNodeId c == id then
    joinSend id true (wr P.lnkNodeValid 0 { c2 with lk := { c2.lk with joinFirst := none } })
  else c2

/-- SWITCH (R283, R285): on the standby member it begins a switch-over. -/
def switchHeard (g : Nat) (k : Ctl) (c : Chip) : Chip :=
  if lgState g c == lgStandby then switchPair g (bitAt k.arg.toNat 0) true c else c

/-- OUTCOME_FRAME_RX (R231, R233, R234, R271, R282): a standby member's records are
discarded outside its gap; in a gap of any pair the records are held. -/
def outcomeFrame (rx : Rx) (recs : List Nat) (c : Chip) : Chip :=
  let g := rx.lg.val
  if trafficModes c && (recvUp g c || inGap g c) && decide (1 ≤ recs.length ∧ recs.length ≤ 8) then
    let c1 := heard rx (countT (P.lgOutFramesRx g) (132 + g) c)
    if lgState g c == lgStandby && !inGap g c then c1
    else if anyGap c then { c1 with oc := { c1.oc with held := c1.oc.held ++ recs.map (fun w => { lg := g, word := w }) } }
    else recs.foldl (fun c w => applyRecord g w c) c1
  else c

/-! ### Bulk traffic (R286–R288, R356) -/

/-- The 64-bit words that bytes spell, padded with zeros. -/
def toWords (n : Nat) (bs : List Byte) : List Nat := (List.range n).map (fun k => leNat ((bs.drop (8 * k)).take 8))

/-- A bulk channel's sending side; a pair's channels are one (R288). -/
def txOf (g ch : Nat) (c : Chip) : BulkTx := Tab.get (groupOf (queueKey g c) c).tx ch BulkTx.reset

/-- Put it. -/
def setTx (g ch : Nat) (x : BulkTx) (c : Chip) : Chip :=
  let k := queueKey g c
  setGroup k { groupOf k c with tx := Tab.put (groupOf k c).tx ch BulkTx.reset x } c

/-- A bulk channel's receiving side. -/
def rxOf (g ch : Nat) (c : Chip) : BulkRx := Tab.get (groupOf (queueKey g c) c).rx ch BulkRx.reset

/-- Put it. -/
def setRxCh (g ch : Nat) (x : BulkRx) (c : Chip) : Chip :=
  let k := queueKey g c
  setGroup k { groupOf k c with rx := Tab.put (groupOf k c).rx ch BulkRx.reset x } c

/-- Unacknowledged frames of a group (R288). -/
def unackedOf (g : Nat) (c : Chip) : Nat := (groupOf (queueKey g c) c).tx.foldl (fun n p => n + p.2.unacked.length) 0

/-- The LINK_RX ring has room for an accepted frame (R356). -/
def rxRoom (g ch : Nat) (c : Chip) : Bool :=
  let x := ringOf (rd (P.rxRxRing g ch) c) c
  on (P.rxRxEn g ch) c && x.run && decide (1 ≤ ringRoom x)

/-- The 64-byte entry of an accepted frame (R356). -/
def rxEntry (g : Nat) (b : Bulk) (gt : Nat) : List Byte :=
  leBytes 1 (b.chan.val + 64 * g) ++ leBytes 1 (b.dataLen + 64 * b2n b.last) ++ leBytes 2 b.bseq.toNat ++ leBytes 4 (gt % 2 ^ 32) ++
    b.data ++ List.replicate (56 - b.data.length) 0

/-- BULK_FRAME_RX (R287, R356). -/
def bulkFrame (rx : Rx) (b : Bulk) (c : Chip) : Chip :=
  let g := rx.lg.val
  let ch := b.chan.val
  if trafficModes c && (recvUp g c || inGap g c) && decide (1 ≤ b.dataLen ∧ b.dataLen ≤ 56) && b.data.length == b.dataLen then
    let c1 := heard rx c
    let x := rxOf g ch c1
    if b.bseq.toNat == x.next then
      if rxRoom g ch c1 then
        let r := rd (P.rxRxRing g ch) c1
        let y := ringOf r c1
        let c2 := setRxCh g ch { x with next := (x.next + 1) % 2 ^ 16, ackDue := true } (count (P.lgBulkRxCount g) c1)
        ringProduce r 1 false (emit (.hostWrite y.fn (ringAddr y 64 y.pidx) (rxEntry g b c.tl.gt)) c2)
      else count (P.rxRxRingFullCount g) c1
    else setRxCh g ch { x with ackDue := true } (count (P.lgBulkDiscardCount g) c1)
  else c

/-- BULK_ACK (R288): frames before NEXT_BSEQ are acknowledged. -/
def bulkAckHeard (rx : Rx) (ch next : Nat) (c : Chip) : Chip :=
  let g := rx.lg.val
  if trafficModes c && (recvUp g c || inGap g c) then
    let c1 := heard rx c
    let x := txOf g ch c1
    let done (f : BulkFrame) : Bool := let d := (next + 2 ^ 16 - f.bseq) % 2 ^ 16; decide (1 ≤ d ∧ d ≤ 2 ^ 15)
    if x.unacked.any done then
      setTx g ch { x with unacked := x.unacked.filter (fun f => !done f), resend := x.resend.filter (fun f => !done f),
                          since := c.clk } c1
    else c1
  else c

/-- BULK_RESEND (R288): 4,096 ticks without an advance. -/
def bulkResendOn (g ch : Nat) (c : Chip) : Chip :=
  let x := txOf g ch c
  if !x.unacked.isEmpty && decide (x.since + 4096 ≤ c.clk) then setTx g ch { x with resend := x.unacked, since := c.clk } c else c

/-! ### Sending (R274) -/

/-- The line is free in this tick. -/
def lineFree (g : Nat) (c : Chip) : Bool := decide ((groupOf g c).busyTo ≤ c.clk)

/-- A frame of n payload words starts: it and its idle column take 3 + 2n columns of 0.4 ticks. -/
def lineTake (g n : Nat) (c : Chip) : Chip := setGroup g { groupOf g c with busyTo := c.clk + (3 + 2 * n) * 2 / 5 } c

/-- A timing frame may start: none has in the previous 128 ticks, and the line is free (R274). -/
def timingMay (g : Nat) (c : Chip) : Bool :=
  timingModes c && txUp g c && lineFree g c &&
  (match (groupOf g c).lastTiming with | none => true | some t => decide (t + 128 ≤ c.clk))

/-- The beacon of a group is due (R270). -/
def beaconDue (g : Nat) (c : Chip) : Bool :=
  match (c.tl.beacon.getD g BeaconPort.reset).txDue with
  | some t => decide (t ≤ c.tl.gt)
  | none => false

/-- The timing frame that goes next: snapshots before control frames; a standby member sends only SWITCH (R274, R282). -/
def nextTiming (g : Nat) (c : Chip) : Option Timing :=
  let ready := (groupOf g c).timing.filter (fun t => decide (t.notBefore ≤ c.clk) &&
    (!asStandby g c || (t.kind == .control && (t.words.headD 0) % 256 == Sub.switch)))
  match ready.find? (fun t => t.kind == .snapshot) with
  | some t => some t
  | none => ready.head?

/-- A timing frame starts on a group (R274). -/
def timingSent (g ty : Nat) (ws : List Nat) (c : Chip) : Chip :=
  let c1 := lineTake g ws.length c
  sendFrame g ty (asStandby g c) ws (count (P.lgTimingFramesTx g) (setGroup g { groupOf g c1 with lastTiming := some c.clk } c1))

/-- TIMING_FRAME_TX: a waiting snapshot or control frame starts (R274). -/
def timingFrameTx (g : Nat) (c : Chip) : Chip :=
  if timingMay g c && !beaconDue g c then
    match nextTiming g c with
    | none => c
    | some t =>
      let x := groupOf g c
      timingSent g (if t.kind == .snapshot then 3 else 4) t.words (setGroup g { x with timing := x.timing.erase t } c)
  else c

/-- The line of a group whose transmit side is up can take an outcome frame: none has started in the period, and no timing frame
goes first (R274, R289). -/
def outcomeMay (g : Nat) (c : Chip) : Bool :=
  trafficModes c && txUp g c && lineFree g c && (groupOf g c).period != some (c.tl.gt / 8) &&
  !(timingMay g c && (beaconDue g c || (nextTiming g c).isSome))

/-- The period begins, or the line was taken as it began (R274). -/
def outcomeStart (g : Nat) (c : Chip) : Bool :=
  c.tl.gt % 8 == 0 || decide (c.clk < (groupOf g c).busyTo + c.tl.gt % 8)

/-- An outcome frame starts on a member of a queue. -/
def outcomeSent (g : Nat) (out : List Nat) (c : Chip) : Chip :=
  let c1 := lineTake g out.length c
  sendFrame g 2 (asStandby g c) out
    (countT (P.lgOutFramesTx g) (128 + g) (setGroup g { groupOf g c1 with period := some (c.tl.gt / 8) } c1))

/-- The other member of a pair, if its transmit side is up, is to send the same frame (R282). -/
def mirrorTo (g : Nat) (out : List Nat) (c : Chip) : Chip :=
  let p := partner g
  if paired g c && txUp p c then setGroup p { groupOf p c with mirror := (groupOf p c).mirror ++ [out] } c else c

/-- OUTCOME_FRAME_TX: up to eight records of the queue leave on the member that carries its traffic, and then on the other member,
as soon as that one's own line is free (R230, R274, R282, R289). -/
def outcomeFrameTx (g : Nat) (c : Chip) : Chip :=
  if outcomeMay g c then
    match (groupOf g c).mirror with
    | out :: rest => outcomeSent g out (setGroup g { groupOf g c with mirror := rest } c)
    | [] =>
      let q := outQueue g c
      if sendMember g c == g && outcomeStart g c && !q.isEmpty then
        mirrorTo g (q.take 8) (outcomeSent g (q.take 8)
          { c with oc := { c.oc with queues := Tab.put c.oc.queues (queueKey g c) [] (q.drop 8) } })
      else c
  else c

/-- The channels of a group in the order they are served: after the last one served (R288). -/
def chanOrder (last : Nat) : List Nat := (List.range 64).map (fun k => (last + 1 + k) % 64)

/-- The acknowledgement that goes next: due, and none on its channel in the last 64 ticks (R287). -/
def nextAck (g : Nat) (c : Chip) : Option Nat :=
  (List.range 64).find? (fun ch => let x := rxOf g ch c
    x.ackDue && (match x.ackAt with | none => true | some t => decide (t + 64 ≤ c.clk)))

/-- A bulk frame's payload (R286). -/
def bulkWords (ch : Nat) (f : BulkFrame) : List Nat :=
  (ch + (f.data.length + 64 * b2n f.last) * 2 ^ 8 + f.bseq % 2 ^ 16 * 2 ^ 16) :: toWords ((f.data.length + 7) / 8) f.data

/-- A bulk frame of a channel starts. -/
def sendBulk (g ch : Nat) (f : BulkFrame) (again : Bool) (c : Chip) : Chip :=
  let ws := bulkWords ch f
  let c1 := lineTake g ws.length (if again then count (P.lgBulkResentCount g) c else c)
  sendFrame g 5 false ws (count (P.lgBulkTxCount g)
    (setGroup g { groupOf g c1 with period := some (c.tl.gt / 8), lastChan := ch } c1))

/-- BULK_FRAME_TX: at a period boundary with nothing else waiting, an acknowledgement, a resend or a new frame starts; no BULK
frame starts in a pause (R274, R287, R288, R433). -/
def bulkFrameTx (g : Nat) (c : Chip) : Chip :=
  if trafficModes c && sendMember g c == g && txUp g c && c.tl.gt % 8 == 0 && lineFree g c &&
      (groupOf g c).period != some (c.tl.gt / 8) && (outQueue g c).isEmpty && (groupOf g c).mirror.isEmpty && (nextTiming g c).isNone && !beaconDue g c then
    match nextAck g c with
    | some ch =>
      let x := rxOf g ch c
      let c1 := lineTake g 1 (setRxCh g ch { x with ackDue := false, ackAt := some c.clk } c)
      sendFrame g 6 false [ch + x.next * 2 ^ 16] (setGroup g { groupOf g c1 with period := some (c.tl.gt / 8) } c1)
    | none =>
      if paused c then c else
      let order := chanOrder (groupOf g c).lastChan
      match order.find? (fun ch => !(txOf g ch c).resend.isEmpty) with
      | some ch =>
        let x := txOf g ch c
        match x.resend with
        | [] => c
        | f :: r => sendBulk g ch f true (setTx g ch { x with resend := r } c)
      | none =>
        match order.find? (fun ch => !(txOf g ch c).waiting.isEmpty) with
        | none => c
        | some ch =>
          let x := txOf g ch c
          match x.waiting with
          | [] => c
          | f :: r =>
            if unackedOf g c < 64 then
              sendBulk g ch f false (setTx g ch { x with waiting := r, unacked := x.unacked ++ [f],
                                                         since := if x.unacked.isEmpty then c.clk else x.since } c)
            else c
  else c

/-! ### Bench (R292) -/

/-- OUT_TEST_REC: a record of the host's own making, HOPS 0, on every group SHARE_LG names (R292). -/
def outTestRec (v : Nat) (c : Chip) : Chip :=
  (queuesOf (rd P.outShareLg c) c).foldl (fun c q => enqueueRec q (setBits v 22 2 0) c) c

/-! ### Commands -/

/-- LANE_ALIGN (R262). -/
def execLaneAlign (l : Fin 16) (s : State) : Host.Outcome State Fault Refusal := onChip (laneAlign l.val) s

/-- LANE_ALIGN_LOSS (R262, R264). -/
def execLaneAlignLoss (x : LaneLoss) (s : State) : Host.Outcome State Fault Refusal := onChip (laneAlignLoss x.lane.val x.signal) s

/-- GROUP_UP (R263, R276, R281). -/
def execGroupUp (lg : Fin 4) (x : GroupFound) (s : State) : Host.Outcome State Fault Refusal :=
  onChip (groupUp lg.val x.skew x.same) s

/-- GROUP_FAIL (R264, R279, R283): a group with a cause of R264 fails. -/
def execGroupFail (lg : Fin 4) (s : State) : Host.Outcome State Fault Refusal :=
  onChip (fun c => if failCause lg.val c then groupFail lg.val c else c) s

/-- BUF_SLIP (R260, R264). -/
def execBufSlip (lg : Fin 4) (s : State) : Host.Outcome State Fault Refusal := onChip (bufSlipOn lg.val) s

/-- DOWN_HOLD_END (R263). -/
def execDownHoldEnd (lg : Fin 4) (s : State) : Host.Outcome State Fault Refusal := onChip (downHoldEnd lg.val) s

/-- SWITCH (R273, R283). -/
def execSwitchFrame (rx : Rx) (k : Ctl) (s : State) : Host.Outcome State Fault Refusal :=
  rxChip rx.lg.val (.switchFrame rx k) (ctlTake Sub.switch rx k (switchHeard rx.lg.val k)) s

/-- SWITCH_GAP_END (R234, R284, R288). -/
def execSwitchGapEnd (lg : Fin 4) (healthy : Bool) (s : State) : Host.Outcome State Fault Refusal :=
  onChip (gapEnd lg.val healthy) s

/-- JOIN_REQ (R273, R277). -/
def execJoinReq (rx : Rx) (k : Ctl) (s : State) : Host.Outcome State Fault Refusal :=
  rxChip rx.lg.val (.joinReq rx k) (ctlTake Sub.joinReq rx k (answerJoin k)) s

/-- JOIN_ACK (R273, R275, R277). -/
def execJoinAck (rx : Rx) (k : Ctl) (s : State) : Host.Outcome State Fault Refusal :=
  rxChip rx.lg.val (.joinAck rx k) (ctlTake Sub.joinAck rx k (joinAcked k)) s

/-- JOIN_NAK (R273, R275, R277). -/
def execJoinNak (rx : Rx) (k : Ctl) (s : State) : Host.Outcome State Fault Refusal :=
  rxChip rx.lg.val (.joinNak rx k) (ctlTake Sub.joinNak rx k (joinRefused k)) s

/-- LEAVE_FRAME (R273, R279, R280, R234). -/
def execLeaveFrame (rx : Rx) (k : Ctl) (s : State) : Host.Outcome State Fault Refusal :=
  rxChip rx.lg.val (.leaveFrame rx k) (ctlTake Sub.leave rx k (leaveHeard k)) s

/-- JOIN_RETRY (R276). -/
def execJoinRetry (s : State) : Host.Outcome State Fault Refusal := onChip joinRetry s

/-- BULK_FRAME_TX (R274, R286–R288). -/
def execBulkFrameTx (lg : Fin 4) (s : State) : Host.Outcome State Fault Refusal := onChip (bulkFrameTx lg.val) s

/-- BULK_FRAME_RX (R287, R356). -/
def execBulkFrameRx (rx : Rx) (b : Bulk) (s : State) : Host.Outcome State Fault Refusal :=
  rxChip rx.lg.val (.bulkFrameRx rx b) (bulkFrame rx b) s

/-- BULK_ACK (R288). -/
def execBulkAck (rx : Rx) (ch : Fin 64) (next : BitVec 16) (s : State) : Host.Outcome State Fault Refusal :=
  rxChip rx.lg.val (.bulkAck rx ch next) (bulkAckHeard rx ch.val next.toNat) s

/-- BULK_RESEND (R288). -/
def execBulkResend (lg : Fin 4) (ch : Fin 64) (s : State) : Host.Outcome State Fault Refusal := onChip (bulkResendOn lg.val ch.val) s

/-- OUTCOME_FRAME_TX (R230, R274, R282). -/
def execOutcomeFrameTx (lg : Fin 4) (s : State) : Host.Outcome State Fault Refusal := onChip (outcomeFrameTx lg.val) s

/-- OUTCOME_FRAME_RX (R231, R233, R234, R271, R282). -/
def execOutcomeFrameRx (rx : Rx) (recs : List (BitVec 64)) (s : State) : Host.Outcome State Fault Refusal :=
  rxChip rx.lg.val (.outcomeFrameRx rx recs) (outcomeFrame rx (recs.map (·.toNat))) s

/-- TIMING_FRAME_TX (R57, R273, R274). -/
def execTimingFrameTx (lg : Fin 4) (s : State) : Host.Outcome State Fault Refusal := onChip (timingFrameTx lg.val) s

/-- TRANSMITTER_READY (R289). -/
def execTransmitterReady (l : Fin 20) (s : State) : Host.Outcome State Fault Refusal := onChip (txReadyOn l.val) s

/-- CLOCK_LANE_RETURN (R263). -/
def execClockLaneReturn (lg : Fin 4) (s : State) : Host.Outcome State Fault Refusal := onChip (ckReturn lg.val) s

/-- FRAME_DISCARD (R264, R268, R273). -/
def execFrameDiscard (lg : Fin 4) (why : FrameBad) (s : State) : Host.Outcome State Fault Refusal :=
  rxChip lg.val (.frameDiscard lg why) (frameDiscard lg.val why) s

/-- CODE_ERROR (R259). -/
def execCodeError (l : Fin 16) (why : CodeErr) (s : State) : Host.Outcome State Fault Refusal := onChip (codeErrorOn l.val why) s

/-- PRBS_ERROR (R291). -/
def execPrbsError (l : Fin 16) (s : State) : Host.Outcome State Fault Refusal := onChip (prbsErrorOn l.val) s

end Sys2Proof.Machine
end

