-- ==== Sys2Proof/Machine/SqWord.lean ====
section
/-!
DEFINITION. The sequencers' instruction words (R192–R194, R196, R198, R200): the instructions, the decoder and an encoder.
-/

namespace Sys2Proof.Machine

/-- The instructions of R193 with the fields each uses. `ext` is the word that completes a late-bound one (R194). -/
inductive SqInstr where
  | nop
  | play (lb : BitVec 1) (lane : BitVec 4) (adv : BitVec 16) (imm : BitVec 32)
  | acq (lane : BitVec 4) (adv : BitVec 16) (len : BitVec 23)
  | frm (lb rep : BitVec 1) (lane : BitVec 4) (adv : BitVec 16) (imm : BitVec 32)
  | setf (lane : BitVec 4) (fw : BitVec 48)
  | shot (adv : BitVec 16)
  | mark (adv : BitVec 16) (pin : BitVec 3) (act : BitVec 2) (width : BitVec 24)
  | post (adv : BitVec 16) (producer : BitVec 1)
  | txc (adv : BitVec 16) (drawer : BitVec 16)
  | calw (adv : BitVec 16) (list : BitVec 4)
  | stop
  | waitt (base : BitVec 2) (reg : BitVec 3) (imm : BitVec 32)
  | waito (sel : BitVec 16)
  | bro (mode : BitVec 2) (target : BitVec 13) (sel : BitVec 16) (value : BitVec 2)
  | loop (endl : BitVec 13) (count : BitVec 32)
  | loopr (reg : BitVec 3) (endl : BitVec 13)
  | endl
  | call (target : BitVec 13)
  | ret
  | ldr (high : BitVec 1) (reg : BitVec 3) (imm : BitVec 32)
  | addr (reg : BitVec 3) (imm : BitVec 32)
  | getc (reg : BitVec 3)
  | ext (sel : BitVec 16) (alt : BitVec 32)
  deriving DecidableEq, Repr

/-! The fields of R192. -/

/-- OP, bits [63:56]. -/
def sqOp (w : Word) : BitVec 8 := w.extractLsb' 56 8
/-- LN, bits [55:52]. -/
def sqLn (w : Word) : BitVec 4 := w.extractLsb' 52 4
/-- F, bits [51:48]. -/
def sqF (w : Word) : BitVec 4 := w.extractLsb' 48 4
/-- X, bits [47:32]. -/
def sqX (w : Word) : BitVec 16 := w.extractLsb' 32 16
/-- IMM, bits [31:0]. -/
def sqImm (w : Word) : BitVec 32 := w.extractLsb' 0 32

/-- A shelf operand: with NONE, bit 13, no other bit; otherwise bits [15:14] are 0 (R193, R195). -/
def playOk (imm : BitVec 32) : Bool :=
  if imm.extractLsb' 13 1 == 1 then imm == 0x2000 else imm.extractLsb' 14 2 == 0

/-- The opcodes of R193. -/
def sqOpcode (op : BitVec 8) : Bool :=
  decide (op.toNat ≤ 0x0A) || decide (0x10 ≤ op.toNat ∧ op.toNat ≤ 0x16) || decide (0x18 ≤ op.toNat ∧ op.toNat ≤ 0x1A) ||
    op.toNat == 0x1F

/-- Some instruction, if the condition of R192 holds for its operands. -/
def okThen (b : Bool) (i : SqInstr) : Option SqInstr := if b then some i else none

/-- Read an instruction word: none where its opcode is not one of R193, or where its operands raise BAD_OPERAND (R192, R193,
R196, R198, R200). -/
def decodeSq (w : Word) : Option SqInstr :=
  let l := sqLn w
  let f := sqF w
  let x := sqX w
  let i := sqImm w
  let r := l.extractLsb' 0 3
  let lz := l == 0
  let fz := f == 0
  let xz := x == 0
  let iz := i == 0
  let rok := l.extractLsb' 3 1 == 0
  let xok := x.extractLsb' 13 3 == 0
  let a := x.extractLsb' 0 13
  match (sqOp w).toNat with
  | 0x00 => okThen (lz && fz && xz && iz) .nop
  | 0x01 => okThen (f.extractLsb' 1 3 == 0 && playOk i) (.play (f.extractLsb' 0 1) l x i)
  | 0x02 => okThen (fz && decide (4 ≤ i.toNat ∧ i.toNat ≤ 4194304)) (.acq l x (i.extractLsb' 0 23))
  | 0x03 => okThen (f.extractLsb' 2 2 == 0) (.frm (f.extractLsb' 0 1) (f.extractLsb' 1 1) l x i)
  | 0x04 => okThen fz (.setf l (w.extractLsb' 0 48))
  | 0x05 => okThen (lz && fz && iz) (.shot x)
  | 0x06 => okThen (lz && fz && i.extractLsb' 3 1 == 0 && i.extractLsb' 6 2 == 0 &&
      (i.extractLsb' 4 2 != 2 || i.extractLsb' 8 24 != 0)) (.mark x (i.extractLsb' 0 3) (i.extractLsb' 4 2) (i.extractLsb' 8 24))
  | 0x07 => okThen (lz && fz && i.extractLsb' 1 31 == 0) (.post x (i.extractLsb' 0 1))
  | 0x08 => okThen (lz && fz && i.extractLsb' 16 16 == 0) (.txc x (i.extractLsb' 0 16))
  | 0x09 => okThen (lz && fz && i.extractLsb' 4 28 == 0) (.calw x (i.extractLsb' 0 4))
  | 0x0A => okThen (lz && fz && xz && iz) .stop
  | 0x10 => okThen (f.extractLsb' 2 2 == 0 && f.extractLsb' 0 2 != 3 && xz && (if f.extractLsb' 0 2 == 2 then rok else lz))
      (.waitt (f.extractLsb' 0 2) r i)
  | 0x11 => okThen (lz && fz && xz && i.extractLsb' 16 16 == 0) (.waito (i.extractLsb' 0 16))
  | 0x12 => okThen (lz && f.extractLsb' 2 2 == 0 && f.extractLsb' 0 2 != 3 && xok && i.extractLsb' 18 14 == 0)
      (.bro (f.extractLsb' 0 2) a (i.extractLsb' 0 16) (i.extractLsb' 16 2))
  | 0x13 =>
      if f == 0 then okThen (lz && xok) (.loop a i) else okThen (f == 1 && rok && xok && iz) (.loopr r a)
  | 0x14 => okThen (lz && fz && xz && iz) .endl
  | 0x15 => okThen (lz && fz && xok && iz) (.call a)
  | 0x16 => okThen (lz && fz && xz && iz) .ret
  | 0x18 => okThen (rok && f.extractLsb' 1 3 == 0 && xz) (.ldr (f.extractLsb' 0 1) r i)
  | 0x19 => okThen (rok && fz && xz) (.addr r i)
  | 0x1A => okThen (rok && fz && xz && iz) (.getc r)
  | 0x1F => okThen (lz && fz) (.ext x i)
  | _ => none

/-- Lay out a word from its fields (R192). -/
def sqPack (op : BitVec 8) (ln f : BitVec 4) (x : BitVec 16) (imm : BitVec 32) : Word := op ++ ln ++ f ++ x ++ imm

/-- The operands an instruction's word admits (R192, R193, R196, R198, R200). -/
def SqInstr.ok : SqInstr → Bool
  | .play _ _ _ imm => playOk imm
  | .acq _ _ len => decide (4 ≤ len.toNat ∧ len.toNat ≤ 4194304)
  | .mark _ _ act width => act != 2 || width != 0
  | .waitt base reg _ => base != 3 && (base == 2 || reg == 0)
  | .bro mode _ _ _ => mode != 3
  | _ => true

/-- The word of an instruction (R192, R193). -/
def encodeSq : SqInstr → Word
  | .nop => sqPack 0x00 0 0 0 0
  | .play lb l adv imm => sqPack 0x01 l (0#3 ++ lb) adv imm
  | .acq l adv len => sqPack 0x02 l 0 adv (0#9 ++ len)
  | .frm lb rep l adv imm => sqPack 0x03 l (0#2 ++ rep ++ lb) adv imm
  | .setf l fw => sqPack 0x04 l 0 (fw.extractLsb' 32 16) (fw.extractLsb' 0 32)
  | .shot adv => sqPack 0x05 0 0 adv 0
  | .mark adv pin act width => sqPack 0x06 0 0 adv (width ++ 0#2 ++ act ++ 0#1 ++ pin)
  | .post adv p => sqPack 0x07 0 0 adv (0#31 ++ p)
  | .txc adv d => sqPack 0x08 0 0 adv (0#16 ++ d)
  | .calw adv l => sqPack 0x09 0 0 adv (0#28 ++ l)
  | .stop => sqPack 0x0A 0 0 0 0
  | .waitt b r imm => sqPack 0x10 (0#1 ++ r) (0#2 ++ b) 0 imm
  | .waito sel => sqPack 0x11 0 0 0 (0#16 ++ sel)
  | .bro m a sel v => sqPack 0x12 0 (0#2 ++ m) (0#3 ++ a) (0#14 ++ v ++ sel)
  | .loop a n => sqPack 0x13 0 0 (0#3 ++ a) n
  | .loopr r a => sqPack 0x13 (0#1 ++ r) 1 (0#3 ++ a) 0
  | .endl => sqPack 0x14 0 0 0 0
  | .call a => sqPack 0x15 0 0 (0#3 ++ a) 0
  | .ret => sqPack 0x16 0 0 0 0
  | .ldr h r imm => sqPack 0x18 (0#1 ++ r) (0#3 ++ h) 0 imm
  | .addr r imm => sqPack 0x19 (0#1 ++ r) 0 0 imm
  | .getc r => sqPack 0x1A (0#1 ++ r) 0 0 0
  | .ext sel alt => sqPack 0x1F 0 0 sel alt

end Sys2Proof.Machine
end

