-- ==== Sys2Proof/Machine/Microword.lean ====
section
/-!
DEFINITION. The microword of the control store (R242–R247): its fields, the wait and branch conditions, the operand sources, the ALU,
and the micro-engine's registers at the end of a tick in which it executes.
-/

namespace Sys2Proof.Machine

/-! ### Fields (R242) -/

/-- SEQ. -/
def uSeq (w : Nat) : Nat := bits w 125 3
/-- NA. -/
def uNa (w : Nat) : Nat := bits w 110 15
/-- WCOND. -/
def uWcond (w : Nat) : Nat := bits w 106 4
/-- BCOND. -/
def uBcond (w : Nat) : Nat := bits w 102 4
/-- LSEL: 1 names LC1. -/
def uLsel (w : Nat) : Bool := bitAt w 101
/-- LCTL. -/
def uLctl (w : Nat) : Nat := bits w 99 2
/-- ASRC. -/
def uAsrc (w : Nat) : Nat := bits w 95 4
/-- BSRC. -/
def uBsrc (w : Nat) : Nat := bits w 91 4
/-- ALU. -/
def uAlu (w : Nat) : Nat := bits w 87 4
/-- DEST; operation 13 has no result to write. -/
def uDest (w : Nat) : Nat := if uAlu w == 13 then 0 else bits w 83 4
/-- FLG. -/
def uFlg (w : Nat) : Nat := bits w 81 2
/-- TRAPM. -/
def uTrapm (w : Nat) : Bool := bitAt w 80
/-- SLOT. -/
def uSlot (w : Nat) : Nat := bits w 77 3
/-- FETCH. -/
def uFetch (w : Nat) : Nat := bits w 75 2
/-- RAISE. -/
def uRaise (w : Nat) : Bool := bitAt w 74
/-- LIT. -/
def uLit (w : Nat) : Nat := bits w 0 64

/-! ### What a microword reads of its sequencer -/

/-- The state that a microword of one engine reads, as it stands at the start of a tick (R242–R245). -/
structure UView where
  gt : Nat
  cursor : Nat
  /-- S[IR.LN]. -/
  sReg : Nat
  loopTop : Nat
  callTop : Nat
  pause : Nat
  runGt : Nat
  shotGt : Nat
  /-- The instruction at PC, and the routine of NIR's opcode. -/
  atPc : BitVec 64
  routine : Nat
  /-- The selector IR.IMM[15:0], STALE_POLICY, and that WAITO_LIMIT has been reached. -/
  sel : Sel
  policy : Nat
  late : Bool
  /-- WCOND 1, 3, 4, 8 and 9. -/
  look : Bool
  slotFree : Bool
  chkptFree : Bool
  laneFree : Bool
  shelfValid : Bool
  /-- Both stacks and S0–S7, for a checkpoint. -/
  loops : List (Nat × Nat)
  calls : List Nat
  s : Tab (BitVec 64)
  deriving DecidableEq, Repr

/-! ### Conditions (R244, R247) -/

/-- An operand source that conditions and the ALU share (R245). -/
def uSource (k w : Nat) (r : URegs) (v : UView) : Nat :=
  match k with
  | 1 => uLit w
  | 2 => r.ir.toNat
  | 3 => (sqX r.ir).toNat
  | 4 => ((sqImm r.ir).signExtend 64).toNat
  | 5 => v.cursor
  | 6 => v.gt
  | 7 => v.sReg
  | 8 => r.t
  | 9 => r.pc
  | 10 => v.loopTop
  | 11 => v.callTop
  | 12 => v.pause
  | 13 => v.runGt
  | 14 => v.shotGt
  | _ => 0

/-- A microword's wait on a selector is over because of the value (R244, R229). -/
def selMet (w : Nat) (v : UView) : Bool :=
  v.sel.ready == .fresh || (uWcond w == 7 && v.sel.ready == .stale && v.policy != 0)

/-- The wait condition holds in the start state (R244). -/
def waitMet (w : Nat) (r : URegs) (v : UView) : Bool :=
  match uWcond w with
  | 1 => v.look
  | 2 => decide (uSource (uAsrc w) w r v ≤ v.gt)
  | 3 => v.slotFree
  | 4 => v.chkptFree
  | 5 => v.look && v.slotFree && v.chkptFree
  | 6 | 7 => selMet w v || v.late
  | 8 => v.laneFree
  | 9 => v.shelfValid
  | _ => true

/-- How a microword's wait on a selector ends: 1 with a value, 2 because WAITO_LIMIT was reached; 0: it waits on none. -/
def selWake (w : Nat) (v : UView) : Nat :=
  if uWcond w == 6 || uWcond w == 7 then (if selMet w v then 1 else 2) else 0

/-- The branch condition holds (R244). -/
def branchMet (w : Nat) (r : URegs) (v : UView) : Bool :=
  match uBcond w with
  | 0 => true
  | 1 => bitAt r.flags 0
  | 2 => !bitAt r.flags 0
  | 3 => bitAt r.flags 1
  | 4 => !bitAt r.flags 1
  | 5 => bitAt r.flags 2
  | 6 => !bitAt r.flags 2
  | 7 => bitAt r.flags 4
  | 8 => v.sel.alt
  | 9 => v.sel.value == bits (sqImm r.ir).toNat 16 2
  | 10 => match v.sel.entry with
    | some e => bitAt e 13
    | none => false
  | 11 => v.sel.ready == .stale
  | 12 => r.lc0 == 0
  | 13 => r.lc1 == 0
  | 14 => bitAt (sqF r.ir).toNat 0
  | _ => false

/-- Why a waiting microword stalls its sequencer, coded as STALL_CAUSE; 0: it reports none (R184, R197, R247). -/
def uStallCause (w : Nat) (v : UView) : Nat :=
  match uWcond w with
  | 1 => 2
  | 3 => 1
  | 4 => 3
  | 5 => if !v.slotFree then 1 else if !v.look then 2 else 3
  | 6 | 7 => 4
  | _ => 0

/-! ### The ALU (R245) -/

/-- The result of an operation on two 64-bit operands. -/
def aluResult (op a b : Nat) : Nat :=
  let sh := b % 64
  match op with
  | 0 => a
  | 1 => (a + b) % 2 ^ 64
  | 2 | 13 => (a + 2 ^ 64 - b) % 2 ^ 64
  | 3 => a &&& b
  | 4 => a ||| b
  | 5 => a ^^^ b
  | 6 => max a b
  | 7 => a * 2 ^ sh % 2 ^ 64
  | 8 => a / 2 ^ sh
  | 9 => if bitAt a sh then 2 ^ 64 - 2 ^ (sh + 1) + a % 2 ^ (sh + 1) else a % 2 ^ (sh + 1)
  | 10 => (a + 1) % 2 ^ 64
  | 11 => (a + 2 ^ 64 - 1) % 2 ^ 64
  | 12 => a % 2 ^ 32 + b % 2 ^ 32 * 2 ^ 32
  | _ => b

/-- Z, N, C and V of an operation. DESIGN CHOICE (log): C is the carry out of a sum, V the signed overflow of a sum or a difference; the
spec defines neither, and the other cases are free. -/
def aluFlags (op a b : Nat) : Nat :=
  let x := aluResult op a b
  let free := Config.aluFlags op a b
  let n (y : Nat) : Bool := bitAt y 63
  let one := if op == 10 || op == 11 then 1 else b
  let cv : Nat :=
    if op == 1 || op == 10 then b2n (decide (2 ^ 64 ≤ a + one)) + 2 * b2n (n a == n one && n x != n a)
    else if op == 2 || op == 11 || op == 13 then free % 2 + 2 * b2n (n a != n one && n x != n a)
    else free % 4
  b2n (x == 0) + 2 * b2n (n x) + 4 * cv

/-! ### The end of the tick (R242, R243, R245) -/

/-- The ALU's result. -/
def uResult (w : Nat) (r : URegs) (v : UView) : Nat :=
  aluResult (uAlu w) (uSource (uAsrc w) w r v) (uSource (uBsrc w) w r v)

/-- The loop counter that LSEL names. -/
def uLc (w : Nat) (r : URegs) : Nat := if uLsel w then r.lc1 else r.lc0

/-- A loop counter less one, in its 16 bits. -/
def lcDown (n : Nat) : Nat := (n + 2 ^ 16 - 1) % 2 ^ 16

/-- The loop counter after the microword (R242, R243). -/
def uLcNext (w res : Nat) (r : URegs) : Nat :=
  if uSeq w == 3 then lcDown (uLc w r)
  else match uLctl w with
    | 1 => uLit w % 2 ^ 16
    | 2 => res % 2 ^ 16
    | 3 => 0
    | _ => uLc w r

/-- The micro-flags after the microword; a wait that WAITO_LIMIT ended sets TO (R242, R247). -/
def uFlagsNext (w wake : Nat) (r : URegs) (v : UView) : Nat :=
  let a := uSource (uAsrc w) w r v
  let b := uSource (uBsrc w) w r v
  let f := match uFlg w with
    | 1 => aluFlags (uAlu w) a b + r.flags / 16 * 16
    | 2 => r.flags % 16
    | _ => r.flags
  if wake == 2 then f % 16 + 16 else f

/-- The next address (R243). TRAPRET and STOP leave it. -/
def uNext (w : Nat) (r : URegs) (v : UView) : Nat :=
  let on_ := (r.upc + 1) % 2 ^ 15
  match uSeq w with
  | 0 => on_
  | 1 => uNa w
  | 2 => if branchMet w r v then uNa w else on_
  | 3 => if lcDown (uLc w r) != 0 then uNa w else on_
  | 4 => v.routine
  | _ => r.upc

/-- A lane instruction's opcode (R193). -/
def uLaneKind (ir : BitVec 64) : Bool := decide (1 ≤ (sqOp ir).toNat ∧ (sqOp ir).toNat ≤ 4)

/-- The slot that STAGE makes of IR (R243). The layout of R186 has no place for F[1] of an FRM, which goes with it. -/
def stageSlot (r : URegs) (v : UView) : Slot :=
  { time := v.cursor, kind := (sqOp r.ir).toNat, lane := if uLaneKind r.ir then (sqLn r.ir).toNat else 0,
    rep := (sqOp r.ir).toNat == 3 && bitAt (sqF r.ir).toNat 1, lb := bitAt (sqF r.ir).toNat 0, sel := 0, op1 := 0,
    op0 := (sqImm r.ir).toNat, shot := 0, posted := 0, boundary := 0 }

/-- The staged slot after the microword (R243). -/
def uStagedNext (w : Nat) (r : URegs) (v : UView) : Option Slot :=
  match uSlot w with
  | 1 => some (stageSlot r v)
  | 2 => r.staged.map (fun x => { x with sel := (sqX r.nir).toNat, op1 := (sqImm r.nir).toNat })
  | 3 => r.staged.map (fun x => { x with op0 := bits r.ir.toNat 0 32, op1 := x.op1 / 2 ^ 16 * 2 ^ 16 + bits r.ir.toNat 32 16 })
  | 4 | 5 | 6 => none
  | _ => r.staged

/-- PC after the microword: a result or the popped call takes the place of what FETCH leaves (R242, R245). -/
def uPcNext (w res : Nat) (r : URegs) (v : UView) : Nat :=
  match uDest w with
  | 4 => res
  | 9 => v.callTop
  | _ => if uFetch w == 2 then r.pc + 1 else r.pc

/-- The registers at the end of a tick in which the microword executes (R242–R245). A checkpoint holds the address of the instruction in
IR, the one before PC (R196, R209). -/
def uEnd (w wake clk : Nat) (r : URegs) (v : UView) : URegs :=
  let res := uResult w r v
  let go := uSeq w == 4
  { upc := uNext w r v, ir := if go then r.nir else r.ir, nir := if uFetch w == 1 || uFetch w == 2 then v.atPc else r.nir,
    nirPc := if uFetch w == 1 || uFetch w == 2 then r.pc else r.nirPc, pc := uPcNext w res r v,
    t := if uDest w == 1 then res else r.t,
    lc0 := if uLsel w then r.lc0 else uLcNext w res r, lc1 := if uLsel w then uLcNext w res r else r.lc1,
    flags := uFlagsNext w wake r v, waiting := false, first := if go then clk + 1 else r.first, staged := uStagedNext w r v,
    check := if uDest w == 13 then some { pc := r.pc - 1, loops := v.loops, calls := v.calls, s := v.s } else r.check }

/-- What the engine executes in this tick; none while the microword's condition does not hold (R247). -/
def uTick (w clk : Nat) (r : URegs) (v : UView) : Option UTick :=
  if waitMet w r v then some { word := w, res := uResult w r v, regs := uEnd w (selWake w v) clk r v, wake := selWake w v } else none

/-! ### The trap frame (R249) -/

/-- A trap frame entry. -/
def frameEntry (cause : Nat) (r : URegs) : Nat :=
  r.upc % 2 ^ 15 + b2n r.waiting * 2 ^ 15 + r.lc0 % 2 ^ 16 * 2 ^ 16 + r.lc1 % 2 ^ 16 * 2 ^ 32 + r.flags % 2 ^ 5 * 2 ^ 48 +
    cause % 16 * 2 ^ 56

/-- TRAPRET: µPC, LC0, LC1 and the flags as an entry holds them. -/
def frameRestore (e : Nat) (r : URegs) : URegs :=
  { r with upc := bits e 0 15, waiting := false, lc0 := bits e 16 16, lc1 := bits e 32 16, flags := bits e 48 5 }

/-- A trap's service routine runs from its vector; what it leaves in the registers that the entry keeps is free (R248, R249). -/
def serviceRegs (e clk : Nat) (r : URegs) : URegs :=
  { r with upc := 0x100 + Config.serviceState e 0 clk % 256, waiting := false, lc0 := Config.serviceState e 1 clk % 2 ^ 16,
           lc1 := Config.serviceState e 2 clk % 2 ^ 16, flags := Config.serviceState e 3 clk % 32 }

end Sys2Proof.Machine
end

