-- ==== Sys2Proof/Machine/Sequencer.lean ====
section
/-!
DEFINITION. Issue in the timeline sequencers: program words, faults (R211), the gate and posting of slots (R183–R188), time and
flow (R196–R199), waiting on outcomes (R197, R198, R228, R229), and starting and stopping (R208, R209).
-/

namespace Sys2Proof.Machine

/-! ### Program words -/

/-- The address of word p of the program of sequencer s. -/
def sqProgAddr (s p : Nat) : Nat := 0x02200000 + 0x10000 * s + 8 * p

/-- The word at address p of the program of sequencer s. -/
def sqWord (s p : Nat) (c : Chip) : Word := BitVec.ofNat 64 (leNat (memGet c.mem (sqProgAddr s p) 8))

/-- The word is late-bound: a PLAY or FRM with F[0] = 1 (R194). -/
def isLateBound (w : Word) : Bool := ((sqOp w) == 0x01 || (sqOp w) == 0x03) && (sqF w).extractLsb' 0 1 == 1

/-- The word posts a slot (R193). -/
def sqPosts (w : Word) : Bool := decide (1 ≤ (sqOp w).toNat ∧ (sqOp w).toNat ≤ 0x0A)

/-- Issue ticks of a word (R193); of WAITO and BRO, those before the stall ends are not counted here. -/
def sqTicks (w : Word) : Nat :=
  match (sqOp w).toNat with
  | 0x01 | 0x03 => if isLateBound w then 3 else 2
  | 0x05 | 0x08 | 0x15 | 0x16 => 3
  | 0x02 | 0x04 | 0x06 | 0x07 | 0x09 | 0x0A | 0x13 => 2
  | _ => 1

/-- The lane a lane instruction names. -/
def isLaneOp (w : Word) : Bool := decide (1 ≤ (sqOp w).toNat ∧ (sqOp w).toNat ≤ 4)

/-- Register Sn. -/
def sReg (x : Sequencer) (n : BitVec 3) : Word := Tab.get x.s n.toNat 0

/-- The program address after an instruction's word, or after its EXT. -/
def nextPc (s : Nat) (c : Chip) : Nat :=
  (sqOf s c).pc + (if isLateBound (sqWord s (sqOf s c).pc c) then 2 else 1)

/-- The binding the instruction at PC was given at the start of its first issue tick (R211). -/
def bindSeen (s : Nat) (c : Chip) : Bind :=
  match (sqOf s c).bindAt with
  | some b => b
  | none => bindOf s (sqLn (sqWord s (sqOf s c).pc c)).toNat c

/-! ### Faults (R211) -/

/-- What a lane instruction meets: a lane that is none, UNBOUND, or without a target of its kind. -/
def laneFaults (w : Word) (b : Bind) : List Nat :=
  if !isLaneOp w then []
  else if 12 ≤ (sqLn w).toNat then [0x03]
  else (if b.kind == 0 then [0x03] else []) ++
    (if (sqOp w == 0x01 && b.tone.isNone) || (sqOp w == 0x02 && b.chan.isNone) then [0x02] else [])

/-- What a late-bound word meets in the word after it (R192–R195). -/
def extFaults (s : Nat) (w : Word) (p : Nat) (c : Chip) : List Nat :=
  if !isLateBound w then []
  else
    let e := sqWord s (p + 1) c
    if 8192 ≤ p + 1 || sqOp e != 0x1F then [0x0A]
    else if sqLn e != 0 || sqF e != 0 || (sqOp w == 0x01 && !playOk (sqImm e)) then [0x04]
    else []

/-- What the stacks of R199 make an instruction meet. -/
def stackFaults (x : Sequencer) (i : SqInstr) : List Nat :=
  match i with
  | .loop _ n => if n != 0 && 8 ≤ x.loops.length then [0x05] else []
  | .loopr r _ => if sReg x r != 0 && 8 ≤ x.loops.length then [0x05] else []
  | .endl => if x.loops.isEmpty then [0x06] else []
  | .call _ => if 8 ≤ x.calls.length then [0x07] else []
  | .ret => if x.calls.isEmpty then [0x08] else []
  | _ => []

/-- Every cause of a fault that the instruction at PC meets (R211). -/
def sqFaults (s : Nat) (c : Chip) : List Nat :=
  let x := sqOf s c
  let w := sqWord s x.pc c
  if 8192 ≤ x.pc then [0x09]
  else if !sqOpcode (sqOp w) || sqOp w == 0x1F then [0x01]
  else laneFaults w (bindSeen s c) ++ extFaults s w x.pc c ++
    (match decodeSq w with
     | none => [0x04]
     | some i => stackFaults x i)

/-! ### Micro-engines (R239, R247–R250, R256) -/

/-- A micro-engine. -/
def microOf (e : Nat) (c : Chip) : Micro := Tab.get c.mc.micro e Micro.reset

/-- Put a micro-engine. -/
def setMicro (e : Nat) (x : Micro) (c : Chip) : Chip :=
  { c with mc := { c.mc with micro := Tab.put c.mc.micro e Micro.reset x } }

/-- Put a micro-engine's registers. -/
def setURegs (e : Nat) (r : URegs) (c : Chip) : Chip := setMicro e { microOf e c with regs := r } c

/-- Microword w as engine e reads it, from its replica (R239). -/
def uWordAt (e w : Nat) (c : Chip) : Nat := (Tab.get (Tab.get c.mc.replicas (e / 16) []) w 0).toNat

/-- Patch hooks are in force: the words carry the instructions out. Without one the base image's routines stand as they are, which do
what R193–R199 say (R239). -/
def patched (c : Chip) : Bool := rd P.mcHooksUsed c != 0

/-- Items 0x000–0x002 and 0x010–0x017 of an engine as they stand, the trap frame's entry 0 the oldest (R256, R257). -/
def microNow (e : Nat) (c : Chip) : List Nat :=
  let r := (microOf e c).regs
  let fr := (microOf e c).frame.reverse.map (·.1)
  [r.upc + b2n r.waiting * 2 ^ 15 + uWcond (uWordAt e r.upc c) * 2 ^ 16 + fr.length * 2 ^ 20, r.lc0 + r.lc1 * 2 ^ 16 + r.flags * 2 ^ 32, r.t] ++
    (List.range 8).map (fun k => fr.getD k 0)

/-- A trap's service routine runs, or the engine stands after a trap that does not resume: no microword of the instruction
executes (R248, R249). -/
def inTrap (e : Nat) (c : Chip) : Bool := !(microOf e c).frame.isEmpty

/-- The registers as a trap in this tick finds them: a microword that has executed in it has written them. -/
def regsNow (e : Nat) (c : Chip) : URegs :=
  let m := microOf e c
  match m.due with
  | some u => if m.did || (!patched c && (sqOf e c).first == c.clk + 1) then u.regs else m.regs
  | none => m.regs

/-- A trap is taken in place of the microword due (R248, R249): its entry is pushed, and LAST_TRAP_CAUSE notes it. -/
def trapPush (e cause : Nat) (pop : Option Nat) (c : Chip) : Chip :=
  let m := microOf e c
  let r := regsNow e c
  let fr := ((frameEntry cause r, pop) :: m.frame).take 8
  wr (P.mceLastTrapCause e) cause (setMicro e { m with frame := fr, regs := serviceRegs e c.clk r, due := none, did := false } c)

/-- An engine starts on the instruction at PC: nothing is left of an earlier run's traps, and the values of its last stop are kept for
reads (R256). DESIGN CHOICE (log): the first word executed is that of the instruction's routine, with PC past the instruction. -/
def microStart (e : Nat) (c : Chip) : Chip :=
  let m := microOf e c
  let w := sqWord e (sqOf e c).pc c
  let r := { m.regs with upc := uNa (uWordAt e (sqOp w).toNat c), ir := w, pc := (sqOf e c).pc + 1, waiting := false, first := c.clk,
                         staged := none, check := none }
  wr (P.mceMcFaultCode e) 0 (setMicro e { m with copy := microNow e c, frame := [], due := none, did := false, regs := r } c)

/-- A fault's cause is met in this tick: the microword that meets it raises the fault, and its trap is taken in the next (R211, R248).
DESIGN CHOICE (log): the spec does not say which word of a routine raises a fault; it is the first. -/
def sqRaise (s code : Nat) (c : Chip) : Chip := setSq s { sqOf s c with faulting := some (c.clk + 1, code) } c

/-- The FAULT trap (R211, R248): issue stops at the instruction; in RUN the Crivon moves to HOLD, before the run GT in READY the
pending RUN is cancelled. -/
def sqFault (s code : Nat) (c : Chip) : Chip :=
  let x := sqOf s c
  let c1 := wr (P.sqFaultPc s) x.pc (wr (P.sqFaultCode s) code (setFlag (P.sqSqFault s)
    (setSq s { x with issuing := false, waiting := none, stall := 0, bindAt := none, faulting := none } (trapPush s 1 none c))))
  match c.md.mode with
  | .run => faultEntry c1
  | .ready => if c1.md.trans == some .run then dropTransition St.sqFaulted c1 else c1
  | _ => c1

/-- An MC fault: the engine stops, MC_FAULT is set, and its code and µPC are recorded (R250). -/
def mcFault (code : Nat) (c : Chip) (e : Nat) : Chip :=
  let c1 := wr (P.mceMcFaultUpc e) (microOf e c).regs.upc (wr (P.mceMcFaultCode e) code (setFlag (P.mceMcFault e)
    (setSq e { sqOf e c with issuing := false, waiting := none, stall := 0, bindAt := none } c)))
  match c.md.mode with
  | .run => faultEntry c1
  | .ready => if c1.md.trans == some .run then dropTransition St.sqFaulted c1 else c1
  | _ => c1

/-! ### The gate (R184) and the first tick -/

/-- Why an instruction that posts a slot may not issue in this tick, coded as STALL_CAUSE; 0: it may (R184, R213). -/
def gateCause (s : Nat) (c : Chip) : Nat :=
  let x := sqOf s c
  if 4096 ≤ x.slots.length then 1
  else if c.tl.gt + rd (P.sqLookaheadMax s) c < x.cursor then 2
  else if 8 ≤ x.checks.length then 3
  else 0

/-- A SHOT adds the between-shot pause to C in its first tick (R204, R435). -/
def addPause (s : Nat) (c : Chip) : Chip :=
  let p := shotPause c
  if p == 0 then c
  else count P.thmShotPauses (setSq s { sqOf s c with cursor := ((sqOf s c).cursor + p) % 2 ^ 64 } c)

/-- An instruction that posts a slot enters: its lane's binding is noted, a SHOT adds the pause (R204, R211). -/
def enterPost (s : Nat) (w : Word) (c : Chip) : Chip :=
  let x := sqOf s c
  if x.bindAt.isSome || c.clk < x.first then c
  else
    let c1 := setSq s { x with bindAt := some (bindOf s (sqLn w).toNat c) } c
    if sqOp w == 0x05 then addPause s c1 else c1

/-- One more tick of stall, which is one of waiting for the microword at the gate too (R184, R213, R247). -/
def stallTick (s cause : Nat) (c : Chip) : Chip :=
  count (P.mceWaitTicks s) <| count (P.sqStallTicks s) (setSq s { sqOf s c with stall := cause } c)

/-- The run GT of this start, as a sequencer's R196 base (R208). -/
def runGtOf (c : Chip) : Nat := c.md.runGt

/-- The boundary GT a WAITO or BRO reads its selector for (R218). -/
def waitBoundary (s : Nat) (c : Chip) : Nat := (sqOf s c).lastShot.getD (runGtOf c)

/-- What a WAITO or BRO finds as the tick begins (R197). -/
def sampleSel (s : Nat) (c : Chip) : Chip :=
  match decodeSq (sqWord s (sqOf s c).pc c) with
  | some (.waito sel) => setSq s { sqOf s c with sampled := some (readSel sel.toNat (waitBoundary s c) c) } c
  | some (.bro _ _ sel _) => setSq s { sqOf s c with sampled := some (readSel sel.toNat (waitBoundary s c) c) } c
  | _ => c

/-- What the WAITO or BRO at PC found as the tick began; before it has looked, nothing is ready. -/
def selNow (s : Nat) (c : Chip) : Sel :=
  (sqOf s c).sampled.getD { value := 0, alt := false, ready := .notReady, entry := none }

/-- The WAITO or BRO that waits, its first tick, and what its selector yielded as the tick began. -/
def waitingOn (s : Nat) (c : Chip) : Option (SqInstr × Nat × Sel) :=
  match (sqOf s c).waiting, decodeSq (sqWord s (sqOf s c).pc c) with
  | some i, some w => some (w, i, selNow s c)
  | _, _ => none

/-- The value a stalled instruction waits for is there, and a trap keeps it from resuming: when it became visible is noted (R197,
R249). -/
def noteSeen (s : Nat) (c : Chip) : Chip :=
  match waitingOn s c with
  | some (_, i, v) =>
    if v.ready == .fresh && (sqOf s c).seen.isNone && decide (i < c.clk) then setSq s { sqOf s c with seen := some (c.tl.gt - 1) } c else c
  | none => c

/-- What a sequencer does at the start of a tick without a patch: an instruction that posts enters, and meets the gate in the tick
before its last (R184, R247); a WAITO or BRO that waits counts its stall (R197). A two-tick instruction's first issue tick is the one in
which the gate lets it through. -/
def sqTickBase (s : Nat) (c0 : Chip) : Chip :=
  let c := if (sqOf s c0).issuing then sampleSel s c0 else c0
  let x := sqOf s c
  if !x.issuing || x.faulting.isSome then c
  else if inTrap s c then noteSeen s c
  else if x.waiting.isSome then stallTick s 4 c
  else
    let w := sqWord s x.pc c
    if sqPosts w then
      let c1 := enterPost s w c
      let k := sqTicks w
      if c.clk + 2 == x.first + k then
        let cause := gateCause s c1
        let y := sqOf s c1
        if cause == 0 then setSq s { y with stall := 0 } c1
        else stallTick s cause (setSq s { y with first := y.first + 1, bindAt := if k == 2 then none else y.bindAt } c1)
      else c1
    else c

/-! ### Microwords (R239, R242–R248) -/

/-- What a microword of engine s reads of its sequencer (R242–R245). -/
def uView (s : Nat) (c : Chip) : UView :=
  let x := sqOf s c
  let r := (microOf s c).regs
  let lim := rd (P.sqWaitoLimit s) c
  { gt := c.tl.gt, cursor := x.cursor, sReg := (sReg x ((sqLn r.ir).extractLsb' 0 3)).toNat,
    loopTop := (x.loops.head?.map (·.1)).getD (Config.emptyTop % 2 ^ 64), callTop := x.calls.headD (Config.emptyTop % 2 ^ 64),
    pause := shotPause c, runGt := runGtOf c, shotGt := waitBoundary s c,
    atPc := if 8192 ≤ r.pc then 0 else sqWord s r.pc c, routine := uNa (uWordAt s (sqOp r.nir).toNat c),
    sel := readSel (bits (sqImm r.ir).toNat 0 16) (waitBoundary s c) c, policy := rd (P.osqStalePolicy s) c,
    late := lim != 0 && decide (r.first + lim < c.clk),
    look := decide (x.cursor ≤ c.tl.gt + rd (P.sqLookaheadMax s) c), slotFree := decide (x.slots.length < 4096),
    chkptFree := decide (x.checks.length < 8),
    laneFree := match (bindOf s (sqLn r.ir).toNat c).tone with
      | some t => (busyUntil (laneOf t c) c.tl.gt c.tl.gt).isNone
      | none => true,
    shelfValid := (let st := rd (P.shelfState (bits (sqImm r.ir).toNat 0 13)) c; st == shelfValid || st == shelfActive),
    loops := x.loops, calls := x.calls, s := x.s }

/-- What engine s executes in this tick, if it runs and its word does not wait (R242, R247). -/
def uDue (s : Nat) (c : Chip) : Option UTick :=
  let r := (microOf s c).regs
  uTick (uWordAt s r.upc c) c.clk r (uView s c)

/-- The engine executes a microword in this tick, or waits at one: it issues, and no trap and no repair holds it (R239, R248, R251). -/
def uRuns (s : Nat) (c : Chip) : Bool :=
  (sqOf s c).issuing && (sqOf s c).faulting.isNone && !inTrap s c && !(microOf s c).stopped

/-- The microword of the tick, read as the tick begins (R242, R247). -/
def uSense (s : Nat) (c : Chip) : Chip :=
  let m := microOf s c
  if uRuns s c then
    let u := uDue s c
    setMicro s { m with due := u, did := false, regs := { m.regs with waiting := m.regs.waiting || u.isNone } } c
  else c

/-- With a patch in force, the start of a tick: the binding and PC are checked in an instruction's first tick, and a waiting word counts
(R199, R211, R247). -/
def sqTickWords (s : Nat) (c : Chip) : Chip :=
  let x := sqOf s c
  let r := (microOf s c).regs
  if uRuns s c then
    let fs := if r.first != c.clk then [] else if 8192 ≤ x.pc then [0x09] else laneFaults r.ir (bindOf s (sqLn r.ir).toNat c)
    match fs, uDue s c with
    | f :: fs, _ => sqRaise s (fs.foldl min f) c
    | [], some _ => setSq s { x with stall := 0 } c
    | [], none =>
      let cause := uStallCause (uWordAt s r.upc c) (uView s c)
      if cause == 0 then count (P.mceWaitTicks s) (setSq s { x with stall := 0 } c) else stallTick s cause c
  else c

/-- What a sequencer and its micro-engine do at the start of a tick. -/
def sqTick (s : Nat) (c : Chip) : Chip := uSense s (if patched c then sqTickWords s c else sqTickBase s c)

/-- The opcode of the instruction that issues: with a patch in force, that in IR. -/
def sqOpNow (s : Nat) (c : Chip) : Nat :=
  if patched c then (sqOp (microOf s c).regs.ir).toNat else (sqOp (sqWord s (sqOf s c).pc c)).toNat

/-- Sequencer s is at an instruction whose opcode is `op`: it issues, that word is at PC, its first issue tick has come, and its
micro-engine neither stands stopped nor serves a trap (R193, R248, R251). -/
def sqBegun (s op : Nat) (c : Chip) : Bool :=
  let x := sqOf s c
  x.issuing && decide (x.pc < 8192) && sqOpNow s c == op && x.waiting.isNone && decide (x.first ≤ c.clk) &&
    !(microOf s c).stopped && !inTrap s c

/-- The last issue tick of the word at PC has come (R193). -/
def sqLast (s : Nat) (c : Chip) : Bool :=
  let x := sqOf s c
  decide (x.first + sqTicks (sqWord s x.pc c) ≤ c.clk + 1)

/-- The next instruction starts in the next tick. -/
def sqNext (s pc : Nat) (c : Chip) : Chip :=
  setSq s { sqOf s c with pc := pc, first := c.clk + 1, bindAt := none, waiting := none, staleSeen := false, seen := none,
                          sampled := none, stall := 0 } c

/-! ### Posting (R183, R186–R188) -/

/-- A LATE slot is recorded, and its shot marked; with a SHOT the shot that it closes too (R187, R188). -/
def lateSlot (s : Nat) (sl : Slot) (c : Chip) : Chip :=
  let mark_ := fun (d : Chip) => if sl.kind == 0x05 && decide (1 < sl.shot) then markShot s (sl.shot - 1) Sf.late d else d
  mark_ <| markShot s sl.shot Sf.late (wr (P.sqLastLateLane s) sl.lane (wr (P.sqLastLateGt s) sl.time
    (total 252 1 (count (P.sqLateCount s) (setFlag (P.sqLate s) c)))))

/-- A boundary slot. -/
def isBoundary (sl : Slot) : Bool := sl.kind == 0x05 || sl.kind == 0x0A

/-- A slot's 128 bits (R186). -/
def Slot.word (sl : Slot) : Nat :=
  sl.op0 % 2 ^ 32 + sl.op1 % 2 ^ 32 * 2 ^ 32 + sl.sel % 2 ^ 16 * 2 ^ 64 + b2n sl.lb * 2 ^ 83 + sl.lane % 16 * 2 ^ 84 +
    sl.kind % 256 * 2 ^ 88 + sl.time % 2 ^ 32 * 2 ^ 96

/-- The full GT of a TIME field: congruent to it modulo 2^32, within [now − 2^31, now + 2^31) (R186). -/
def slotTime (now t : Nat) : Int := (now : Int) + sgn 32 ((t + 2 ^ 32 - now % 2 ^ 32) % 2 ^ 32)

/-- A posted slot stands in its sequencer's slot table (R186). DESIGN CHOICE (log): the entries are taken in turn. -/
def tableWrite (s k : Nat) (sl : Slot) (c : Chip) : Chip :=
  setMem (memPut c.mem (0x02600000 + 0x10000 * s + 16 * (k % 4096)) (leBytes 16 sl.word)) c

/-- Post a slot at C: it enters the table, or it is LATE; a LATE SHOT or END acts at max(n, t + 17) (R187, R188). -/
def postSlot (s : Nat) (sl : Slot) (c : Chip) : Chip :=
  let x := sqOf s c
  if c.tl.gt + 17 ≤ sl.time then tableWrite s x.posted sl (setSq s { x with slots := x.slots ++ [sl], posted := x.posted + 1 } c)
  else
    let c1 := lateSlot s sl c
    if isBoundary sl then
      let y := sqOf s c1
      setSq s { y with latched := y.latched ++
        [{ slot := sl, op := sl.op0, bind := { kind := 0, tone := none, chan := none }, lateOnly := true,
           at_ := max sl.time (c.tl.gt + 17) }] } c1
    else c1

/-- The slot an instruction posts: kind, lane, replace, late-bound selector, operands (R186). -/
def mkSlot (s kind lane : Nat) (rep lb : Bool) (sel op1 op0 : Nat) (c : Chip) : Slot :=
  let x := sqOf s c
  { time := x.cursor, kind := kind, lane := lane, rep := rep, lb := lb, sel := sel, op1 := op1, op0 := op0,
    shot := max 1 x.shotsPosted, posted := c.clk, boundary := x.lastShot.getD (runGtOf c) }

/-- Post a slot, add ADV to C and go on (R183). -/
def postNext (s : Nat) (sl : Slot) (adv : Nat) (c : Chip) : Chip :=
  let c1 := postSlot s sl c
  let y := sqOf s c1
  sqNext s (nextPc s c) (setSq s { y with cursor := (y.cursor + adv) % 2 ^ 64 } c1)

/-- The slot of a lane instruction, with the EXT of a late-bound one (R186, R194). -/
def laneSlot (s kind : Nat) (lb : BitVec 1) (rep : Bool) (lane : BitVec 4) (imm : BitVec 32) (c : Chip) : Slot :=
  let e := sqWord s ((sqOf s c).pc + 1) c
  if lb == 1 then mkSlot s kind lane.toNat rep true (sqX e).toNat (sqImm e).toNat imm.toNat c
  else mkSlot s kind lane.toNat rep false 0 0 imm.toNat c

/-- PLAY (R194, R195). -/
def effPlay (s : Nat) (i : SqInstr) (c : Chip) : Chip :=
  match i with
  | .play lb lane adv imm => postNext s (laneSlot s 0x01 lb false lane imm c) adv.toNat c
  | _ => c

/-- ACQ (R195). -/
def effAcq (s : Nat) (i : SqInstr) (c : Chip) : Chip :=
  match i with
  | .acq lane adv len => postNext s (mkSlot s 0x02 lane.toNat false false 0 0 len.toNat c) adv.toNat c
  | _ => c

/-- FRM (R194, R195). -/
def effFrm (s : Nat) (i : SqInstr) (c : Chip) : Chip :=
  match i with
  | .frm lb rep lane adv imm => postNext s (laneSlot s 0x03 lb (rep == 1) lane imm c) adv.toNat c
  | _ => c

/-- SETF: no ADV (R186, R193). -/
def effSetf (s : Nat) (i : SqInstr) (c : Chip) : Chip :=
  match i with
  | .setf lane fw =>
    postNext s (mkSlot s 0x04 lane.toNat false false 0 (fw.extractLsb' 32 16).toNat (fw.extractLsb' 0 32).toNat c) 0 c
  | _ => c

/-- SHOT: a checkpoint of everything as it stood before it (R196, R209). -/
def effShot (s : Nat) (i : SqInstr) (c : Chip) : Chip :=
  match i with
  | .shot adv =>
    let x := sqOf s c
    let k : Check := { pc := x.pc, loops := x.loops, calls := x.calls, s := x.s }
    let c1 := setSq s { x with shotsPosted := x.shotsPosted + 1, lastShot := some x.cursor, checks := x.checks ++ [some k] } c
    postNext s (mkSlot s 0x05 0 false false 0 0 0 c1) adv.toNat c1
  | _ => c

/-- MARK (R200). -/
def effMark (s : Nat) (i : SqInstr) (c : Chip) : Chip :=
  match i with
  | .mark adv pin act width =>
    postNext s (mkSlot s 0x06 0 false false 0 0 (pin.toNat + 16 * act.toNat + 256 * width.toNat) c) adv.toNat c
  | _ => c

/-- POST (R201). -/
def effPost (s : Nat) (i : SqInstr) (c : Chip) : Chip :=
  match i with
  | .post adv p => postNext s (mkSlot s 0x07 0 false false 0 0 p.toNat c) adv.toNat c
  | _ => c

/-- TXC (R201). -/
def effTxc (s : Nat) (i : SqInstr) (c : Chip) : Chip :=
  match i with
  | .txc adv d => postNext s (mkSlot s 0x08 0 false false 0 0 d.toNat c) adv.toNat c
  | _ => c

/-- CALW (R202). -/
def effCalw (s : Nat) (i : SqInstr) (c : Chip) : Chip :=
  match i with
  | .calw adv l => postNext s (mkSlot s 0x09 0 false false 0 0 l.toNat c) adv.toNat c
  | _ => c

/-- END: the sequencer stops issuing (R203). -/
def effEnd (s : Nat) (i : SqInstr) (c : Chip) : Chip :=
  match i with
  | .stop =>
    let x := sqOf s c
    let c1 := postNext s (mkSlot s 0x0A 0 false false 0 0 0 c) 0 (setSq s { x with checks := x.checks ++ [none] } c)
    setSq s { sqOf s c1 with issuing := false } c1
  | _ => c

/-! ### Time and flow (R196, R199) -/

/-- Nothing. -/
def effNop (s : Nat) (i : SqInstr) (c : Chip) : Chip :=
  match i with
  | .nop => sqNext s (nextPc s c) c
  | _ => c

/-- WAITT: C becomes T unless that would make it smaller (R196). -/
def effWaitt (s : Nat) (i : SqInstr) (c : Chip) : Chip :=
  match i with
  | .waitt base reg imm =>
    let x := sqOf s c
    let b := match base.toNat with
      | 0 => x.lastShot.getD (runGtOf c)
      | 1 => runGtOf c
      | _ => (sReg x reg).toNat
    let t := (b + imm.toNat) % 2 ^ 64
    let c1 := if t < x.cursor then count (P.sqWaittPastCount s) (setFlag (P.sqWaittPast s) c)
      else setSq s { x with cursor := t } c
    sqNext s (nextPc s c) c1
  | _ => c

/-- Push a loop of n passes whose ENDL stands at a; 0 passes push nothing and go on after it (R199). -/
def pushLoop (s n a : Nat) (c : Chip) : Chip :=
  let x := sqOf s c
  if n == 0 then sqNext s (a + 1) c
  else sqNext s (x.pc + 1) (setSq s { x with loops := (n, x.pc + 1) :: x.loops } c)

/-- LOOP (R199). -/
def effLoop (s : Nat) (i : SqInstr) (c : Chip) : Chip :=
  match i with
  | .loop a n => pushLoop s n.toNat a.toNat c
  | .loopr r a => pushLoop s (sReg (sqOf s c) r).toNat a.toNat c
  | _ => c

/-- ENDL (R199). -/
def effEndl (s : Nat) (i : SqInstr) (c : Chip) : Chip :=
  match i with
  | .endl =>
    let x := sqOf s c
    match x.loops with
    | (n, a) :: ls =>
      if 1 < n then sqNext s a (setSq s { x with loops := (n - 1, a) :: ls } c)
      else sqNext s (x.pc + 1) (setSq s { x with loops := ls } c)
    | [] => c
  | _ => c

/-- CALL (R199). -/
def effSqCall (s : Nat) (i : SqInstr) (c : Chip) : Chip :=
  match i with
  | .call a =>
    let x := sqOf s c
    sqNext s a.toNat (setSq s { x with calls := (x.pc + 1) :: x.calls } c)
  | _ => c

/-- RET (R199). -/
def effSqRet (s : Nat) (i : SqInstr) (c : Chip) : Chip :=
  match i with
  | .ret =>
    let x := sqOf s c
    match x.calls with
    | a :: as => sqNext s a (setSq s { x with calls := as } c)
    | [] => c
  | _ => c

/-- Write register Sn. -/
def setS (s : Nat) (n : BitVec 3) (v : Word) (c : Chip) : Chip :=
  setSq s { sqOf s c with s := Tab.put (sqOf s c).s n.toNat 0 v } c

/-- LDR (R199). -/
def effLdr (s : Nat) (i : SqInstr) (c : Chip) : Chip :=
  match i with
  | .ldr h r imm =>
    let v : Word := if h == 1 then imm ++ (sReg (sqOf s c) r).extractLsb' 0 32 else 0#32 ++ imm
    sqNext s (nextPc s c) (setS s r v c)
  | _ => c

/-- ADDR (R199). -/
def effAddr (s : Nat) (i : SqInstr) (c : Chip) : Chip :=
  match i with
  | .addr r imm => sqNext s (nextPc s c) (setS s r (sReg (sqOf s c) r + imm.signExtend 64) c)
  | _ => c

/-- GETC (R199). -/
def effGetc (s : Nat) (i : SqInstr) (c : Chip) : Chip :=
  match i with
  | .getc r => sqNext s (nextPc s c) (setS s r (BitVec.ofNat 64 (sqOf s c).cursor) c)
  | _ => c

/-! ### Carrying a microword out (R243, R245) -/

/-- The flags at 0x02ss_s010, by bit (R213). -/
def sqFlagAt (s : Nat) : List Field :=
  [P.sqLate s, P.sqBindMiss s, P.sqSqFault s, P.sqWaitoTimeout s, P.sqWaittPast s, P.sqSlotDup s, P.sqMarkRefused s]

/-- The counters of a sequencer (R213). -/
def sqCounters (s : Nat) : List Field :=
  [P.sqLateCount s, P.sqBindMissCount s, P.sqShotCount s, P.sqShotInvalidCount s, P.sqStallTicks s, P.sqWaittPastCount s,
   P.sqWaitoTimeoutCount s, P.sqSlotDupCount s, P.sqProgWrRefused s, P.sqMarkRefusedCount s]

/-- OR a value into the flags at 0x02ss_s010. -/
def orFlags (s v : Nat) (c : Chip) : Chip :=
  ((sqFlagAt s).zipIdx.filter (fun p => bitAt v p.2)).foldl (fun c p => setFlag p.1 c) c

/-- OR a value into the flags of the shot being posted (R206). -/
def orShot (s v : Nat) (c : Chip) : Chip :=
  ((List.range 14).filter (bitAt v)).foldl (fun c b => markShot s (max 1 (sqOf s c).shotsPosted) b c) c

/-- Write a microword's destination in the sequencer. A ninth entry of a stack and a pop of an empty one raise the faults of R199. -/
def uWrite (s w res : Nat) (r : URegs) (c : Chip) : Chip :=
  let x := sqOf s c
  match uDest w, x.loops, x.calls with
  | 2, _, _ => setSq s { x with cursor := res } c
  | 3, _, _ => setS s ((sqLn r.ir).extractLsb' 0 3) (BitVec.ofNat 64 res) c
  | 5, ls, _ => if 8 ≤ ls.length then sqRaise s 0x05 c else setSq s { x with loops := (res, r.pc) :: ls } c
  | 6, _ :: ls, _ => setSq s { x with loops := ls } c
  | 7, (_, a) :: ls, _ => setSq s { x with loops := (res, a) :: ls } c
  | 6, [], _ | 7, [], _ => sqRaise s 0x06 c
  | 8, _, as => if 8 ≤ as.length then sqRaise s 0x07 c else setSq s { x with calls := res :: as } c
  | 9, _, _ :: as => setSq s { x with calls := as } c
  | 9, _, [] => sqRaise s 0x08 c
  | 10, _, _ => orFlags s (res % 2 ^ 16) c
  | 11, _, _ => orShot s (res % 2 ^ 16) c
  | 12, _, _ => match (sqCounters s)[Config.counterNo (res % 32)]? with
    | some f => count f c
    | none => c
  | 14, _, _ => wr (P.sqSqDone s) 1 c
  | _, _, _ => c

/-- POST: the staged slot goes into the table, with the checkpoint captured for a SHOT (R183, R185, R243). -/
def uPost (s : Nat) (r : URegs) (c : Chip) : Chip :=
  match r.staged with
  | none => c
  | some sl =>
    let x := sqOf s c
    let y := if sl.kind == 0x05 then
        { x with shotsPosted := x.shotsPosted + 1, lastShot := some sl.time, checks := x.checks ++ [r.check] }
      else if sl.kind == 0x0A then { x with checks := x.checks ++ [none] } else x
    postSlot s { sl with shot := max 1 y.shotsPosted, posted := c.clk, boundary := y.lastShot.getD (runGtOf c) } (setSq s y c)

/-- What SLOT does in the sequencer (R243). -/
def uSlotAct (s w : Nat) (r : URegs) (c : Chip) : Chip :=
  match uSlot w with
  | 4 => uPost s r c
  | 5 =>
    let c1 := uPost s r c
    setSq s { sqOf s c1 with cursor := ((sqOf s c1).cursor + (sqX r.ir).toNat) % 2 ^ 64 } c1
  | _ => c

/-- What SEQ and RAISE do in the sequencer (R243, R248): DISPATCH goes on to the instruction in NIR, STOP ends issue, and TRAPRET outside
a trap is an MC fault (R249). -/
def uSeqAct (s w : Nat) (r : URegs) (c : Chip) : Chip :=
  if uRaise w then sqRaise s (uLit w % 256) c
  else match uSeq w with
    | 4 => setSq s { sqOf s c with pc := r.nirPc, stall := 0 } c
    | 5 => setSq s { sqOf s c with issuing := false, stall := 0 } c
    | 7 => mcFault 2 c s
    | _ => c

/-- Carry out the microword of this tick (R242–R245). -/
def uCarry (s : Nat) (u : UTick) (c : Chip) : Chip :=
  let m := microOf s c
  let c1 := uWrite s u.word u.res m.regs (setMicro s { m with did := true } c)
  if (sqOf s c1).faulting.isSome then c1 else uSeqAct s u.word m.regs (uSlotAct s u.word m.regs c1)

/-- The microword of this tick is carried out, if its wait ended as `wake` says (0: it waited on no selector). -/
def uIssue (s : Nat) (wake : Nat → Bool) (c : Chip) : Chip :=
  match (microOf s c).due with
  | some u => if (microOf s c).did || !wake u.wake then c else uCarry s u c
  | none => c

/-- Issue the instruction at PC, whose opcode is `op`: a fault raised in its first issue tick and taken in the next, or its effect in its
last issue tick (R193, R211, R248); with a patch in force, its microword of this tick. -/
def sqIssue (s op : Nat) (eff : SqInstr → Chip → Chip) (c : Chip) : Chip :=
  if sqBegun s op c then
    match (sqOf s c).faulting with
    | some (t, code) => if t ≤ c.clk then sqFault s code c else c
    | none =>
      if patched c then uIssue s (· == 0) c
      else match sqFaults s c with
        | [] =>
          if sqLast s c then
            match decodeSq (sqWord s (sqOf s c).pc c) with
            | some i => eff i c
            | none => c
          else c
        | f :: fs => sqRaise s (fs.foldl min f) c
  else c

/-! ### Waiting on outcomes (R197, R198, R228, R229) -/

/-- Where a BRO that has its value branches to, if it does (R198, R228). -/
def broTarget (i : SqInstr) (v : Sel) : Option Nat :=
  match i with
  | .bro mode x _ val =>
    match mode.toNat with
    | 0 => if v.value == val.toNat then some x.toNat else none
    | 1 => if v.value != val.toNat then some x.toNat else none
    | _ => match v.entry with
      | some e => if bitAt e 13 then some (bits e 0 13) else none
      | none => if v.alt then some x.toNat else none
  | _ => none

/-- The instruction that waited is done: C is not below the bound, and the next one starts after the ticks it has left, this
tick included (R193, R197, R198). -/
def waitDone (s bound pc ticks : Nat) (c : Chip) : Chip :=
  let x := sqOf s c
  let c1 := sqNext s pc (setSq s { x with cursor := max x.cursor bound % 2 ^ 64 } c)
  setSq s { sqOf s c1 with first := c.clk + ticks } c1

/-- BRO_STALE is set and counted once for each instruction (R229). -/
def staleOnce (s : Nat) (c : Chip) : Chip :=
  let x := sqOf s c
  if x.staleSeen then c
  else count (P.osqBroStaleCount s) (setFlag (P.osqBroStale s) (setSq s { x with staleSeen := true } c))

/-- STALE_POLICY of a sequencer. -/
def stalePolicy (s : Nat) (c : Chip) : Nat := rd (P.osqStalePolicy s) c

/-- The ticks an instruction takes from its resumption: 1 for a WAITO, 2 for a BRO not taken, 4 for one taken (R193). -/
def waitTicks (i : SqInstr) (taken : Bool) : Nat :=
  match i with
  | .bro .. => if taken then 4 else 2
  | _ => 1

/-- A fresh value: it became visible by GT r, and the instruction resumes in this tick (R197). -/
def resumeFresh (s r : Nat) (i : SqInstr) (v : Sel) (c : Chip) : Chip :=
  let t := broTarget i v
  waitDone s (r + rd (P.sqWaitoGap s) c) (t.getD ((sqOf s c).pc + 1)) (waitTicks i t.isSome) c

/-- The shot a sequencer is posting (R198, R205). -/
def postingShot (s : Nat) (c : Chip) : Nat := max 1 (sqOf s c).shotsPosted

/-- A stale value under DEFAULT or INVALIDATE, seen in GT r: the instruction resumes in the tick after it and falls through
(R229). -/
def resumeStale (s r extra : Nat) (i : SqInstr) (c : Chip) : Chip :=
  let c1 := if stalePolicy s c == 2 then markShot s (postingShot s c) Sf.outcome c else c
  waitDone s (r + rd (P.sqWaitoGap s) c) ((sqOf s c).pc + 1) (waitTicks i false + extra) c1

/-- WAITO or BRO in its first tick (R197, R229). -/
def effWait (s : Nat) (i : SqInstr) (c : Chip) : Chip :=
  let v := selNow s c
  match v.ready with
  | .fresh => resumeFresh s (c.tl.gt - 1) i v c
  | .stale =>
    let c1 := staleOnce s c
    if stalePolicy s c == 0 then setSq s { sqOf s c1 with waiting := some c.clk, stall := 4 } c1
    else resumeStale s c.tl.gt 1 i c1
  | .notReady => setSq s { sqOf s c with waiting := some c.clk, stall := 4 } c

/-- The GT in which a fresh value became visible, and whether WAITO_LIMIT had not run out by then (R197, R198). -/
def seenBy (s i : Nat) (c : Chip) : Nat × Bool :=
  let r := (sqOf s c).seen.getD (c.tl.gt - 1)
  let lim := rd (P.sqWaitoLimit s) c
  (r, lim == 0 || decide (c.clk + r ≤ i + lim + c.tl.gt))

/-- WAITO_RESUME: the tick after the value became visible, fresh or stale (R197, R229). -/
def waitoResume (s : Nat) (c : Chip) : Chip :=
  match waitingOn s c with
  | none => if patched c then uIssue s (· == 1) c else c
  | some (w, i, v) =>
    if c.clk ≤ i || inTrap s c || (microOf s c).stopped then c
    else match v.ready with
      | .fresh => if (seenBy s i c).2 then resumeFresh s (seenBy s i c).1 w v c else c
      | .stale => if stalePolicy s c == 0 then staleOnce s c else resumeStale s (c.tl.gt - 1) 0 w (staleOnce s c)
      | .notReady => c

/-- WAITO_TIMEOUT: no fresh value was visible by tick i + WAITO_LIMIT (R198). -/
def waitoTimeout (s : Nat) (c : Chip) : Chip :=
  match waitingOn s c with
  | none => if patched c then uIssue s (· == 2) c else c
  | some (w, i, v) =>
    let lim := rd (P.sqWaitoLimit s) c
    if (v.ready == .fresh && (seenBy s i c).2) || lim == 0 || c.clk ≤ i + lim || inTrap s c || (microOf s c).stopped then c
    else
      let c1 := markShot s (postingShot s c) Sf.waitoTimeout
        (count (P.sqWaitoTimeoutCount s) (setFlag (P.sqWaitoTimeout s) c))
      waitDone s (c.tl.gt - (c.clk - i) + lim + rd (P.sqWaitoGap s) c) ((sqOf s c).pc + 1) (waitTicks w false) c1

/-- There is no instruction of R193 to issue: PC is past the program, the opcode is undefined, or the word is an EXT alone. -/
def sqNoInstr (s : Nat) (c : Chip) : Bool :=
  decide (8192 ≤ (sqOf s c).pc) || !sqOpcode (BitVec.ofNat 8 (sqOpNow s c)) || sqOpNow s c == 0x1F

/-- SQ_ILLEGAL_OP: the word at PC is no instruction of R193, an EXT alone, or PC is past the program (R193, R194, R199); with a patch in
force, the routine of that opcode (R240). -/
def sqIllegal (s : Nat) (c : Chip) : Chip :=
  let x := sqOf s c
  if x.issuing && decide (x.first ≤ c.clk) && !(microOf s c).stopped && !inTrap s c && sqNoInstr s c then
    match x.faulting with
    | some (t, code) => if t ≤ c.clk then sqFault s code c else c
    | none => if patched c then uIssue s (· == 0) c else sqRaise s (if 8192 ≤ x.pc then 0x09 else 0x01) c
  else c

/-! ### Starting and stopping (R208, R209) -/

/-- A sequencer starts issuing in this tick with C at the run GT (R208). -/
def sqStart (gt : Nat) (c : Chip) (s : Nat) : Chip :=
  if on (P.sqSqEn s) c then
    sqTick s (microStart s (wr (P.sqSqDone s) 0 (wr (P.sqFaultCode s) 0 (setSq s
      { Sequencer.reset with issuing := true, pc := rd (P.sqSqEntry s) c, first := c.clk, cursor := gt, opening := true } c))))
  else c

/-- A rewound sequencer resumes issuing from its checkpoint with C at the run GT; one that is done stays done (R209). -/
def sqResume (gt : Nat) (c : Chip) (s : Nat) : Chip :=
  if on (P.sqSqEn s) c && !on (P.sqSqDone s) c then
    sqTick s (microStart s (setSq s { sqOf s c with issuing := true, first := c.clk, cursor := gt, opening := true, lastShot := none,
                                                    shotsPosted := 0, flags := [] } c))
  else c

/-- Acceptance of MODE_SET RUN for a GT (R208, R209). -/
def startRun (gt : Nat) (c : Chip) : Chip :=
  (List.range 64).foldl (if c.md.mode == .hold then sqResume gt else sqStart gt) { c with md := { c.md with runGt := gt } }

/-- A sequencer closes its shot in progress, with its counts, flags and shot record, and opens `next`; a shot record that is lost marks
the shot in progress then, the one opened (R203, R205, R314). -/
def closeShot (s : Nat) (aborted byHold byEnd : Bool) (next : Option Nat) (c : Chip) : Chip :=
  match (sqOf s c).progress with
  | none => setSq s { sqOf s c with progress := next } c
  | some k =>
    let c0 := if aborted then markShot s k Sf.aborted c else c
    let x := sqOf s c0
    let f := Tab.get x.flags k 0
    let c1 := setSq s { x with progress := next, flags := Tab.put x.flags k 0 0 } c0
    let c2 := stepT (P.sqShotCount s) s c1
    let c3 := if f != 0 then stepT (P.sqShotInvalidCount s) (64 + s) c2 else c2
    offerShot s f (rd (P.sqShotCount s) c3) c.tl.gt byHold byEnd (wr (P.sqShotFlagsLast s) f c3)

/-- A sequencer at entry to any other mode in which none issues: nothing is left in its slot table (R212). -/
def sqStop (c : Chip) (s : Nat) : Chip :=
  let x := sqOf s c
  setSq s { x with issuing := false, slots := [], latched := [], checks := [], waiting := none, bindAt := none, stall := 0,
                   progress := none, opening := false, flags := [] } c

/-- A sequencer at entry to HOLD (R209). -/
def sqHold (c : Chip) (s : Nat) : Chip :=
  let c1 := closeShot s true true false none c
  if on (P.sqSqDone s) c1 then sqStop c1 s else sqRewind s c1

/-- A sequencer at entry to READY from RUN (R209). -/
def sqReady (c : Chip) (s : Nat) : Chip := wr (P.sqSqDone s) 0 (sqToEntry s (closeShot s true true false none c))

/-! ### Commands -/

/-- PLAY issues on sequencer sq (R193, R195). -/
def execPlay (sq : Fin 64) (s : State) : Host.Outcome State Fault Refusal :=
  onChip (sqIssue sq.val 0x01 (effPlay sq.val)) s

/-- ACQ issues on sequencer sq (R193, R195). -/
def execAcq (sq : Fin 64) (s : State) : Host.Outcome State Fault Refusal :=
  onChip (sqIssue sq.val 0x02 (effAcq sq.val)) s

/-- FRM issues on sequencer sq (R193, R195). -/
def execFrm (sq : Fin 64) (s : State) : Host.Outcome State Fault Refusal :=
  onChip (sqIssue sq.val 0x03 (effFrm sq.val)) s

/-- SETF issues on sequencer sq (R193, R195). -/
def execSetf (sq : Fin 64) (s : State) : Host.Outcome State Fault Refusal :=
  onChip (sqIssue sq.val 0x04 (effSetf sq.val)) s

/-- SHOT issues on sequencer sq (R193, R203). -/
def execShot (sq : Fin 64) (s : State) : Host.Outcome State Fault Refusal :=
  onChip (sqIssue sq.val 0x05 (effShot sq.val)) s

/-- MARK issues on sequencer sq (R193, R200). -/
def execMark (sq : Fin 64) (s : State) : Host.Outcome State Fault Refusal :=
  onChip (sqIssue sq.val 0x06 (effMark sq.val)) s

/-- POST issues on sequencer sq (R193, R201). -/
def execPost (sq : Fin 64) (s : State) : Host.Outcome State Fault Refusal :=
  onChip (sqIssue sq.val 0x07 (effPost sq.val)) s

/-- TXC issues on sequencer sq (R193, R201). -/
def execTxc (sq : Fin 64) (s : State) : Host.Outcome State Fault Refusal :=
  onChip (sqIssue sq.val 0x08 (effTxc sq.val)) s

/-- CALW issues on sequencer sq (R193, R202). -/
def execCalw (sq : Fin 64) (s : State) : Host.Outcome State Fault Refusal :=
  onChip (sqIssue sq.val 0x09 (effCalw sq.val)) s

/-- END issues on sequencer sq (R193, R203). -/
def execEndProg (sq : Fin 64) (s : State) : Host.Outcome State Fault Refusal :=
  onChip (sqIssue sq.val 0x0A (effEnd sq.val)) s

/-- NOP issues on sequencer sq (R193). -/
def execNop (sq : Fin 64) (s : State) : Host.Outcome State Fault Refusal :=
  onChip (sqIssue sq.val 0x00 (effNop sq.val)) s

/-- WAITT issues on sequencer sq (R196). -/
def execWaitt (sq : Fin 64) (s : State) : Host.Outcome State Fault Refusal :=
  onChip (sqIssue sq.val 0x10 (effWaitt sq.val)) s

/-- WAITO is met by sequencer sq (R197). -/
def execWaito (sq : Fin 64) (s : State) : Host.Outcome State Fault Refusal :=
  onChip (sqIssue sq.val 0x11 (effWait sq.val)) s

/-- WAITO_RESUME (R197, R229). -/
def execWaitoResume (sq : Fin 64) (s : State) : Host.Outcome State Fault Refusal := onChip (waitoResume sq.val) s

/-- WAITO_TIMEOUT (R198). -/
def execWaitoTimeout (sq : Fin 64) (s : State) : Host.Outcome State Fault Refusal := onChip (waitoTimeout sq.val) s

/-- BRO is met by sequencer sq (R197, R228). -/
def execBro (sq : Fin 64) (s : State) : Host.Outcome State Fault Refusal :=
  onChip (sqIssue sq.val 0x12 (effWait sq.val)) s

/-- LOOP issues on sequencer sq (R199). -/
def execLoop (sq : Fin 64) (s : State) : Host.Outcome State Fault Refusal :=
  onChip (sqIssue sq.val 0x13 (effLoop sq.val)) s

/-- ENDL issues on sequencer sq (R199). -/
def execEndl (sq : Fin 64) (s : State) : Host.Outcome State Fault Refusal :=
  onChip (sqIssue sq.val 0x14 (effEndl sq.val)) s

/-- CALL issues on sequencer sq (R199). -/
def execSqCall (sq : Fin 64) (s : State) : Host.Outcome State Fault Refusal :=
  onChip (sqIssue sq.val 0x15 (effSqCall sq.val)) s

/-- RET issues on sequencer sq (R199). -/
def execSqRet (sq : Fin 64) (s : State) : Host.Outcome State Fault Refusal :=
  onChip (sqIssue sq.val 0x16 (effSqRet sq.val)) s

/-- LDR issues on sequencer sq (R199). -/
def execLdr (sq : Fin 64) (s : State) : Host.Outcome State Fault Refusal :=
  onChip (sqIssue sq.val 0x18 (effLdr sq.val)) s

/-- ADDR issues on sequencer sq (R199). -/
def execAddr (sq : Fin 64) (s : State) : Host.Outcome State Fault Refusal :=
  onChip (sqIssue sq.val 0x19 (effAddr sq.val)) s

/-- GETC issues on sequencer sq (R199). -/
def execGetc (sq : Fin 64) (s : State) : Host.Outcome State Fault Refusal :=
  onChip (sqIssue sq.val 0x1A (effGetc sq.val)) s

/-- SQ_ILLEGAL_OP (R193, R194, R199). -/
def execSqIllegalOp (sq : Fin 64) (s : State) : Host.Outcome State Fault Refusal := onChip (sqIllegal sq.val) s

end Sys2Proof.Machine
end

