-- ==== Sys2Proof/Machine/Slots.lean ====
section
/-!
DEFINITION. Commit points (R182, R185–R191, R226, R227) and what latched slots do at their times (R66–R71, R98, R122, R123,
R124, R195, R200, R201), with the starts and releases of shelves (R74, R77, R78, R82).
-/

namespace Sys2Proof.Machine

/-! ### Commit points -/

/-- What a commit point finds of one slot: its binding, whether that has a target for it, the operand chosen, and the readiness
of a late-bound slot's selector (R182, R226). -/
structure Pick where
  slot : Slot
  bind : Bind
  has : Bool
  op : Nat
  ready : Option Ready

/-- A slot of a lane. -/
def laneSlotKind (k : Nat) : Bool := decide (1 ≤ k ∧ k ≤ 4)

/-- The binding has a target for a slot of a kind (R182). -/
def hasTarget (kind : Nat) (b : Bind) : Bool :=
  if kind == 0x01 then b.tone.isSome
  else if kind == 0x02 then b.chan.isSome
  else b.tone.isSome || b.chan.isSome

/-- Look at one slot at its commit point (R182, R226, R227). -/
def pickSlot (s : Nat) (c : Chip) (sl : Slot) : Pick :=
  let b := bindOf s sl.lane c
  let v := readSel sl.sel sl.boundary c
  { slot := sl, bind := b, has := !laneSlotKind sl.kind || hasTarget sl.kind b,
    op := if sl.lb && v.ready == .fresh && v.alt then sl.op1 else sl.op0,
    ready := if sl.lb then some v.ready else none }

/-- Two picks act on the same thing, so that the later posted one replaces the earlier (R190). -/
def Pick.replaces (q p : Pick) : Bool :=
  q.has && q.slot.kind == p.slot.kind &&
  match p.slot.kind with
  | 0x01 => q.slot.lane == p.slot.lane && !bitAt q.op 13
  | 0x03 => q.slot.lane == p.slot.lane && q.slot.rep && p.slot.rep
  | 0x04 => q.slot.lane == p.slot.lane
  | 0x06 => q.op % 8 == p.op % 8
  | _ => false

/-- A late-bound slot whose value is not ready or stale (R227). -/
def unreadyChoice (s : Nat) (p : Pick) (c : Chip) : Chip :=
  match p.ready with
  | some .notReady =>
    let c1 := count (P.osqLbNotReadyCount s) (setFlag (P.osqLbNotReady s) c)
    if stalePolicy s c == 1 then c1 else markShot s p.slot.shot Sf.outcome c1
  | some .stale =>
    let c1 := count (P.osqLbStaleCount s) (setFlag (P.osqLbStale s) c)
    if stalePolicy s c == 1 then c1 else markShot s p.slot.shot Sf.outcome c1
  | _ => c

/-- Keep a latched slot until it acts. -/
def keepLatched (s : Nat) (p : Pick) (lateOnly : Bool) (c : Chip) : Chip :=
  let x := sqOf s c
  setSq s { x with latched := x.latched ++
    [{ slot := p.slot, op := p.op, bind := p.bind, lateOnly := lateOnly, at_ := p.slot.time }] } c

/-- The ports of a CALW list by global number (R133, R202). -/
def calwPorts (s j : Nat) (c : Chip) : List Nat :=
  let m := rd (P.sqCalwDrv s j) c + rd (P.sqCalwPrb s j) c * 2 ^ 40 + rd (P.sqCalwFlx s j) c * 2 ^ 52
  (List.range 76).filter (fun k => bitAt m k)

/-- A slot that a commit point latches; `rest` are those posted after it for the same time (R133, R182, R190). -/
def latchPick (s : Nat) (rest : List Pick) (p : Pick) (c : Chip) : Chip :=
  if !p.has then
    markShot s p.slot.shot Sf.bindMiss (count (P.sqBindMissCount s) (setFlag (P.sqBindMiss s) c))
  else
    let c1 := unreadyChoice s p c
    let dup := rest.any (fun q => q.replaces p)
    match p.slot.kind with
    | 0x01 =>
      if bitAt p.op 13 then c1
      else if dup then count (P.sqSlotDupCount s) (setFlag (P.sqSlotDup s) c1)
      else match p.bind.tone with
        | some t => latchPlay t (p.op % 2 ^ 13) (sgn 16 (bits p.op 16 16)) p.slot.time (some (s, p.slot.shot)) c1
        | none => c1
    | 0x04 => if dup then count (P.sqSlotDupCount s) (setFlag (P.sqSlotDup s) c1) else keepLatched s p false c1
    | 0x03 | 0x06 => if dup then c1 else keepLatched s p false c1
    | 0x09 =>
      let ks := calwPorts s (p.op % 16) c1
      ks.foldl (fun c k => clashAtCommit p.slot.time k c) (ks.foldl (calwTake s p.slot.time) c1)
    | _ => keepLatched s p false c1

/-- Latch a list of slots in posting order. -/
def latchPicks (s : Nat) : List Pick → Chip → Chip
  | [], c => c
  | p :: ps, c => latchPicks s ps (latchPick s ps p c)

/-- A slot beyond the 32nd of its time is LATE; a boundary among them acts at its own time (R188, R191). -/
def overSlot (s : Nat) (c : Chip) (p : Pick) : Chip :=
  let c1 := lateSlot s p.slot c
  if isBoundary p.slot then keepLatched s p true c1 else c1

/-- SLOT_COMMIT: every slot of sequencer s whose time lies 16 ticks ahead is latched, its entry freed (R185, R187). -/
def slotCommit (s : Nat) (c : Chip) : Chip :=
  let x := sqOf s c
  let due := x.slots.filter (fun sl => sl.time == c.tl.gt + 16)
  if due.isEmpty then c
  else
    let ps := due.map (pickSlot s c)
    let c1 := setSq s { x with slots := x.slots.filter (fun sl => sl.time != c.tl.gt + 16) } c
    (ps.drop 32).foldl (overSlot s) (latchPicks s (ps.take 32) c1)

/-- Every commit point of this tick: what a write of the tick finds latched by its end (R75, R76). -/
def afterCommits (c : Chip) : Chip :=
  let c1 := c.sqs.sq.foldl (fun d p => slotCommit p.1 d) c
  c1.syn.lanes.foldl (fun d p => jumpLatchStep (keyTarget p.1) (chainLatchStep (keyTarget p.1) d)) c1

/-- A shelf is ACTIVE, or a commit point of this tick makes it so (R75, R76). -/
def shelfLocked (s : Nat) (c : Chip) : Bool :=
  rd (P.shelfState s) c == shelfActive || rd (P.shelfState s) (afterCommits c) == shelfActive

/-! ### Actions at their times -/

/-- The latched slots of one kind that act in this tick, in posting order. -/
def actNow (s kind : Nat) (c : Chip) : List Latched :=
  (sqOf s c).latched.filter (fun l => l.slot.kind == kind && l.at_ == c.tl.gt)

/-- Take the latched slots of one kind that act in this tick off the list. -/
def popNow (s kind : Nat) (c : Chip) : Chip :=
  let x := sqOf s c
  setSq s { x with latched := x.latched.filter (fun l => !(l.slot.kind == kind && l.at_ == c.tl.gt)) } c

/-- An FLX port has no tone: the slot is counted (R98). -/
def toneless (p : Nat) (c : Chip) : Chip := count (P.flxTonelessCount p) (setFlag (P.flxToneless p) c)

/-- A SETF on a tone or port: phase-continuous, or refused as out of band (R67, R68, R98). -/
def setfTone (t : Target) (fw : Nat) (c : Chip) : Chip :=
  match t with
  | .flx p => toneless p c
  | _ =>
    let (b, p) := tgtPort t
    if bandOk (rd (P.portBand b p) c) fw then setFreq t fw c
    else markTarget t Sf.freq (count (P.portFreqRefusedCount b p) (setFlag (P.portFreqRefused b p) c))

/-- A SETF on a channel (R122, R123, R205). -/
def setfChan (ch fw : Nat) (c : Chip) : Chip :=
  let r := ch / 24
  if (pairOf ch c).isSome then count (P.rinRxIgnoredCount r) c
  else if rxLegal fw then setRx ch fw c
  else markChan ch Sf.freq (setFlag (P.rinRxRange r) c)

/-- One SETF acts on its lane's tone and channel. -/
def setfAct (c : Chip) (l : Latched) : Chip :=
  let fw := l.slot.op0 + l.slot.op1 % 2 ^ 16 * 2 ^ 32
  let c1 := match l.bind.tone with
    | some t => setfTone t fw c
    | none => c
  match l.bind.chan with
  | some ch => setfChan ch fw c1
  | none => c1

/-- FREQUENCY_CHANGE: the SETF slots of sequencer s for this tick (R67, R68). -/
def frequencyChange (s : Nat) (c : Chip) : Chip := (actNow s 0x04 c).foldl setfAct (popNow s 0x04 c)

/-- One FRM acts (R70, R98, R122, R123). -/
def frmAct (c : Chip) (l : Latched) : Chip :=
  let c1 := match l.bind.tone with
    | some (.flx p) => toneless p c
    | some t =>
      let x := toneOf t c
      setTone t { x with frame := if l.slot.rep then l.op % 2 ^ 32 else (x.frame + l.op) % 2 ^ 32 } c
    | none => c
  match l.bind.chan with
  | some ch => count (P.rinRxIgnoredCount (ch / 24)) c1
  | none => c1

/-- FRAME_UPDATE: replacing FRMs, then adding ones (R70, R71). -/
def frameUpdate (s : Nat) (c : Chip) : Chip :=
  let ls := actNow s 0x03 c
  (ls.filter (fun l => !l.slot.rep)).foldl frmAct ((ls.filter (fun l => l.slot.rep)).foldl frmAct (popNow s 0x03 c))

/-- WINDOW_OPEN: the ACQ slots of sequencer s for this tick (R124). -/
def windowOpen (s : Nat) (c : Chip) : Chip :=
  (actNow s 0x02 c).foldl (fun c l => match l.bind.chan with
    | some ch => openWindow s l.slot.shot ch (l.op % 2 ^ 23) c
    | none => c) (popNow s 0x02 c)

/-- A MARK pin takes a level for slot time g (R46, R200). -/
def drivePin (pin : Nat) (level : Bool) (g : Nat) (c : Chip) : Chip :=
  if Tab.get c.sqs.markHigh pin false == level then c
  else emit (.mark pin level (markTime g c))
    { c with sqs := { c.sqs with markHigh := Tab.put c.sqs.markHigh pin false level },
             pn := { c.pn with markDue := c.pn.markDue ++ [(c.clk + 60, pin, level)] } }

/-- MARK_SRC in force in this tick: a change acts from the tick after it (R324). -/
def markSrcNow (pin : Nat) (c : Chip) : Bool := Tab.get c.ev.srcOld pin (rd (P.ciMarkSrc (0x10 + pin)) c) != 0

/-- The end of a pin's width pulse. -/
def pinEnd (pin : Nat) (e : Option Nat) (c : Chip) : Chip :=
  { c with sqs := { c.sqs with markEnd := match e with
      | some g => Tab.ins c.sqs.markEnd pin g
      | none => Tab.del c.sqs.markEnd pin } }

/-- One MARK acts, if its sequencer owns the pin and no event drives it (R200, R324). -/
def markAct (s : Nat) (c : Chip) (l : Latched) : Chip :=
  let pin := l.op % 8
  if rd (P.sqMarkOwner pin) c != s || markSrcNow pin c then
    count (P.sqMarkRefusedCount s) (setFlag (P.sqMarkRefused s) c)
  else
    let g := c.tl.gt
    match bits l.op 4 2 with
    | 0 => drivePin pin false g (pinEnd pin none c)
    | 1 => drivePin pin true g (pinEnd pin none c)
    | 2 => drivePin pin true g (pinEnd pin (some (g + bits l.op 8 24)) c)
    | _ => drivePin pin (!Tab.get c.sqs.markHigh pin false) g (pinEnd pin none c)

/-- MARK_ACTION: the MARK slots of sequencer s for this tick (R200). -/
def markAction (s : Nat) (c : Chip) : Chip := (actNow s 0x06 c).foldl (markAct s) (popNow s 0x06 c)

/-- MARK_PULSE_END: the pin's width is over in this tick (R200). -/
def markPulseEnd (pin : Nat) (c : Chip) : Chip :=
  if Tab.find c.sqs.markEnd pin == some c.tl.gt then drivePin pin false c.tl.gt (pinEnd pin none c) else c

/-- POST_RAISE: the POST slots of sequencer s for this tick raise its producers (R201, R322). -/
def postRaise (s : Nat) (c : Chip) : Chip :=
  (actNow s 0x07 c).foldl (fun c l => raise (2 * s + l.op % 2) c) (popNow s 0x07 c)

/-! ### Shelf starts -/

/-- A shelf's first sample enters the pipeline in this tick: it reaches the pin 60 + PORT_DELAY ticks on (R72, R97). -/
def leavePin (t : Target) (s : Nat) (c : Chip) : Chip :=
  let (b, n) := tgtPort t
  { c with syn := { c.syn with pipe := c.syn.pipe ++
      [{ due := c.clk + 60 + rd (portDelay b n) c, t := t, shelf := s, gt := c.tl.gt, at256 := pinTime b n c.tl.gt c }] } }

/-- SHELF_START: a shelf's first sample on a target in this tick, or the start it missed (R71, R72, R77, R84, R97). A
start in a taken gap is silent (R135). -/
def shelfStart (t : Target) (c : Chip) : Chip :=
  let l := laneOf t c
  match startDue l c.tl.gt with
  | none => c
  | some p =>
    let c1 := setLane t { l with plays := l.plays.map (fun q => if q == p then { q with begun := true } else q),
                                 amp := p.amp.getD l.amp } c
    let (b, n) := tgtPort t
    if p.silent then (if p.underrun then underrunAt t p.shelf c.tl.gt c1 else c1)
    else clashAtStart t p (if gapped b n c.tl.gt c then c1 else leavePin t p.shelf c1)

/-! ### Commands -/

/-- SLOT_COMMIT (R187). -/
def execSlotCommit (sq : Fin 64) (s : State) : Host.Outcome State Fault Refusal := onChip (slotCommit sq.val) s

/-- CHAIN_LATCH (R78). -/
def execChainLatch (t : Target) (s : State) : Host.Outcome State Fault Refusal := onChip (chainLatchStep t) s

/-- JUMP_LATCH (R82, R83). -/
def execJumpLatch (t : Target) (s : State) : Host.Outcome State Fault Refusal := onChip (jumpLatchStep t) s

/-- SHELF_START (R77). -/
def execShelfStart (t : Target) (s : State) : Host.Outcome State Fault Refusal := onChip (shelfStart t) s

/-- SHELF_RELEASE (R74). -/
def execShelfRelease (shelf : Fin 8192) (s : State) : Host.Outcome State Fault Refusal := onChip (releaseStep shelf.val) s

/-- WINDOW_OPEN (R124). -/
def execWindowOpen (sq : Fin 64) (s : State) : Host.Outcome State Fault Refusal := onChip (windowOpen sq.val) s

/-- FRAME_UPDATE (R70). -/
def execFrameUpdate (sq : Fin 64) (s : State) : Host.Outcome State Fault Refusal := onChip (frameUpdate sq.val) s

/-- FREQUENCY_CHANGE (R68). -/
def execFrequencyChange (sq : Fin 64) (s : State) : Host.Outcome State Fault Refusal := onChip (frequencyChange sq.val) s

/-- MARK_ACTION (R200). -/
def execMarkAction (sq : Fin 64) (s : State) : Host.Outcome State Fault Refusal := onChip (markAction sq.val) s

/-- MARK_PULSE_END (R200). -/
def execMarkPulseEnd (pin : Fin 8) (s : State) : Host.Outcome State Fault Refusal := onChip (markPulseEnd pin.val) s

/-- POST_RAISE (R201). -/
def execPostRaise (sq : Fin 64) (s : State) : Host.Outcome State Fault Refusal := onChip (postRaise sq.val) s

/-- BIA_STRING_UPDATE (R104). -/
def execBiaStringUpdate (o : Fin 32) (s : State) : Host.Outcome State Fault Refusal := onChip (biasStringStep o.val) s

/-- SPAN_SWITCH (R105). -/
def execSpanSwitch (o : Fin 32) (s : State) : Host.Outcome State Fault Refusal := onChip (spanSwitchStep o.val) s

end Sys2Proof.Machine
end

