-- ==== Sys2Proof/Machine/Trigger.lean ====
section
/-!
DEFINITION. TRIG inputs (R300, R301), trigger units' arms and decisions (R304–R307), blocks and the stream writer (R299, R309–R315,
R343).
-/

namespace Sys2Proof.Machine

/-! ### TRIG inputs (R300, R301) -/

/-- EDGE_SEL names an edge. -/
def edgeSelected (p : Nat) (falling : Bool) (c : Chip) : Bool :=
  bitAt (rd (P.pinEdgeSel p) c) (b2n falling)

/-- The pin's level, which the trigger word samples at the start of the next tick (R301). -/
def trigLevel (p : Nat) (high : Bool) (c : Chip) : Chip := { c with pn := { c.pn with trig := setBits c.pn.trig p 1 (b2n high) } }

/-- The stamp of an edge at a pin instant (R300, R47). -/
def edgeTime (p : Nat) (pinAt : Int) (c : Chip) : Int := commonTime (pinAt - (rd (P.pinTrigFine p) c : Nat)) c

/-- A stamped edge in tick ⌊T⌋ + 4: its bit of the trigger word, its producer and its EDGE records (R300). -/
def edgeActs (p : Nat) (falling : Bool) (t : Int) (c : Chip) : Chip :=
  let c1 := count (P.pinEdgeCount p) (wr (P.pinLastEdge p) (shortFine t) c)
  offerEdge p falling t (raise (0xC8 + p) { c1 with aq := { c1.aq with edges := Tab.ins c1.aq.edges p t } })

/-- EDGE_STAMP (R300): a selected edge, at least four ticks after the last one stamped. The pin's level changes with the edge; the
rest comes in the tick four after its stamp, which is this tick or a later one. -/
def edgeStamp (p : Nat) (falling : Bool) (pinAt : Int) (c : Chip) : Chip :=
  let t := edgeTime p pinAt c
  let ahead := t / 256 + 4 - (c.tl.gt : Int)
  if edgeSelected p falling c && !inModes [.reset, .boot, .shutdown] c && decide (0 ≤ ahead) then
    let near := match Tab.find c.aq.lastEdge p with
      | some l => decide (pinAt < l + 1024)
      | none => false
    let c1 := trigLevel p (!falling) c
    if near then count (P.pinEdgeMissCount p) c1
    else
      let c2 := { c1 with aq := { c1.aq with lastEdge := Tab.ins c1.aq.lastEdge p pinAt } }
      if ahead = 0 then edgeActs p falling t c2
      else { c2 with aq := { c2.aq with stamps := c2.aq.stamps ++ [(c.clk + ahead.toNat, p, falling, t)] } }
  else c

/-- The stamped edges whose tick has come (R300). -/
def stampsDue (c : Chip) : Chip :=
  (c.aq.stamps.filter (fun x => x.1 == c.clk)).foldl (fun c x => edgeActs x.2.1 x.2.2.1 x.2.2.2 c)
    { c with aq := { c.aq with stamps := c.aq.stamps.filter (fun x => x.1 != c.clk) } }

/-- TRIG_PIN_CHANGE (R300, R301): the level changes with no stamp; `missed`: a selected edge too near the last one stamped. -/
def trigPinChange (p : Nat) (high missed : Bool) (c : Chip) : Chip :=
  let c1 := trigLevel p high c
  if missed && edgeSelected p (!high) c && !inModes [.reset, .boot, .shutdown] c then count (P.pinEdgeMissCount p) c1 else c1

/-! ### Arming (R304–R306) -/

/-- A unit arms: it is ARMED in this tick, whose evaluation it takes part in (R302, R304). -/
def tuArmed (t : Nat) (c : Chip) : Chip := setTu t { tuOf t c with state := 2, prev := false, matched := false, cands := [] } c

/-- TU_ARM: an arm due in this tick (R53, R304). -/
def tuArmStep (t : Nat) (c : Chip) : Chip :=
  match schedDue (· == .arm t) c with
  | none => c
  | some e =>
    let c1 := schedPop (· == .arm t) c
    if schedKeeps e c then tuArmed t (finish e.issuer St.ok [] c1) else cancelled e St.notAligned c1

/-- TU_REARM (R305): HOLDOFF + 1 ticks after the decision an AUTO unit arms again. -/
def tuRearmStep (t : Nat) (c : Chip) : Chip :=
  let x := tuOf t c
  if x.state == 4 && decide (x.rearmAt ≤ c.clk) then tuArmed t c else c

/-- A DISARM takes effect: the unit is IDLE, and a pending arm of it is gone (R304). -/
def disarmNow (t : Nat) (c : Chip) : Chip :=
  let es := c.tl.sched.filter (fun e => e.act == .arm t)
  let c1 := { c with tl := { c.tl with sched := c.tl.sched.filter (fun e => e.act != .arm t) } }
  let c2 := es.foldl (fun c e => finish e.issuer St.cancelled [] c) c1
  setTu t { tuOf t c2 with state := 0, disarmAt := none, cands := [], prev := false, matched := false } c2

/-- Schedule a unit's arm: it is ARMING (R304). -/
def tuSchedule (t gt : Nat) (gt0 : Bool) (i : Option Issuer) (c : Chip) : Chip :=
  schedule (.arm t) gt gt0 i (setTu t { tuOf t c with state := 1 } c)

/-- The ARG of a TRIG_ARM (R306). -/
def armArg (t gt : Nat) (disarm : Bool) : Nat := gt % 2 ^ 48 + t % 8 * 2 ^ 56 + b2n disarm * 2 ^ 60

/-- The GT nearest to now that a 48-bit field names (R306). -/
def nearGt (v now : Nat) : Nat :=
  let b : Int := (now - now % 2 ^ 48 : Nat) + (v % 2 ^ 48 : Nat)
  let lo : Int := (now : Int) - (2 ^ 47 : Nat)
  (if b < lo then b + (2 ^ 48 : Nat) else if lo + (2 ^ 48 : Nat) ≤ b then b - (2 ^ 48 : Nat) else b).toNat

/-- What refuses an ARM_AT (R304), if anything does, in the order of R52: alignment, the lead, the unit's own limits, the room in
the queue. DEDUCED (log): R464 would put the statuses in the order of R304, and R52 speaks of a command that schedules. -/
def armRefused (t gt : Nat) (c : Chip) : Option Nat :=
  if tuMesh t c && (!vouched c || gt == 0) then some St.notAligned
  else if gt != 0 && decide (gt < c.tl.gt + (if tuMesh t c then 20000 else 1000)) then some St.tooSoon
  else if (tuOf t c).state != 0 then some St.tuBusy
  else if tuMesh t c && !on P.lnkNodeValid c then some St.notJoined
  else if !schedRoom c then some St.schedFull
  else none

/-- An accepted ARM_AT: GT 0 is the next tick; a MESH unit floods TRIG_ARM (R304, R306). -/
def armWrite (t gt : Nat) (i : Option Issuer) (c : Chip) : Chip :=
  let c1 := tuSchedule t (if gt == 0 then c.tl.gt + 1 else gt) (gt == 0) i c
  if tuMesh t c then floodControl Sub.trigArm (rd P.lnkNodeId c) true 0 (armArg t gt false) 0 0 c1 else c1

/-- An accepted DISARM (R304, R306). -/
def disarmWrite (t : Nat) (c : Chip) : Chip :=
  let c1 := setTu t { tuOf t c with disarmAt := some (c.clk + 1) } c
  if tuMesh t c then floodControl Sub.trigArm (rd P.lnkNodeId c) true 0 (armArg t (c.tl.gt + 1) true) 0 0 c1 else c1

/-- TRIG_ARM (R306): the unit of that number, if it is MESH, arms or disarms; the change is logged (R389). -/
def trigArmHeard (k : Ctl) (c : Chip) : Chip :=
  let arg := k.arg.toNat
  let t := bits arg 56 3
  let gt := nearGt arg c.tl.gt
  if tuMesh t c then
    if bitAt arg 60 then
      audit (.peer k.node.val) false false (P.tuDisarm t).id 0 1
        (setTu t { tuOf t c with disarmAt := some (c.clk + max 1 (gt - c.tl.gt)) } c)
    else if decide (gt < c.tl.gt) || (tuOf t c).state != 0 || !schedRoom c then setFlag (P.tuArmLate t) c
    else audit (.peer k.node.val) false false (P.tuArmAt t).id 0 gt (tuSchedule t gt false none c)
  else c

/-! ### Mesh fires (R307) -/

/-- F of a TRIG_FIRE (R307). -/
def fireArg (arg now : Nat) : Int := (nearGt (bits arg 8 48) now : Int) * 256 + (bits arg 0 8 : Nat)

/-- TRIG_FIRE (R307): a candidate while the unit is ARMED or SETTLING; late while it is IDLE or ARMING. -/
def trigFireHeard (k : Ctl) (c : Chip) : Chip :=
  let t := bits k.arg.toNat 56 3
  let f := fireArg k.arg.toNat c.tl.gt
  let x := tuOf t c
  if tuMesh t c then
    if x.state == 2 || x.state == 3 then
      let x1 := { x with cands := x.cands ++ [{ f := f, node := k.node.val, remote := true, word := 0 }] }
      if x.cands.isEmpty then
        setTu t { x1 with state := 3,
                          settleAt := settleTick f t c } c
      else setTu t x1 c
    else if x.state == 0 || x.state == 1 then
      setFlagIf (match x.lastF with | some l => decide (f < l) | none => false) (P.tuFireConflict t) (count (P.tuFireLateCount t) c)
    else c
  else c

/-- The candidate that wins: the smallest F, then the lowest node (R307). -/
def bestCand : List Cand → Option Cand
  | [] => none
  | x :: xs => match bestCand xs with
    | none => some x
    | some y => if y.f < x.f || (y.f == x.f && decide (y.node < x.node)) then some y else some x

/-- SETTLE_EXPIRY (R305, R307). -/
def settleExpiry (t : Nat) (c : Chip) : Chip :=
  let x := tuOf t c
  if x.state == 3 && tuRuns t c && decide (x.settleAt ≤ c.clk) then
    match bestCand x.cands with
    | none => c
    | some b => tuDecide t b.f b.node b.remote b.word c
  else c

/-! ### Blocks (R299, R310) -/

/-- A block of a stream: a continuous stream stages it; a triggered one holds it, and emits it if its window wants it (R310). -/
def offerBlock (k : Nat) (r : Rec) (c : Chip) : Chip :=
  if on (P.stTriggered k) c then
    let c1 := match (streamOf k c).win with
      | some (lo, hi) => if meets lo hi r then offerTo k r (ownerOfCh r.src c) c else c
      | none => c
    if on (P.stStreamEn k) c && modeTakes r.rtype c then
      let s := streamOf k c1
      fitPart k (setStream k { s with held := s.held ++ [r], since := some (s.since.getD r.lo), upto := some r.hi } c1)
    else c1
  else offerTo k r (ownerOfCh r.src c) c

/-- A window whose last block has been offered is over (R310). -/
def windowOver (k : Nat) (hi : Int) (c : Chip) : Chip :=
  match (streamOf k c).win with
  | some w => if w.2 ≤ hi then setStream k { streamOf k c with win := none } c else c
  | none => c

/-- The CHAN block of a channel that ends now (R298, R299). -/
def chanRec (ch : Nat) (samples : List Nat) (c : Chip) : Rec :=
  let at0 := pinInstant (ch / 24) (c.tl.gt - 1024) 48 c
  { rtype := 7, src := ch, flags := 0,
    words := shortFine at0 :: (List.range 128).map (fun j => samples.getD (2 * j) 0 + samples.getD (2 * j + 1) 0 * 2 ^ 32),
    offered := c.clk, lo := at0, hi := at0 + 1024 * 256 }

/-- The channels of a CHAN stream: an input and a mask of its 24 channels (R309). -/
def chanMask (k : Nat) (c : Chip) : List Nat :=
  let s := rd (P.stSrcSel k) c
  if bits s 0 4 < 12 then ((List.range 24).filter (fun j => bitAt s (8 + j))).map (fun j => 24 * bits s 0 4 + j) else []

/-- CHAN_BLOCK: every 1,024 ticks, the blocks of every CHAN stream (R299). -/
def chanBlock (c : Chip) : Chip :=
  if c.tl.gt % 1024 == 0 && c.aq.chanBuf.any (fun l => l.length == 256) then
    let buf := c.aq.chanBuf
    let c1 := (List.range 16).foldl (fun c k =>
      if on (P.stStreamEn k) c && rd (P.stKind k) c == 1 then
        let rs := (chanMask k c).filterMap (fun ch => let l := buf.getD ch []
          if l.length == 256 then some (chanRec ch l.reverse c) else none)
        windowOver k (pinInstant (bits (rd (P.stSrcSel k) c) 0 4) c.tl.gt 48 c) (rs.foldl (fun c r => offerBlock k r c) c)
      else c) c
    { c1 with aq := { c1.aq with chanBuf := [] } }
  else c

/-- Sample i of the RAW block that ends now (R299). -/
def rawSample (r i : Nat) (corr : Bool) (c : Chip) : Nat :=
  toField 16 (if corr then clampI (-2048) 2047 (wholeOf (corrected r (12 * (c.clk - 264) + i) c)) else adcCode r (12 * (c.clk - 256) + i) c)

/-- The RAW block of an input that ends now (R298, R299). -/
def rawRec (r : Nat) (corr : Bool) (c : Chip) : Rec :=
  let at0 := pinInstant r (c.tl.gt - 256) (if corr then 16 else 8) c
  { rtype := 8, src := r, flags := b2n corr,
    words := shortFine at0 :: (List.range 768).map (fun j =>
      rawSample r (4 * j) corr c + rawSample r (4 * j + 1) corr c * 2 ^ 16 + rawSample r (4 * j + 2) corr c * 2 ^ 32 +
        rawSample r (4 * j + 3) corr c * 2 ^ 48),
    offered := c.clk, lo := at0, hi := at0 + 256 * 256 }

/-- RAW_BLOCK: every 256 ticks, the blocks of every RAW stream (R299). -/
def rawBlock (c : Chip) : Chip :=
  if c.tl.gt % 256 == 0 && 256 ≤ c.tl.gt && 256 ≤ c.clk && sampling c then
    (List.range 16).foldl (fun c k =>
      let r := bits (rd (P.stSrcSel k) c) 0 4
      if on (P.stStreamEn k) c && rd (P.stKind k) c == 2 && decide (r < 12) && on (P.rinRinEn r) c then
        let b := rawRec r (on (P.stRawCorr k) c) c
        windowOver k b.hi (offerBlock k b c)
      else c) c
  else c

/-! ### The stream writer (R297, R312–R314, R343) -/

/-- The header of a record (R297). -/
def recHeader (r : Rec) (seq : Nat) : Nat :=
  r.rtype % 16 + r.words.length % 4096 * 2 ^ 4 + (r.src % 512 + r.flags % 128 * 2 ^ 9) * 2 ^ 16 + seq % 2 ^ 32 * 2 ^ 32

/-- Write 64-bit words into a ring of 8-byte entries from index i on, going round at its end (R297, R343). -/
def ringWords (x : Ring) (i : Nat) (ws : List Nat) (c : Chip) : Chip :=
  let room := 2 ^ x.log2 - i % 2 ^ x.log2
  let put (a : Nat) (l : List Nat) (c : Chip) : Chip :=
    if l.isEmpty then c else emit (.hostWrite x.fn a (l.flatMap (leBytes 8))) c
  put x.base (ws.drop room) (put (ringAddr x 8 i) (ws.take room) c)

/-- Modes in which the stream writer runs (R315). -/
def streamModes (c : Chip) : Bool := !inModes [.reset, .boot, .fallback, .shutdown] c

/-- The largest record a stream carries, in payload words (R312, R343). -/
def largestRec (kind : Nat) : Nat := if kind == 1 then 129 else if kind == 2 then 769 else 2

/-- The charge of a stream (R313). -/
def streamCharge (k : Nat) (c : Chip) : Nat :=
  if rd (P.stKind k) c == 1 && !on (P.stTriggered k) c then 1015625 * (chanMask k c).length else rd (P.stRate k) c

/-- The charges of the enabled streams (R313). -/
def budgetUsed (c : Chip) : Nat :=
  (List.range 16).foldl (fun n k => if on (P.stStreamEn k) c then n + streamCharge k c else n) 0

/-- What refuses STREAM_EN = 1 for a session's stream (R312), if anything does. -/
def streamRefused (k : Nat) (ses : Option Nat) (c : Chip) : Option Nat :=
  let x := ringOf (rd (P.stRing k) c) c
  let kind := rd (P.stKind k) c
  let b := rd (P.stBufBase k) c
  let z := rd (P.stBufSize k) c
  if !(x.ty == 5 && x.run && ses == some x.ses && decide (1 + largestRec kind ≤ 2 ^ x.log2)) then some St.badRing
  else if (List.range 16).any (fun j => j != k && on (P.stStreamEn j) c &&
      decide (rd (P.stBufBase j) c < b + z ∧ b < rd (P.stBufBase j) c + rd (P.stBufSize j) c)) then some St.bufOverlap
  else if decide (z * 4096 < 2 * 8 * (1 + largestRec kind)) || decide (1536 < b + z) || (kind == 2 && !on (P.stTriggered k) c) then
    some St.badValue
  else if decide (rd P.trgStreamBudget c < budgetUsed c + streamCharge k c) then some St.budget
  else none

/-- An accepted write to STREAM_EN (R312): enabling restarts SEQ and empties the part. -/
def streamWriteEn (k : Nat) (en : Bool) (fn ses : Nat) (c : Chip) : Chip :=
  if en && !on (P.stStreamEn k) c then wr (P.stStreamEn k) 1 (setStream k { Stream.reset with fn := fn, ses := ses } c)
  else wr (P.stStreamEn k) (b2n en) c

/-! ### Commands -/

/-- EDGE_STAMP (R300). -/
def execEdgeStamp (p : Fin 4) (falling : Bool) (gt : BitVec 64) (f : BitVec 8) (s : State) : Host.Outcome State Fault Refusal :=
  onChip (edgeStamp p.val falling ((gt.toNat : Int) * 256 + (f.toNat : Int))) s

/-- TRIG_PIN_CHANGE (R301). -/
def execTrigPinChange (p : Fin 4) (level selected : Bool) (s : State) : Host.Outcome State Fault Refusal :=
  onChip (trigPinChange p.val level selected) s

/-- SETTLE_EXPIRY (R307). -/
def execSettleExpiry (t : Fin 8) (s : State) : Host.Outcome State Fault Refusal := onChip (settleExpiry t.val) s

/-- TU_REARM (R305). -/
def execTuRearm (t : Fin 8) (s : State) : Host.Outcome State Fault Refusal := onChip (tuRearmStep t.val) s

/-- TU_ARM (R53, R304). -/
def execTuArm (t : Fin 8) (s : State) : Host.Outcome State Fault Refusal := onChip (tuArmStep t.val) s

/-- TRIG_ARM (R273, R306). -/
def execTrigArm (rx : Rx) (k : Ctl) (s : State) : Host.Outcome State Fault Refusal :=
  rxChip rx.lg.val (.trigArm rx k) (ctlTake Sub.trigArm rx k (trigArmHeard k)) s

/-- TRIG_FIRE (R273, R307). -/
def execTrigFire (rx : Rx) (k : Ctl) (s : State) : Host.Outcome State Fault Refusal :=
  rxChip rx.lg.val (.trigFire rx k) (ctlTake Sub.trigFire rx k (trigFireHeard k)) s

/-- CHAN_BLOCK (R299). -/
def execChanBlock (s : State) : Host.Outcome State Fault Refusal := onChip chanBlock s

/-- RAW_BLOCK (R299). -/
def execRawBlock (s : State) : Host.Outcome State Fault Refusal := onChip rawBlock s

/-- GAP_RECORD (R314). -/
def execGapRecord (k : Fin 16) (s : State) : Host.Outcome State Fault Refusal := onChip (gapStep k.val) s

end Sys2Proof.Machine
end

