-- ==== Sys2Proof/Machine/EventMatrix.lean ====
section
/-!
DEFINITION. Event delivery, the storm guard, consumer inputs and event-driven MARK pins (R317–R329), and the gates (R318).
-/

namespace Sys2Proof.Machine

/-- The channels run (R329). -/
def matrixRuns (c : Chip) : Bool := !inModes [.reset, .boot, .shutdown] c

/-- The gates as sampled at the start of a tick: bit GATE_SEL (R318). -/
def gateBits (c : Chip) : Nat :=
  1 + 4 * b2n (c.md.mode == .run) + 8 * b2n (vouched c) + c.pn.trig % 16 * 2 ^ 8 + c.pn.mark % 256 * 2 ^ 16 +
  (List.range 64).foldl (fun n s =>
    match shotNow s c with
    | some k => if c.md.mode == .run && Tab.get (sqOf s c).flags k 0 == 0 then n + 2 ^ (0x40 + s) else n
    | none => n) 0

/-- Events drive the MARK pins: everywhere but in BENCH, and there where BENCH_MARK selects them (R28, R324). -/
def eventsDrive (c : Chip) : Bool := c.md.mode != .bench || rd P.sysBenchMark c == 3

/-- An event arrives at a MARK_EV input (R324, R28): a pin driven by events goes high for MARK_EV_WIDTH ticks. -/
def markEvent (pin : Nat) (c : Chip) : Chip :=
  if markSrcNow pin c && eventsDrive c then
    drivePin pin true c.tl.gt { c with ev := { c.ev with
      pulses := Tab.ins c.ev.pulses pin (c.clk, c.clk + rd (P.ciMarkEvWidth (0x10 + pin)) c) } }
  else c

/-- An event arrives at a DMA_EV input (R357): EV_PENDING, or a merge into it. -/
def dmaEvent (k : Nat) (c : Chip) : Chip :=
  if on (P.dchEvPending k) c then count (P.dchEvMergedCount k) c else wr (P.dchEvPending k) 1 c

/-- An event arrives at a HOST_EV input (R346). -/
def hostEvent (k : Nat) (c : Chip) : Chip :=
  let fn := rd (P.hevHevFunc k) c
  let v := rd (P.hevHevVector k) c
  if on (P.hevHevEn k) c && decide (v < tableSize fn) then sendVector fn v c else c

/-- What an arriving event does (R323). -/
def consume (cons : Nat) (c : Chip) : Chip :=
  if cons < 0x10 then { c with aq := { c.aq with evBits := c.aq.evBits ||| 2 ^ cons } }
  else if cons < 0x18 then markEvent (cons - 0x10) c
  else if cons < 0x28 then dmaEvent (cons - 0x18) c
  else if cons < 0x48 then hostEvent (cons - 0x28) c
  else c

/-- An arrival of channel `ch` at a consumer input (R320): the input acts once a tick; the second channel in the tick counts a
coincidence. -/
def arriveAt (ch cons : Nat) (c : Chip) : Chip :=
  let chs := match Tab.find c.ev.arrivals cons with
    | some (t, l) => if t == c.clk then l else []
    | none => []
  let c1 := { c with ev := { c.ev with arrivals := Tab.ins c.ev.arrivals cons (c.clk, if chs.contains ch then chs else ch :: chs) } }
  if chs.isEmpty then consume cons (count (P.ciArrivals cons) c1)
  else if chs.length == 1 && !chs.contains ch then count (P.ciCoincCount cons) c1
  else c1

/-- The storm guard stops a channel from this tick on (R326). -/
def storm (ch : Nat) (c : Chip) : Chip :=
  let c1 := { c with ev := { c.ev with flights := c.ev.flights.filter (fun f => f.ch != ch),
                                       old := c.ev.old.map (fun p => (p.1, if p.1 == ch then p.2.set 0 0 else p.2)) } }
  wr (P.ecChEn ch) 0 (count P.evmStormCount (setFlag (P.ecStorm ch) c1))

/-- One event of channel `ch` that arrives in this tick, unless the guard has discarded it (R317, R326, R328). -/
def deliverOne (ch : Nat) (c : Chip) (f : Flight) : Chip :=
  if c.ev.flights.contains f then
    let c1 := { c with ev := { c.ev with flights := c.ev.flights.erase f } }
    let past := (Tab.get c.ev.history ch []).filter (fun t => c.clk < t + 128)
    if 64 ≤ past.length then storm ch c1
    else
      let c2 := { c1 with ev := { c1.ev with history := Tab.ins c1.ev.history ch (past ++ [c.clk]) } }
      let c3 := wr (P.ecLastEvGt ch) c.tl.gt (count (P.ecEvCount ch) (setFlagIf f.watch (P.ecEvSeen ch) c2))
      arriveAt ch f.cons c3
  else c

/-- EVENT_DELIVER: the events of channel `ch` that arrive in this tick: two, where a change of RESYNC brings them together (R319). -/
def eventDeliver (ch : Nat) (c : Chip) : Chip :=
  if matrixRuns c then (c.ev.flights.filter (fun f => f.ch == ch && f.arrive == c.clk)).foldl (deliverOne ch) c else c

/-- MARK_EVENT_PULSE_END (R324). -/
def markEventEnd (pin : Nat) (c : Chip) : Chip :=
  match Tab.find c.ev.pulses pin with
  | none => c
  | some p =>
    if p.2 == c.clk then
      let c1 := { c with ev := { c.ev with pulses := Tab.del c.ev.pulses pin } }
      if eventsDrive c then drivePin pin false c.tl.gt c1 else c1
    else c

/-- A write to MARK_SRC: the source in force in this tick is kept, the change acts from the next (R324). -/
def keepSrc (pin : Nat) (c : Chip) : Chip :=
  match Tab.find c.ev.srcOld pin with
  | some _ => c
  | none => { c with ev := { c.ev with srcOld := Tab.ins c.ev.srcOld pin (rd (P.ciMarkSrc (0x10 + pin)) c) } }

/-- At the start of a tick: a pin whose source has changed is driven low, its pulse gone, until the new source drives it (R324); in
BENCH it keeps following BENCH_MARK (R28). -/
def srcStep (c : Chip) : Chip :=
  c.ev.srcOld.foldl (fun c p =>
    if rd (P.ciMarkSrc (0x10 + p.1)) c != p.2 then
      let c1 := { c with ev := { c.ev with pulses := Tab.del c.ev.pulses p.1 } }
      if eventsDrive c then drivePin p.1 false c.tl.gt (pinEnd p.1 none c1) else c1
    else c) { c with ev := { c.ev with srcOld := [] } }

/-- The MARK changes that reach their pins in this tick (R200, R324). -/
def markPinStep (c : Chip) : Chip :=
  let due := c.pn.markDue.filter (fun m => m.1 == c.clk)
  { c with pn := { c.pn with markDue := c.pn.markDue.filter (fun m => m.1 != c.clk),
                             mark := due.foldl (fun n m => setBits n m.2.1 1 (b2n m.2.2)) c.pn.mark } }

/-- SW_FIRE: bit j raises producer 0xF0 + j (R322). -/
def swFire (v : Nat) (c : Chip) : Chip :=
  (List.range 16).foldl (fun c j => if bitAt v j then raise (0xF0 + j) c else c) c

/-- EVENT_DELIVER (R317, R320, R326, R328). -/
def execEventDeliver (ch : Fin 128) (s : State) : Host.Outcome State Fault Refusal := onChip (eventDeliver ch.val) s

/-- MARK_EVENT_PULSE_END (R324). -/
def execMarkEventPulseEnd (pin : Fin 8) (s : State) : Host.Outcome State Fault Refusal := onChip (markEventEnd pin.val) s

end Sys2Proof.Machine
end

