-- ==== Sys2Proof/Machine/Dma.lean ====
section
/-!
DEFINITION. The DMA engine (R347–R361), the stream writer (R297, R299, R313, R343) and the bulk-port arbiter (R362–R365).
-/

namespace Sys2Proof.Machine

/-! ### Descriptors (R347, R348) -/

def descSrc (d : Desc) : Nat := d.w0.toNat
def descDst (d : Desc) : Nat := d.w1.toNat
def descLen (d : Desc) : Nat := bits d.w2.toNat 0 32
/-- SRC_SP and DST_SP: 0 HOST, 1 SRAM, 2 LINK. -/
def descSrcSp (d : Desc) : Nat := bits d.w2.toNat 32 2
def descDstSp (d : Desc) : Nat := bits d.w2.toNat 34 2
def descPrio (d : Desc) : Nat := bits d.w2.toNat 36 2
def descAtomic (d : Desc) : Bool := bitAt d.w2.toNat 38
def descBarrier (d : Desc) : Bool := bitAt d.w2.toNat 39
def descIrq (d : Desc) : Bool := bitAt d.w2.toNat 40
def descWaitEv (d : Desc) : Bool := bitAt d.w2.toNat 41
def descShelfEn (d : Desc) : Bool := bitAt d.w2.toNat 42
def descTag (d : Desc) : Nat := d.w3.toNat
def descShelf (d : Desc) : Nat := bits d.w4.toNat 0 13

/-- The SRAM regions of R15, as first and last address. -/
def regionRange : Region → Nat × Nat
  | .shelves => (0x00000000, 0x017FFFFF)
  | .acq => (0x01800000, 0x01DFFFFF)
  | .dxe => (0x01E00000, 0x021FFFFF)
  | .seqProg => (0x02200000, 0x025FFFFF)
  | .slots => (0x02600000, 0x029FFFFF)
  | .decision => (0x02A00000, 0x02A3FFFF)
  | .rings => (0x02A40000, 0x02B3FFFF)
  | .store => (0x02B40000, 0x02BBFFFF)
  | .mgmt => (0x02BC0000, 0x02DBFFFF)
  | .audit => (0x02DC0000, 0x02EBFFFF)
  | .link => (0x02EC0000, 0x02FFFFFF)

/-- Every region. -/
def regions : List Region :=
  [.shelves, .acq, .dxe, .seqProg, .slots, .decision, .rings, .store, .mgmt, .audit, .link]

/-- The region an address lies in. -/
def regionOf (a : Nat) : Option Region := regions.find? (fun r => decide ((regionRange r).1 ≤ a ∧ a ≤ (regionRange r).2))

/-- An SRAM range lies within one region (R348). -/
def oneRegion (a n : Nat) : Bool :=
  match regionOf a with
  | some r => decide (a + n ≤ (regionRange r).2 + 1)
  | none => false

/-- The reserved bits of a descriptor (R347). -/
def descReserved (d : Desc) : Bool :=
  bits d.w2.toNat 43 21 != 0 || bits d.w4.toNat 13 3 != 0 || bits d.w4.toNat 18 6 != 0 || bits d.w4.toNat 30 34 != 0 ||
  d.w5.toNat != 0 || d.w6.toNat != 0 || d.w7.toNat != 0

/-- The cases of BAD_DESC (R348). -/
def badDesc (ch : Nat) (d : Desc) : Bool :=
  descReserved d || decide (2 ≤ descSrcSp d) || descDstSp d == 3 || descLen d == 0 ||
  (descSrcSp d == 0 && descDstSp d == 0) || (descDstSp d == 2 && descDst d != 0) ||
  (descSrcSp d == 1 && !oneRegion (descSrc d) (descLen d)) || (descDstSp d == 1 && !oneRegion (descDst d) (descLen d)) ||
  (descAtomic d && (decide (4096 < descLen d) || ((descSrcSp d == 1) == (descDstSp d == 1)))) ||
  (descWaitEv d && decide (16 ≤ ch)) || (descShelfEn d && descDstSp d != 1)

/-! ### Completion status codes (R358) -/

namespace Dm
def ok : Nat := 0
def badDesc : Nat := 1
def range : Nat := 2
def shelfActive : Nat := 3
def isProtected : Nat := 4
def engineRunning : Nat := 5
def seqRunning : Nat := 6
def hostErr : Nat := 7
def eccUe : Nat := 8
def linkDown : Nat := 9
def aborted : Nat := 10
end Dm

/-! ### Access to SRAM (R349, R15) -/

/-- A byte range touches a classifier table (R150). -/
def inClassifier (a n : Nat) : Bool :=
  (List.range 24).any (fun e => let b := 0x01EC0000 + 0x20000 * e + 4 * 0x7800; decide (a < b + 8192 ∧ b < a + n))

/-- What a bulk-port read is refused with, if it is. -/
def readRefused (a n : Nat) : Option Nat :=
  match regionOf a with
  | some .dxe => if inClassifier a n then some Dm.isProtected else none
  | some .store => some Dm.isProtected
  | some .rings | some .mgmt | some .link | none => some Dm.range
  | _ => none

/-- A descriptor's source is the control store region: its reads return zero, and it completes with PROTECTED (R241, R349). -/
def readsZero (d : Desc) : Bool := descSrcSp d == 1 && regionOf (descSrc d) == some .store

/-- A byte range touches the samples of an ACTIVE shelf (R75). -/
def inActiveShelf (a n : Nat) (c : Chip) : Bool :=
  let d := afterCommits c
  (List.range 8192).any (fun s => (rd (P.shelfState s) c == shelfActive || rd (P.shelfState s) d == shelfActive) &&
    decide (a < 4 * (rd (P.shelfStart s) c + rd (P.shelfLength s) c) ∧ 4 * rd (P.shelfStart s) c < a + n))

/-- A bulk-port write (R75, R151, R189, R224, R241, R349): its status, and the chip after it. -/
def bulkWrite (a : Nat) (bs : List Byte) (c : Chip) : Nat × Chip :=
  let put : Nat × Chip := (Dm.ok, { c with mem := memPut c.mem a bs })
  match regionOf a with
  | some .shelves => if inActiveShelf a bs.length c then (Dm.shelfActive, count P.wfWfWrRefused c) else put
  | some .dxe =>
    if a < 0x01EC0000 then
      let e := (a - 0x01E00000) / 0x8000
      if on (P.dxeDxeRun e) c then (Dm.engineRunning, count (P.dxeProgWrRefused e) c) else put
    else if inClassifier a bs.length then (Dm.isProtected, c) else put
  | some .seqProg =>
    let s := (a - 0x02200000) / 0x10000
    if (sqOf s c).issuing then (Dm.seqRunning, count (P.sqProgWrRefused s) c) else put
  | some .decision =>
    if inModes [.standby, .configure] c then
      let first := (a - 0x02A00000) / 4
      let last := (a - 0x02A00000 + bs.length - 1) / 4
      (Dm.ok, (List.range (last + 1 - first)).foldl (fun c k => entryWritten (first + k) c) put.2)
    else (Dm.isProtected, c)
  | some .slots | some .store => (Dm.isProtected, c)
  | _ => (Dm.range, c)

/-! ### Channels -/

/-- Channel k. -/
def chanOf (k : Nat) (c : Chip) : Chan := Tab.get c.dma.chans k Chan.reset

/-- Put channel k. -/
def setChan (k : Nat) (x : Chan) (c : Chip) : Chip :=
  { c with dma := { c.dma with chans := Tab.put c.dma.chans k Chan.reset x } }

/-- Descriptors fetched and not yet completed (R350). -/
def inFlight (x : Chan) : Nat := x.fetched.length + (if x.work.isSome then 1 else 0)

/-- The modes in which the engine runs (R366). -/
def dmaModes (c : Chip) : Bool := !inModes [.reset, .boot, .shutdown] c

/-- The bytes of a completion record (R359). -/
def complRec (ch : Nat) (x : Ring) (h : Held) : List Byte :=
  let phase := 1 - x.pidx / 2 ^ x.log2 % 2
  leBytes 2 (x.seq % 2 ^ 16) ++ leBytes 1 (phase + 2 * b2n h.atomic + 4 * b2n h.barrier) ++ leBytes 1 ch ++
    leBytes 4 h.status ++ leBytes 8 h.doneGt ++ leBytes 8 h.tag ++ leBytes 4 h.bytes ++ leBytes 4 0

/-- A channel's completion ring has room for a record (R360). -/
def complRoom (ch : Nat) (c : Chip) : Bool :=
  let x := ringOf (rd (P.dchComplRing ch) c) c
  x.run && decide (1 ≤ ringRoom x)

/-- Write a completion record (R359, R345). -/
def writeRec (ch : Nat) (h : Held) (c : Chip) : Chip :=
  let r := rd (P.dchComplRing ch) c
  let x := ringOf r c
  ringProduce r 1 h.irq (setRing r { x with seq := (x.seq + 1) % 2 ^ 16 }
    (emit (.hostWrite x.fn (ringAddr x 32 x.pidx) (complRec ch x h)) c))

/-- The record of a completion: written, or held for want of room (R359, R360). -/
def putRec (ch : Nat) (h : Held) (c : Chip) : Chip :=
  if complRoom ch c then writeRec ch h c else setChan ch { chanOf ch c with held := some h } c

/-- A shelf named by a descriptor that ends OK becomes VALID (R358, R74). -/
def shelfDone (ch s : Nat) (c : Chip) : Chip :=
  if rd (P.shelfState s) c == shelfActive || rd (P.shelfLength s) c == 0 then count (P.dchShelfMarkMissed ch) c
  else wr (P.shelfState s) shelfValid (keepShelf s c)

/-- A descriptor completes (R358–R361). An aborted one does not halt the channel again. -/
def complete (ch status moved : Nat) (d : Desc) (c : Chip) : Chip :=
  let c0 := setChan ch { chanOf ch c with work := none }
    { c with dma := { c.dma with atomic := if c.dma.atomic == some ch then none else c.dma.atomic } }
  let c1 := if descShelfEn d && status == Dm.ok then shelfDone ch (descShelf d) c0 else c0
  let c2 := countT (P.dchDescDone ch) 251 c1
  let c3 := if status == Dm.ok then c2 else
    let e := setFlag W.dmaErr (setFlag (P.dchChErr ch) (wr (P.dchLastErrTag ch) (descTag d) (wr (P.dchLastStatus ch) status
      (count (P.dchDescErr ch) c2))))
    let b := if status == Dm.badDesc then count P.dmaBadDescCount e else e
    if on (P.dchStopOnErr ch) b && status != Dm.aborted then wr (P.dchChHalted ch) 1 b else b
  putRec ch { status := status, doneGt := c.tl.gt, tag := descTag d, bytes := moved, atomic := descAtomic d,
              barrier := descBarrier d, irq := descIrq d } c3

/-- DESCRIPTOR_FETCH (R350). -/
def descFetch (ch : Nat) (d : Desc) (c : Chip) : Chip :=
  let r := rd (P.dchSubRing ch) c
  let x := ringOf r c
  let k := chanOf ch c
  if dmaModes c && on (P.dchChAssigned ch) c && !on (P.dchChHalted ch) c && x.ty == 3 && x.run && decide (1 ≤ ringUsed x) &&
      decide (inFlight k < 64) then
    ringConsume r 1 (setChan ch { k with fetched := k.fetched ++ [d] } c)
  else c

/-- The next host read of a descriptor: at most 4,096 bytes, within a 4,096-byte boundary (R351). -/
def askHost (ch : Nat) (w : Work) (c : Chip) : Chip :=
  let a := descSrc w.desc + w.asked
  let n := min (descLen w.desc - w.asked) (4096 - a % 4096)
  if n == 0 then setChan ch { chanOf ch c with work := some w } c
  else emit (.hostRead (ringOf (rd (P.dchSubRing ch) c) c).fn a n)
    (setChan ch { chanOf ch c with work := some { w with asked := w.asked + n } } c)

/-- A descriptor that has just started (R351–R353). -/
def Work.start (d : Desc) : Work :=
  { desc := d, moved := 0, asked := 0, arrived := [], gathered := false, status := none, barrierAsked := false,
    barrierDone := false, lastSeq := none }

/-- The descriptor at the head may start: none under way, no record held, and its event has come (R350, R352, R357, R360, R433). -/
def mayStart (ch : Nat) (d : Desc) (c : Chip) : Bool :=
  let k := chanOf ch c
  dmaModes c && k.work.isNone && k.held.isNone && !on (P.dchChHalted ch) c &&
  (badDesc ch d || k.aborting ||
    ((!descWaitEv d || on (P.dchEvPending ch) c) && (!descAtomic d || (c.dma.atomic.isNone && !paused c))))

/-- DESCRIPTOR_START (R348, R352, R355, R357): the head starts, or completes at once with BAD_DESC. -/
def descStart (ch : Nat) (c : Chip) : Chip :=
  let k := chanOf ch c
  match k.fetched with
  | [] => c
  | d :: rest =>
    if mayStart ch d c then
      let c1 := setChan ch { k with fetched := rest, aborting := k.aborting && !rest.isEmpty } c
      if k.aborting then complete ch Dm.aborted 0 d c1
      else if badDesc ch d then complete ch Dm.badDesc 0 d c1
      else
        let c2 := if descWaitEv d then wr (P.dchEvPending ch) 0 c1 else c1
        let c3 := if descAtomic d then { c2 with dma := { c2.dma with atomic := some ch } } else c2
        let w := Work.start d
        if descDstSp d == 2 && lgState (descGrp d) c3 != lgActive then
          setChan ch { chanOf ch c3 with work := some { w with status := some Dm.linkDown } } c3
        else if descSrcSp d == 0 then askHost ch w c3
        else if descAtomic d then
          if readsZero d then
            setChan ch { chanOf ch c3 with work := some { w with arrived := List.replicate (descLen d) 0, gathered := true } } c3
          else match readRefused (descSrc d) (descLen d) with
          | some e => setChan ch { chanOf ch c3 with work := some { w with status := some e } }
              (if e == Dm.range then count P.dmaRangeCount c3 else c3)
          | none => setChan ch { chanOf ch c3 with
              work := some { w with arrived := memGet c3.mem (descSrc d) (descLen d), gathered := true } } c3
        else setChan ch { chanOf ch c3 with work := some w } c3
    else c

/-! ### Bursts (R351–R355) -/

/-- The copy runs downward: SRAM to SRAM, the ranges overlap, and DST is above SRC (R354). -/
def copyDown (d : Desc) : Bool :=
  descSrcSp d == 1 && descDstSp d == 1 && decide (descSrc d < descDst d ∧ descDst d < descSrc d + descLen d)

/-- Bytes to the next multiple of a boundary. -/
def toEdge (a b : Nat) : Nat := b - a % b

/-- The size of the next burst of a descriptor (R351). -/
def burstSize (w : Work) : Nat :=
  let d := w.desc
  let left := descLen d - w.moved - (if descDstSp d == 2 && descSrcSp d == 1 then w.arrived.length else 0)
  if copyDown d then
    let e := descLen d - w.moved
    min (min 512 e) (min ((descSrc d + e - 1) % 512 + 1) ((descDst d + e - 1) % 512 + 1))
  else
    let at_ := descLen d - left
    let s := if descSrcSp d == 1 then toEdge (descSrc d + at_) 512 else toEdge (descSrc d + at_) 4096
    let t := if descDstSp d == 1 then toEdge (descDst d + at_) 512 else if descDstSp d == 0 then toEdge (descDst d + at_) 4096 else 512
    min (min 512 left) (min s t)

/-- The bytes a descriptor's burst moves are at hand (R351, R352). -/
def burstReady (w : Work) : Bool :=
  w.status.isNone && decide (w.moved < descLen w.desc) &&
  (if descAtomic w.desc then w.gathered
   else descSrcSp w.desc == 1 || decide (burstSize w ≤ w.arrived.length ∧ w.arrived ≠ []))

/-- A channel may issue a burst (R351, R352, R360, R364, R433). -/
def mayBurst (ch : Nat) (c : Chip) : Bool :=
  let k := chanOf ch c
  match k.work with
  | none => false
  | some w => burstReady w && k.held.isNone && !c.pn.dbgHolds && (match c.dma.atomic with | some a => a == ch | none => !paused c)

/-- The channel of a class that goes next: the first ready one after the last served (R351). -/
def nextOf (class_ : Nat) (c : Chip) : Option Nat :=
  (chanOrder (c.dma.last.getD class_ 63)).find? (fun ch => mayBurst ch c &&
    (match (chanOf ch c).work with | some w => descPrio w.desc == class_ | none => false))

/-- The channel that issues the next burst, and the round's credits before it: a new round when no class with a ready channel
has any left (R351). -/
def nextBurst (c : Chip) : Option (Nat × Nat × List Nat) :=
  let ready := [3, 2, 1, 0].filter (fun k => (nextOf k c).isSome)
  let pick (cr : List Nat) : Option (Nat × Nat × List Nat) :=
    match ready.find? (fun k => 1 ≤ cr.getD k 0) with
    | some k => (nextOf k c).map (fun ch => (k, ch, cr))
    | none => none
  match pick c.dma.credit with
  | some x => some x
  | none => pick [1, 2, 4, 8]

/-- Cut bytes into BULK frames on the descriptor's channel: whole ones of 56 bytes, and a last shorter one (R355). -/
def cutFrames (fuel : Nat) (seq : Nat) (done : Bool) (bs : List Byte) : List BulkFrame × List Byte :=
  match fuel with
  | 0 => ([], bs)
  | n + 1 =>
    if bs.isEmpty then ([], bs)
    else if decide (56 < bs.length) || (bs.length == 56 && !done) then
      let r := cutFrames n ((seq + 1) % 2 ^ 16) done (bs.drop 56)
      ({ bseq := seq, last := false, data := bs.take 56 } :: r.1, r.2)
    else if done then ([{ bseq := seq, last := true, data := bs }], [])
    else ([], bs)

/-- Bytes for a link go out as frames that wait at their channel (R355). -/
def toLink (ch : Nat) (w : Work) (bs : List Byte) (c : Chip) : Chip :=
  let d := w.desc
  let g := descGrp d
  let x := txOf g (descChan d) c
  let done := w.moved + bs.length == descLen d
  let r := cutFrames 80 x.next done bs
  let moved := w.moved + (bs.length - r.2.length)
  let next := (x.next + r.1.length) % 2 ^ 16
  setChan ch { chanOf ch c with work := some { w with moved := moved, arrived := r.2, lastSeq := if done then some next else none } }
    (setTx g (descChan d) { x with next := next, waiting := x.waiting ++ r.1 } c)

/-- One burst of a descriptor: it moves its bytes, or it fails and the descriptor ends there (R351, R358). -/
def burstOn (ch : Nat) (w : Work) (c : Chip) : Chip :=
  let d := w.desc
  let n := burstSize w
  let at_ := if copyDown d then descLen d - w.moved - n else w.moved
  let fail (e : Nat) (c : Chip) : Chip :=
    setChan ch { chanOf ch c with work := some { w with status := some e } } (if e == Dm.range then count P.dmaRangeCount c else c)
  if descDstSp d == 2 then
    if readsZero d then fail Dm.isProtected (toLink ch w (List.replicate n 0) c)
    else if descSrcSp d == 1 && !w.gathered then
      let a := descSrc d + w.moved + w.arrived.length
      match readRefused a n with
      | some e => fail e c
      | none => toLink ch w (w.arrived ++ memGet c.mem a n) c
    else toLink ch { w with arrived := [] } w.arrived c
  else
    let src : Nat × List Byte :=
      if readsZero d then (Dm.ok, List.replicate n 0)
      else if w.gathered || descSrcSp d == 0 then (Dm.ok, w.arrived.take n)
      else match readRefused (descSrc d + at_) n with
        | some e => (e, [])
        | none => (Dm.ok, memGet c.mem (descSrc d + at_) n)
    if src.1 != Dm.ok then fail src.1 c
    else
      let r : Nat × Chip :=
        if descDstSp d == 1 then bulkWrite (descDst d + at_) src.2 c
        else (Dm.ok, emit (.hostWrite (ringOf (rd (P.dchSubRing ch) c) c).fn (descDst d + at_) src.2) c)
      if r.1 != Dm.ok then fail r.1 r.2
      else if readsZero d then fail Dm.isProtected r.2
      else setChan ch { chanOf ch r.2 with work := some { w with moved := w.moved + n, arrived := w.arrived.drop n } } r.2

/-! ### The stream writer beside the engine (R313, R343, R362) -/

/-- An ATOMIC descriptor keeps the port through its beats (R352, R364). -/
def atomicHolds (c : Chip) : Bool :=
  match c.dma.atomic with
  | some ch => match (chanOf ch c).work with
    | some w => w.gathered
    | none => false
  | none => false

/-- Stream k's oldest record may go to its ring: it was offered in an earlier tick, and the ring has room for all of it (R299, R343). -/
def streamReady (k : Nat) (c : Chip) : Bool :=
  let x := ringOf (rd (P.stRing k) c) c
  match (streamOf k c).staged with
  | [] => false
  | q :: _ => on (P.stStreamEn k) c && decide (q.offered < c.clk) && x.ty == 5 && x.run && decide (1 + q.words.length ≤ ringRoom x)

/-- The stream whose burst is next: the streams go in turn after the last one served, and none in a pause (R313, R433). -/
def streamTurn (c : Chip) : Option Nat :=
  if streamModes c && !paused c && !c.pn.dbgHolds && !atomicHolds c then
    ((List.range 16).map (fun j => (c.dma.lastStream + 1 + j) % 16)).find? (fun k => streamReady k c)
  else none

/-- The port is free for a new transfer: one at a time (R351, R363). -/
def portFree (c : Chip) : Bool := match c.dma.burstAt with | some t => decide (t ≤ c.clk) | none => true

/-- The engine's next burst, as the requester it goes through: 0 reads SRAM, 1 writes it (R362). -/
def burstReq (c : Chip) : Option Nat :=
  if !dmaModes c then none
  else match nextBurst c with
    | none => none
    | some (_, ch, _) => (chanOf ch c).work.map (fun w => if descDstSp w.desc == 1 then 1 else 0)

/-- The stream writer's request wins against the engine's, where both are raised (R362). -/
def streamWins (c : Chip) : Bool :=
  match streamTurn c, burstReq c with
  | none, _ => false
  | some _, none => true
  | some _, some q =>
    decide (c.clk - c.dma.ask.getD c.clk + rd (P.arbArbBias q) c < c.clk - c.dma.askStream.getD c.clk + rd (P.arbArbBias 2) c)

/-- The requests as a tick begins: one that is raised keeps its stamp (R362). -/
def portAsks (c : Chip) : Chip :=
  { c with dma := { c.dma with ask := (burstReq c).map (fun _ => c.dma.ask.getD c.clk),
                               askStream := (streamTurn c).map (fun _ => c.dma.askStream.getD c.clk) } }

/-- STREAM_RECORD_WRITE: a burst of the oldest staged record of the stream whose turn it is goes to the ring; with the record's last
word PIDX moves on (R313, R343). -/
def streamWrite (k : Nat) (c : Chip) : Chip :=
  let s := streamOf k c
  let r := rd (P.stRing k) c
  let x := ringOf r c
  match s.staged with
  | [] => c
  | q :: rest =>
    if portFree c && streamTurn c == some k && streamWins c then
      let all := recHeader q s.seq :: q.words
      let ws := (all.drop s.sent).take 64
      let t := c.clk + (8 * ws.length + 63) / 64
      let c1 := ringWords x (x.pidx + s.sent) ws
        { c with dma := { c.dma with burstAt := some t, lastStream := k, askStream := some t } }
      if s.sent + ws.length < all.length then setStream k { s with sent := s.sent + ws.length } c1
      else
        ringProduce r all.length false (countT (P.stRecords k) (206 + k)
          (setStream k { s with staged := rest, sent := 0, seq := (s.seq + 1) % 2 ^ 32 } c1))
    else c

/-- DMA_BURST: the channel whose turn it is issues one burst, while no transfer is under way and the stream writer's request does not
win (R351, R362). -/
def dmaBurst (ch : Nat) (c : Chip) : Chip :=
  if dmaModes c && portFree c && !streamWins c then
    match nextBurst c with
    | none => c
    | some (k, next, cr) =>
      if next == ch then
        match (chanOf ch c).work with
        | none => c
        | some w =>
          let c1 := { c with dma := { c.dma with credit := cr.set k (cr.getD k 0 - 1), last := c.dma.last.set k ch,
                                                 burstAt := some (c.clk + (burstSize w + 63) / 64),
                                                 ask := some (c.clk + (burstSize w + 63) / 64) } }
          burstOn ch w c1
      else c
  else c

/-- HOST_READ_COMPLETION (R332, R351–R353): the data of the read asked for arrives, the next is asked for; or the read fails. -/
def hostReadDone (ch : Nat) (r : HostRead) (c : Chip) : Chip :=
  let k := chanOf ch c
  match k.work with
  | none => c
  | some w =>
    if !dmaModes c || w.status.isSome then c
    else match r with
    | .error =>
      if w.barrierAsked || descSrcSp w.desc == 0 then
        setFlag W.pcieAer (setChan ch { k with work := some { w with status := some Dm.hostErr } } c)
      else c
    | .data bs =>
      if w.barrierAsked then setChan ch { k with work := some { w with barrierDone := true } } c
      else if descSrcSp w.desc == 0 then
        let due := w.asked - w.moved - w.arrived.length
        let w1 := { w with arrived := w.arrived ++ bs.take due }
        let w2 := { w1 with gathered := descAtomic w1.desc && w1.moved + w1.arrived.length == descLen w1.desc }
        if due ≤ bs.length && decide (w.asked < descLen w.desc) then askHost ch w2 c
        else setChan ch { k with work := some w2 } c
      else c

/-- A frame before the descriptor's last sequence number has not been sent, or not been acknowledged (R353). -/
def framesLeft (w : Work) (acked : Bool) (c : Chip) : Bool :=
  let x := txOf (descGrp w.desc) (descChan w.desc) c
  let mine (f : BulkFrame) : Bool := match w.lastSeq with
    | some s => let dd := (s + 2 ^ 16 - f.bseq) % 2 ^ 16; decide (1 ≤ dd ∧ dd ≤ 2 ^ 15)
    | none => true
  x.waiting.any mine || (acked && x.unacked.any mine)

/-- The status a descriptor completes with in this tick, if it does (R353, R355, R358). -/
def completesWith (w : Work) (c : Chip) : Option Nat :=
  match w.status with
  | some e => some e
  | none =>
    if w.moved < descLen w.desc then none
    else if descDstSp w.desc == 2 then if framesLeft w (descBarrier w.desc) c then none else some Dm.ok
    else if descDstSp w.desc == 0 && descBarrier w.desc && !w.barrierDone then none
    else some Dm.ok

/-- DESCRIPTOR_COMPLETE (R353, R358). A barrier to the host first asks for its zero-length read. -/
def descComplete (ch : Nat) (c : Chip) : Chip :=
  let k := chanOf ch c
  match k.work with
  | none => c
  | some w =>
    if !dmaModes c then c
    else match completesWith w c with
    | some e => complete ch e w.moved w.desc c
    | none =>
      if w.moved == descLen w.desc && descDstSp w.desc == 0 && !w.barrierAsked then
        emit (.hostRead (ringOf (rd (P.dchSubRing ch) c) c).fn (descDst w.desc + descLen w.desc - 1) 0)
          (setChan ch { k with work := some { w with barrierAsked := true } } c)
      else c

/-- COMPLETION_RECORD_WRITE (R360). -/
def heldWrite (ch : Nat) (c : Chip) : Chip :=
  match (chanOf ch c).held with
  | none => c
  | some h => if dmaModes c && complRoom ch c then writeRec ch h (setChan ch { chanOf ch c with held := none } c) else c

/-- A channel completes every descriptor it holds with ABORTED, as far as its completion ring takes the records; the others
follow (R361, R366). -/
def abortAll (ch : Nat) (c : Chip) : Chip :=
  let k := chanOf ch c
  let ds := (match k.work with | some w => [(w.desc, w.moved)] | none => []) ++ k.fetched.map (fun d => (d, 0))
  let c1 := setChan ch { k with work := none, fetched := [], aborting := false } c
  ds.foldl (fun c p =>
    let k := chanOf ch c
    if k.held.isSome then setChan ch { k with fetched := k.fetched ++ [p.1], aborting := true } c
    else complete ch Dm.aborted p.2 p.1 c) c1

/-- CH_RESUME (R361). -/
def chanResume (ch : Nat) (c : Chip) : Chip := wr (P.dchChHalted ch) 0 c

/-- CH_ABORT (R361). -/
def chanAbort (ch : Nat) (c : Chip) : Chip := abortAll ch (wr (P.dchChHalted ch) 0 c)

/-- A channel abandons its descriptors without records and belongs to no session (R334, R371). -/
def chanAbandon (ch : Nat) (c : Chip) : Chip :=
  let c1 := { c with dma := { c.dma with chans := Tab.del c.dma.chans ch,
                                         atomic := if c.dma.atomic == some ch then none else c.dma.atomic } }
  wr (P.dchChAssigned ch) 0 (wr (P.dchChHalted ch) 0 (wr (P.dchEvPending ch) 0 (wr (P.dchSubRing ch) 0 (wr (P.dchComplRing ch) 0 c1))))

/-! ### The bulk-port arbiter (R362–R365) -/

/-- A requester's number (R362). -/
def reqNo : Requester → Nat
  | .dmaRead => 0 | .dmaWrite => 1 | .streamWriter => 2 | .mgmt => 3 | .scrubber => 4 | .calEngine => 5 | .linkMirror => 6 | .debug => 7

/-- The highest score wins, equal scores go to the lower number (R362). -/
def bestReq : List (Nat × Nat) → Option (Nat × Nat)
  | [] => none
  | x :: xs => match bestReq xs with
    | none => some x
    | some y => if x.2 < y.2 || (x.2 == y.2 && decide (y.1 < x.1)) then some y else some x

/-- BULK_PORT_DECISION (R362–R364): the requests present at the start of the tick, with their stamps, and the requesters masked.
An owner whose request has stayed raised keeps the grant. -/
def portDecision (raised : List (Requester × Nat)) (masked : List Requester) (c : Chip) : Chip :=
  let live := (raised.filter (fun p => !masked.contains p.1 && decide (p.2 ≤ c.clk))).map (fun p => (reqNo p.1, p.2))
  let keeps := match c.dma.owner with
    | some o => live.any (fun p => p.1 == o && Tab.find c.dma.stamps o == some p.2)
    | none => false
  let c1 := { c with dma := { c.dma with stamps := live.foldl (fun t p => Tab.ins t p.1 p.2) [] } }
  if keeps then c1
  else match bestReq (live.map (fun p => (p.1, c.clk - p.2 + rd (P.arbArbBias p.1) c))) with
    | none => { c1 with dma := { c1.dma with owner := none } }
    | some w => maxRc (P.arbArbWaitMax w.1) (c.clk - Tab.get c1.dma.stamps w.1 c.clk)
        (count (P.arbArbGrants w.1) { c1 with dma := { c1.dma with owner := some w.1 } })

/-! ### Commands -/

/-- DESCRIPTOR_FETCH (R350). -/
def execDescriptorFetch (ch : Fin 64) (d : Desc) (s : State) : Host.Outcome State Fault Refusal := onChip (descFetch ch.val d) s

/-- DESCRIPTOR_START (R348). -/
def execDescriptorStart (ch : Fin 64) (s : State) : Host.Outcome State Fault Refusal := onChip (descStart ch.val) s

/-- DMA_BURST (R351). -/
def execDmaBurst (ch : Fin 64) (s : State) : Host.Outcome State Fault Refusal := onChip (dmaBurst ch.val) s

/-- HOST_READ_COMPLETION (R332). -/
def execHostReadCompletion (ch : Fin 64) (r : HostRead) (s : State) : Host.Outcome State Fault Refusal :=
  onChip (hostReadDone ch.val r) s

/-- DESCRIPTOR_COMPLETE (R353, R358). -/
def execDescriptorComplete (ch : Fin 64) (s : State) : Host.Outcome State Fault Refusal := onChip (descComplete ch.val) s

/-- COMPLETION_RECORD_WRITE (R360). -/
def execCompletionRecordWrite (ch : Fin 64) (s : State) : Host.Outcome State Fault Refusal := onChip (heldWrite ch.val) s

/-- STREAM_RECORD_WRITE (R343). -/
def execStreamRecordWrite (k : Fin 16) (s : State) : Host.Outcome State Fault Refusal := onChip (streamWrite k.val) s

/-- BULK_PORT_DECISION (R362–R365). -/
def execBulkPortDecision (raised : List (Requester × BitVec 64)) (masked : List Requester) (s : State) :
    Host.Outcome State Fault Refusal :=
  onChip (portDecision (raised.map (fun p => (p.1, p.2.toNat))) masked) s

end Sys2Proof.Machine
end

