-- ==== Sys2Proof/Machine/HostBar.lean ====
section
/-!
DEFINITION. BAR0 (R17, R333, R337), BAR2 (R335, R345), doorbells and the ring table (R340–R345), Function Level Reset (R334), the PCI Express link
(R331, R338), and the close of a session (R371).
-/

namespace Sys2Proof.Machine

/-! ### Rings (R342, R344) -/

/-- The host produces a ring's entries (R341). -/
def hostProduces (x : Ring) : Bool := x.ty == 1 || x.ty == 3

/-- A function reaches a ring's doorbell and entry: the PF all, a VF its own (R337). -/
def reaches (fn r : Nat) (c : Chip) : Bool := fn == 0 || (ringOf r c).fn == fn

/-- The name under which the tick's record holds a W1C flag of a ring: bit 1 DB_BAD, 2 CFG_IGNORED, 3 WB_ERR (R10, R340). -/
def ringFlagKey (r b : Nat) : Nat := 2 ^ 45 + 4 * r + b

/-- Hardware sets a flag of a ring, and RING_ERR with it (R338, R340): a clear in this tick leaves the bit set (R10). -/
def ringFlag (r b : Nat) (c : Chip) : Chip :=
  let x := ringOf r c
  setFlag W.ringErr (setRing r { x with dbBad := x.dbBad || b == 1, cfgIgnored := x.cfgIgnored || b == 2, wbErr := x.wbErr || b == 3 }
    { c with now := { c.now with set := ringFlagKey r b :: c.now.set } })

/-- A doorbell that a function may ring (R344, R366). -/
def doorbell (r v : Nat) (c : Chip) : Chip :=
  let x := ringOf r c
  if inModes [.boot, .shutdown] c || x.ty == 0 || !x.run then count P.hstDbIgnored c
  else
    let i := v % 2 ^ 17
    let m := 2 ^ (x.log2 + 1)
    let ok := decide (i < m) &&
      (if hostProduces x then decide ((i + m - x.pidx) % m ≤ 2 ^ x.log2 - ringUsed x) else decide ((i + m - x.cidx) % m ≤ ringUsed x))
    let c1 := if ok then setRing r (if hostProduces x then { x with pidx := i } else { x with cidx := i }) c
      else ringFlag r 1 c
    if bitAt v 31 && !x.armed then setRing r { ringOf r c1 with armed := true, since := 0, firstAt := none } c1 else c1

/-- DOORBELL by a function (R337, R344). -/
def doorbellFrom (fn r v : Nat) (c : Chip) : Chip :=
  if c.md.mode == .reset then c
  else if reaches fn r c then doorbell r v c
  else count P.hstBarIgnored c

/-- A configuration write to a ring is ignored (R342). -/
def cfgIgnored (r : Nat) (c : Chip) : Chip := ringFlag r 2 c

/-- A write of RING_RUN (R342): 1 starts the ring with its indexes at 0, unless its settings forbid it. -/
def ringRunSet (r : Nat) (run : Bool) (c : Chip) : Chip :=
  let x := ringOf r c
  if !run then setRing r { x with run := false } c
  else if x.base % 64 != 0 || decide (x.log2 < 6 ∨ 16 < x.log2) || decide (tableSize x.fn ≤ x.vector) then cfgIgnored r c
  else setRing r { x with run := true, pidx := 0, cidx := 0, seq := 0, since := 0, firstAt := none } c

/-- A write of a setting that only a stopped ring takes; on a running one it is ignored and noted, whatever its value (R10, R342). -/
def ringSet (r : Nat) (f : Ring → Ring) (c : Chip) : Chip :=
  let x := ringOf r c
  if x.run then cfgIgnored r c else setRing r (f x) c

/-- A 32-bit write into a ring's entry (R340). -/
def ringEntryWrite (r o v : Nat) (c : Chip) : Chip :=
  let x := ringOf r c
  match o with
  | 0x00 => ringSet r (fun x => { x with base := setBits x.base 0 32 v }) c
  | 0x04 => ringSet r (fun x => { x with base := setBits x.base 32 32 v }) c
  | 0x08 => ringSet r (fun x => { x with wb := setBits x.wb 0 32 v }) c
  | 0x0C => ringSet r (fun x => { x with wb := setBits x.wb 32 32 v }) c
  | 0x10 =>
    let c1 := ringSet r (fun x => { x with log2 := bits v 0 5 }) c
    ringRunSet r (bitAt v 7) (setRing r { ringOf r c1 with vector := bits v 16 11 } c1)
  | 0x20 => setRing r { x with coalCnt := bits v 0 16, coalTime := bits v 16 16 } c
  | 0x24 =>
    let gone (b : Nat) : Bool := bitAt v b && !c.now.set.contains (ringFlagKey r b)
    setRing r { x with dbBad := x.dbBad && !gone 1, cfgIgnored := x.cfgIgnored && !gone 2, wbErr := x.wbErr && !gone 3 } c
  | _ => c

/-! ### BAR0 (R17, R18, R328, R333, R337, R338) -/

/-- A W1C write of one flag: hardware setting it in this tick outlives it (R10). -/
def clearFlag (f : Field) (c : Chip) : Chip := if c.now.set.contains f.key then c else wr f 0 c

/-- A write of 1 to FAULT_HOLD: in HOLD, the outputs that drive their fault value return to the value in force (R110). -/
def clearFaultHold (c : Chip) : Chip :=
  let c1 := clearFlag W.faultHold c
  if c.md.mode == .hold && !on W.faultHold c1 then biasRelease c1 else c1

/-- The W1C flags of an event flags word, by bit. -/
def flagsAt (off : Nat) : List (Nat × Field) :=
  if off == 0x10004 then (List.range 9).map (fun k => (k, ⟨bar 0x10004, k, 1, 0⟩))
  else if off == 0x1000C then (List.range 4).map (fun k => (k, ⟨bar 0x1000C, k, 1, 0⟩))
  else if 0x10100 ≤ off && off ≤ 0x1010C then (List.range 32).map (fun k => (k, P.ecEvSeen ((off - 0x10100) * 8 + k)))
  else []

/-- A write puts a 1 into a bit that a word's layout marks as reserved (R11, R18, R60, R338). -/
def barReserved (off v : Nat) : Bool :=
  match off with
  | 0x10000 | 0x10004 => decide (2 ^ 9 ≤ v)
  | 0x10008 => decide (2 ^ 7 ≤ v)
  | 0x1000C => decide (2 ^ 4 ≤ v)
  | 0x11008 | 0x11808 => decide (2 ^ 20 ≤ v)
  | _ => false

/-- A 1 written to a reserved bit of a window is counted (R11). -/
def countBarReserved (off v : Nat) (c : Chip) : Chip := if barReserved off v then count P.sysRsvdWriteCount c else c

/-- One naturally aligned 32-bit write at a BAR0 offset. -/
def barWord (fn off v : Nat) (c : Chip) : Chip :=
  if off < 0x10000 then doorbellFrom fn (off / 4) v c
  else if off < 0x11000 then
    if fn == 0 then (flagsAt off).foldl (fun c p =>
      if bitAt v p.1 then (if p.2 == W.faultHold then clearFaultHold c else clearFlag p.2 c) else c) (countBarReserved off v c)
    else if (flagsAt off).isEmpty then c
    else count P.hstBarIgnored c
  else if 0x100000 ≤ off then
    let r := (off - 0x100000) / 64
    if inModes [.boot, .shutdown] c then c
    else if reaches fn r c then ringEntryWrite r (off % 64) v c
    else count P.hstBarIgnored c
  else if fn == 0 then countBarReserved off v c
  else c

/-! ### What BAR0 reads (R17, R18, R60, R333, R337–R340) -/

/-- The first word of the event flags window: MODE, PREV_MODE and IN_TRANSITION (R18). -/
def modeWord (c : Chip) : Nat :=
  modeCode c.md.mode + 16 * modeCode c.md.prev + 256 * b2n c.md.trans.isSome

/-- A list of one-bit fields as one word, field k at bit k. -/
def flagWord (l : List Field) (c : Chip) : Nat := (l.zipIdx.map (fun p => 2 ^ p.2 * rd p.1 c)).sum

/-- A word of the event flags window as the PF reads it (R18, R328, R338). -/
def eventWord (off : Nat) (c : Chip) : Nat :=
  match off with
  | 0x10000 => modeWord c
  | 0x10008 => rd W.linkSpeed c + 16 * rd W.linkWidth c
  | 0x10010 => flagWord ((List.range 32).map (fun k => P.dchChHalted k)) c
  | 0x10014 => flagWord ((List.range 32).map (fun k => P.dchChHalted (32 + k))) c
  | _ => ((flagsAt off).map (fun p => 2 ^ p.1 * rd p.2 c)).sum

/-- A word of a snapshot bank, by its offset in the bank (R60). -/
def bankWord (b o : Nat) (c : Chip) : Nat :=
  match o with
  | 0x000 => rd (W.snapGtLo b) c
  | 0x004 => rd (W.snapGtHi b) c
  | 0x008 => rd (W.snapId b) c + 2 ^ 16 * rd (W.snapValid b) c + 2 ^ 17 * rd (W.snapScope b) c + 2 ^ 18 * rd (W.snapUnaligned b) c +
      2 ^ 19 * rd (W.snapMissed b) c
  | 0x00C => rd (W.snapSeq b) c
  | _ => bits (rd (W.snapSlot b ((o - 0x10) / 8)) c) (o % 8 * 8) 32

/-- A word of the thermal status window (R339). -/
def thermalWord (o : Nat) (c : Chip) : Nat :=
  if o == 0 then rd W.tjMax c + 2 ^ 12 * rd W.thrLevel c + 2 ^ 16 * rd W.tjWarn c + 2 ^ 17 * rd W.shutdownLatched c +
    2 ^ 18 * rd W.nvWindow c + 2 ^ 19 * rd W.refcompOn c
  else if o == 4 then flagWord ((List.range 9).map W.sensorFailed) c
  else if o == 8 then rd W.sampleGt c
  else if decide (0x10 ≤ o ∧ o < 0x34) then rd (W.sensorT ((o - 0x10) / 4)) c
  else 0

/-- ESIZE of a ring type (R341). -/
def ringEsize (ty : Nat) : Nat := if ty == 5 then 0 else if ty == 4 then 1 else if ty == 0 then 0 else 2

/-- A word of a ring's entry (R340). -/
def ringWord (r o : Nat) (c : Chip) : Nat :=
  let x := ringOf r c
  match o with
  | 0x00 => bits x.base 0 32
  | 0x04 => bits x.base 32 32
  | 0x08 => bits x.wb 0 32
  | 0x0C => bits x.wb 32 32
  | 0x10 => x.log2 + 2 ^ 7 * b2n x.run + 2 ^ 16 * x.vector
  | 0x14 => x.ty + 2 ^ 4 * ringEsize x.ty + 2 ^ 8 * x.fn + 2 ^ 16 * x.ses
  | 0x18 => x.pidx
  | 0x1C => x.cidx
  | 0x20 => x.coalCnt + 2 ^ 16 * x.coalTime
  | 0x24 => b2n x.armed + 2 * b2n x.dbBad + 4 * b2n x.cfgIgnored + 8 * b2n x.wbErr
  | _ => 0

/-- What a naturally aligned 32-bit read at a BAR0 offset returns to a function (R17, R19, R337): 0 at a reserved or write-only
offset, in a window that the mode does not open, and where a virtual function sees nothing. -/
def barWordRead (fn off : Nat) (c : Chip) : Nat :=
  let shut := inModes [.boot, .shutdown] c
  if c.md.mode == .reset || off < 0x10000 then 0
  else if off < 0x11000 then (if fn == 0 || off == 0x10000 || off == 0x10004 then eventWord off c else 0)
  else if off < 0x12000 then (if shut then 0 else bankWord ((off - 0x11000) / 0x800) ((off - 0x11000) % 0x800) c)
  else if off < 0x13000 then thermalWord (off - 0x12000) c
  else if 0x100000 ≤ off then
    let r := (off - 0x100000) / 64
    if shut || !reaches fn r c then 0 else ringWord r (off % 64) c
  else 0

/-! ### BAR2: the MSI-X table and the pending bits (R335, R345) -/

/-- Where a function's pending bit array begins (R335). -/
def pbaAt (fn : Nat) : Nat := if fn == 0 then 0x8000 else 0x800

/-- The mask bit of an entry is written: a vector held pending is sent as its mask goes (R345). -/
def msixMask (fn vec : Nat) (m : Bool) (c : Chip) : Chip :=
  let c1 := setMsix fn vec { msixOf fn vec c with masked := m } c
  if !m && c.hostPba.contains (fn, vec) then sendVector fn vec { c1 with hostPba := c1.hostPba.erase (fn, vec) } else c1

/-- One naturally aligned 32-bit write at a BAR2 offset. An entry is 16 bytes: the address, whose low two bits are 0, the data, and
the mask bit. PRESUMED (log): the family's MSI-X layout. -/
def msixWord (fn off v : Nat) (c : Chip) : Chip :=
  let vec := off / 16
  let x := msixOf fn vec c
  if tableSize fn ≤ vec then c
  else match off % 16 with
    | 0 => setMsix fn vec { x with addr := setBits x.addr 0 32 (v - v % 4) } c
    | 4 => setMsix fn vec { x with addr := setBits x.addr 32 32 v } c
    | 8 => setMsix fn vec { x with data := v } c
    | _ => msixMask fn vec (bitAt v 0) c

/-- What a naturally aligned 32-bit read at a BAR2 offset returns. -/
def msixWordRead (fn off : Nat) (c : Chip) : Nat :=
  let x := msixOf fn (off / 16) c
  if off / 16 < tableSize fn then
    match off % 16 with
    | 0 => bits x.addr 0 32
    | 4 => bits x.addr 32 32
    | 8 => x.data
    | _ => b2n x.masked
  else if pbaAt fn ≤ off then
    (List.range 32).foldl (fun n j => n + 2 ^ j * b2n (c.hostPba.contains (fn, (off - pbaAt fn) * 8 + j))) 0
  else 0

/-- One naturally aligned 32-bit access to a BAR: what a read returns, and what a write does (R333, R335). In RESET no window is open,
and BAR2 answers in every mode (R19, R366). -/
def wordRead (fn : Nat) (b : BarNo) (off : Nat) (c : Chip) : Nat :=
  match b with
  | .bar0 => barWordRead fn off c
  | .bar2 => msixWordRead fn off c
def wordWrite (fn : Nat) (b : BarNo) (off v : Nat) (c : Chip) : Chip :=
  match b with
  | .bar0 => if c.md.mode == .reset then c else barWord fn off v c
  | .bar2 => msixWord fn off v c

/-- What a read of 4 or 8 bytes returns (R333). -/
def barValue (fn : Nat) (b : BarNo) (off size : Nat) (c : Chip) : Nat :=
  if size == 8 then wordRead fn b off c + 2 ^ 32 * wordRead fn b (off + 4) c else wordRead fn b off c

/-- An access the BARs carry out: 4 or 8 bytes, naturally aligned (R333). -/
def goodAccess (off size : Nat) : Bool := (size == 4 && off % 4 == 0) || (size == 8 && off % 8 == 0)

/-- An access that is not carried out is counted (R333). -/
def badAccess (c : Chip) : Chip := if c.md.mode == .reset then c else count P.hstBarBadAccess c

/-- REGISTER_WRITE: a write to a BAR (R17, R333, R335). -/
def registerWrite (fn : Nat) (b : BarNo) (off size v : Nat) (c : Chip) : Chip :=
  if !goodAccess off size then badAccess c
  else if size == 4 then wordWrite fn b off (v % 2 ^ 32) c
  else wordWrite fn b (off + 4) (v / 2 ^ 32) (wordWrite fn b off (v % 2 ^ 32) c)

/-- BAR_BAD_READ: a read of a BAR (R17, R333, R335). One of another size or alignment returns zeros and is counted; any other returns
what the windows hold. -/
def barRead (fn : Nat) (b : BarNo) (off size : Nat) (c : Chip) : Chip :=
  if goodAccess off size then emit (.barRead fn b off (barValue fn b off size c)) c
  else emit (.barRead fn b off 0) (badAccess c)

/-- COAL_TIME_EXPIRY (R345): COAL_TIME µs after the first entry since ARMED. -/
def coalExpiry (r : Nat) (c : Chip) : Chip :=
  let x := ringOf r c
  match x.firstAt with
  | none => c
  | some t =>
    if x.ty != 0 && !hostProduces x && x.run && x.armed && x.coalTime != 0 && decide (t + 1000 * x.coalTime ≤ c.clk) then ringFire r c
    else c

/-! ### Sessions that end (R334, R371) -/

/-- A ring becomes FREE. -/
def freeRing (r : Nat) (c : Chip) : Chip := { c with rings := Tab.del c.rings r }

/-- A stream whose ring goes is disabled (R334, R371). -/
def streamsOff (p : Nat → Bool) (c : Chip) : Chip :=
  (List.range 16).foldl (fun c k => if on (P.stStreamEn k) c && p k then wr (P.stStreamEn k) 0 c else c) c

/-- A drawer is deleted, and its pending commit with it; who asked for that commit receives `status`, if there is one (R371, R388). -/
def dropDrawer (d : Nat) (status : Option Nat) (c : Chip) : Chip :=
  let mine (e : Sched) : Bool := e.act == .drawer d
  let c1 := { c with mb := { c.mb with drawers := Tab.del c.mb.drawers d },
                     tl := { c.tl with sched := c.tl.sched.filter (fun e => !mine e) } }
  match status with
  | none => c1
  | some st => (c.tl.sched.filter mine).foldl (fun c e => finish e.issuer st [] c) c1

/-- An issuer of a session. -/
def issuerOf (n : Nat) (i : Option Issuer) : Bool :=
  match i with
  | some x => match x.mb with
    | .ses k => k.val == n
    | _ => false
  | none => false

/-- A session closes (R371): its rings, channels, streams and drawers go, and what it scheduled stays with no one to answer. -/
def closeSession (n : Nat) (c : Chip) : Chip :=
  let held (r : Nat) : Bool := let x := ringOf r c; decide (128 ≤ r) && x.ty != 0 && x.ses == n
  let c1 := streamsOff (fun k => held (rd (P.stRing k) c)) c
  let c2 := (List.range 64).foldl (fun c k => if on (P.dchChAssigned k) c && (chanOf k c).ses == n then chanAbandon k c else c) c1
  let c3 := { c2 with rings := c2.rings.filter (fun p => !held p.1) }
  let c4 := c3.mb.drawers.foldl (fun c p => if p.2.owner == n then dropDrawer p.1 none c else c) c3
  { c4 with mb := { c4.mb with sessions := Tab.del c4.mb.sessions n },
            tl := { c4.tl with sched := c4.tl.sched.map (fun e => if issuerOf n e.issuer then { e with issuer := none } else e),
                               snaps := c4.tl.snaps.map (fun s => { s with issuers := s.issuers.filter (fun i => !issuerOf n (some i)) }) },
            md := if issuerOf n c4.md.transIssuer then { c4.md with transIssuer := none } else c4.md,
            nv := { c4.nv with biasIssuers := c4.nv.biasIssuers.filter (fun i => !issuerOf n (some i)),
                               queue := c4.nv.queue.map (fun q => { q with issuers := q.issuers.filter (fun i => !issuerOf n (some i)) }) },
            mc := { c4.mc with micro := c4.mc.micro.map (fun m =>
              (m.1, { m.2 with peek := m.2.peek.filter (fun p => !issuerOf n (some p.1)) })) } }

/-- A Function Level Reset (R334): the PF's takes every function's sessions, rings, channels and streams. -/
def functionReset (fn : Nat) (c : Chip) : Chip :=
  let mine (f : Nat) : Bool := fn == 0 || f == fn
  let c1 := c.mb.sessions.foldl (fun c p => if mine p.2.fn then closeSession p.1 c else c) c
  let c2 := streamsOff (fun k => mine (streamOf k c).fn) c1
  let c3 := { c2 with rings := c2.rings.filter (fun p => !mine p.2.fn) }
  { c3 with hostMsix := c3.hostMsix.filter (fun p => !mine (p.1 / 2048)), hostPba := c3.hostPba.filter (fun p => !mine p.1) }

/-- Ring 2f and 2f + 1 take their bootstrap types (R369). -/
def bootstrapRings (f : Nat) (c : Chip) : Chip :=
  let give (r ty : Nat) (c : Chip) : Chip :=
    if (ringOf r c).ty == 0 then setRing r { Ring.reset with ty := ty, fn := f } c else c
  give (2 * f + 1) 2 (give (2 * f) 1 c)

/-- The PCI Express link as it stands (R338, R368). -/
def linkIs (speed width : Nat) (c : Chip) : Chip := wr W.linkSpeed speed (wr W.linkWidth (if speed == 0 then 0 else width) c)

/-! ### Commands -/

/-- DOORBELL (R337, R344). -/
def execDoorbell (fn : Fin 64) (ring : Fin 16384) (v : BitVec 32) (s : State) : Host.Outcome State Fault Refusal :=
  onChip (doorbellFrom fn.val ring.val v.toNat) s

/-- RING_RUN (R342). -/
def execRingRun (fn : Fin 64) (ring : Fin 16384) (v : Bool) (s : State) : Host.Outcome State Fault Refusal :=
  onChip (fun c => if inModes [.reset, .boot, .shutdown] c then c
    else if reaches fn.val ring.val c then ringRunSet ring.val v c else count P.hstBarIgnored c) s

/-- REGISTER_WRITE (R17, R333, R335, R337). -/
def execRegisterWrite (fn : Fin 64) (at_ : BarAt) (size : Nat) (v : BitVec 64) (s : State) : Host.Outcome State Fault Refusal :=
  onChip (registerWrite fn.val at_.bar at_.off.toNat size v.toNat) s

/-- BAR_BAD_READ (R17, R333). -/
def execBarBadRead (fn : Fin 64) (at_ : BarAt) (size : Nat) (s : State) : Host.Outcome State Fault Refusal :=
  onChip (barRead fn.val at_.bar at_.off.toNat size) s

/-- FUNCTION_LEVEL_RESET (R334). -/
def execFunctionLevelReset (fn : Fin 64) (s : State) : Host.Outcome State Fault Refusal := onChip (functionReset fn.val) s

/-- BOOTSTRAP_RING_RESTORE (R369). -/
def execBootstrapRingRestore (fn : Fin 64) (s : State) : Host.Outcome State Fault Refusal :=
  onChip (fun c => if inModes [.reset, .boot, .shutdown] c then c else bootstrapRings fn.val c) s

/-- COAL_TIME_EXPIRY (R345). -/
def execCoalTimeExpiry (ring : Fin 16384) (s : State) : Host.Outcome State Fault Refusal := onChip (coalExpiry ring.val) s

/-- The link may train: the supplies are valid, and PE_PERST_N is high (R419, R459). -/
def mayTrain (c : Chip) : Bool := c.pw.supplies && c.pn.perstN

/-- PCIE_LINK_CHANGE (R331, R338, R459): only the codes that R338 reports change anything. -/
def execPcieLinkChange (speed width : BitVec 3) (s : State) : Host.Outcome State Fault Refusal :=
  onChip (fun c => if decide (speed.toNat ≤ 5) && (speed == 0 || (mayTrain c && (width == 1 || width == 2 || width == 4))) then
    linkIs speed.toNat width.toNat c else c) s

/-- PE_PERST_N_LOW (R459): the link goes down, and the PF is reset. -/
def execPePerstNLow (s : State) : Host.Outcome State Fault Refusal :=
  onChip (fun c => functionReset 0 (linkIs 0 0 { c with pn := { c.pn with perstN := false } })) s

/-- PE_PERST_N_HIGH (R459). -/
def execPePerstNHigh (s : State) : Host.Outcome State Fault Refusal :=
  onChip (fun c => { c with pn := { c.pn with perstN := true } }) s

end Sys2Proof.Machine
end

