-- ==== Sys2Proof/Machine/Cabinet.lean ====
section
/-!
DEFINITION. The Cabinet (R410–R417): bias writes, summary writes, credits, wear levelling, and what a write that is given up
tells its requesters; the check word (R393) and the saves of calibration sets and DXE seeds (R140, R172).
-/

namespace Sys2Proof.Machine

/-! ### Conditions -/

/-- TJ_MAX lies within 5–95 °C (R111, R140, R172, R413). TJ_MAX counts 1/8 °C. -/
def tjInWindow (c : Chip) : Bool := decide (40 ≤ rdS W.tjMax c ∧ rdS W.tjMax c ≤ 760)

/-- Modes in which summary and bias writes run (R417). -/
def nvModes (c : Chip) : Bool := !inModes [.reset, .boot, .shutdown] c

/-! ### Answers (R374, R412–R414) -/

/-- A command still waits for a Cabinet write. -/
def nvWaits (i : Issuer) (c : Chip) : Bool :=
  c.nv.biasIssuers.contains i || c.nv.queue.any (fun q => q.issuers.contains i)

/-- Take a command off every Cabinet write. -/
def nvForget (p : Issuer → Bool) (c : Chip) : Chip :=
  { c with nv := { c.nv with biasIssuers := c.nv.biasIssuers.filter (fun i => !p i),
                             queue := c.nv.queue.map (fun q => { q with issuers := q.issuers.filter (fun i => !p i) }) } }

/-- One of the writes a command asked for has ended. It receives its response once all of them are stored, or one is not. -/
def nvAnswer (st : Nat) (c : Chip) (i : Issuer) : Chip :=
  if st == St.ok then (if nvWaits i c then c else respond i st true false i.res c)
  else respond i st true false [] (nvForget (· == i) c)

/-! ### Requests (R412, R413) -/

/-- The main-pool record that data belongs to. -/
def NvData.kind : NvData → NvRecord
  | .board _ => .board
  | .cal _ => .cal
  | .seeds _ => .seeds
  | .config _ _ => .config

/-- Ask for a summary write: a newer request replaces the pending one's data (R413). -/
def nvRequest (d : NvData) (blocks : Nat) (i : Option Issuer) (periodic board : Bool) (c : Chip) : Chip :=
  let mine (q : NvReq) : Bool := q.data.kind == d.kind
  if c.nv.queue.any mine then
    { c with nv := { c.nv with queue := c.nv.queue.map (fun q =>
      if mine q then { data := d, blocks := blocks, issuers := q.issuers ++ i.toList, periodic := q.periodic || periodic,
                       board := q.board || board } else q) } }
  else { c with nv := { c.nv with queue := c.nv.queue ++
    [{ data := d, blocks := blocks, issuers := i.toList, periodic := periodic, board := board }] } }

/-- The bias record as its fields hold it (R107, R410). -/
def biasRecs (c : Chip) : List BiasRec :=
  (List.range 32).map (fun o => { pu := rd (P.biaPuCode o) c, puSpan := rd (P.biaPuSpan o) c,
                                  fault := rd (P.biaFaultCode o) c, faultSpan := rd (P.biaFaultSpan o) c })

/-- Ask for a bias write: output o's power-up or fault value takes the bits under a mask, and the record that waits, if one
does, is replaced (R111, R412). -/
def biasRequest (o : Nat) (fault : Bool) (value mask who : Nat) (i : Option Issuer) (c : Chip) : Chip :=
  let recs := c.nv.biasPend.getD (biasRecs c)
  let put (old lo w : Nat) : Nat := let m := bits mask lo w; old - (old &&& m) + (bits value lo w &&& m)
  let one (r : BiasRec) : BiasRec :=
    if fault then { r with fault := put r.fault 0 18, faultSpan := put r.faultSpan 20 2 }
    else { r with pu := put r.pu 0 18, puSpan := put r.puSpan 20 2 }
  { c with nv := { c.nv with biasPend := some (recs.set o (one (recs.getD o BiasRec.zero))),
                             biasIssuers := c.nv.biasIssuers ++ i.toList,
                             biasAudit := c.nv.biasAudit ++ [(who, (if fault then P.biaFaultCode o else P.biaPuCode o).id)] } }

/-! ### Blocks (R415) -/

/-- A physical block's write count. -/
def wearOf (k : Nat) (c : Chip) : Nat := Tab.get c.nv.wear k 0

/-- The blocks that hold copies of records. -/
def usedBlocks (c : Chip) : List Nat := c.nv.recs.flatMap (fun r => r.2.blocks.flatten)

/-- The free main-pool blocks (R410, R415). -/
def freeBlocks (c : Chip) : List Nat :=
  ((List.range 1776).map (· + 272)).filter (fun k => !(usedBlocks c).contains k && !c.nv.retired.contains k)

/-- The block of a list that comes first by a key. -/
def firstBy (key : Nat → Nat) : List Nat → Option Nat
  | [] => none
  | k :: ks => match firstBy key ks with
    | none => some k
    | some j => if key j < key k then some j else some k

/-- One block is written once: its count, and NV_BLOCK_WRITES. -/
def wearOne (k : Nat) (c : Chip) : Chip :=
  countT P.secNvBlockWrites 250 { c with nv := { c.nv with wear := Tab.ins c.nv.wear k (wearOf k c + 1) } }

/-- A block is retired (R415). -/
def retire (k : Nat) (c : Chip) : Chip :=
  let c1 := { c with nv := { c.nv with retired := c.nv.retired ++ [k] } }
  setFlag P.secBlockRetired (wr P.secBlocksRetired c1.nv.retired.length c1)

/-- Write n blocks to the free blocks with the lowest counts; `failed` names those that fail their read-back check. None when
no free block remains (R415). -/
def putBlocks : (fuel n : Nat) → (failed got : List Nat) → Chip → Option (List Nat) × Chip
  | 0, _, _, _, c => (none, c)
  | _ + 1, 0, _, got, c => (some got, c)
  | fuel + 1, n + 1, failed, got, c =>
    match firstBy (fun k => wearOf k c) ((freeBlocks c).filter (fun k => !got.contains k)) with
    | none => (none, c)
    | some k =>
      let c1 := wearOne k c
      if failed.contains k || decide (100000 ≤ wearOf k c1) then putBlocks fuel (n + 1) failed got (retire k c1)
      else putBlocks fuel n failed (got ++ [k]) c1

/-- What a Cabinet write leaves in its fields: NV_LAST_GT, CREDIT in the metadata, and the wear counts. -/
def nvWritten (c : Chip) : Chip :=
  let ws := (List.range 1776).map (fun k => wearOf (k + 272) c)
  let c1 := { c with nv := { c.nv with creditNv := rd P.secCredit c } }
  wr P.secWearMax (ws.foldl max 0) (wr P.secWearMean (ws.sum / 1776) (wr P.secNvLastGt c.tl.gt c1))

/-! ### Giving up (R414, R417) -/

/-- A write is abandoned: the flag and its count. -/
def nvAbandoned (c : Chip) : Chip := count P.secNvAbandonCount (setFlag P.secNvAbandoned c)

/-- A summary write is given up: each requester is told. -/
def abandonOne (c : Chip) (q : NvReq) : Chip :=
  let c1 := nvAbandoned c
  let c2 := setFlagIf q.periodic P.calSaveFailed c1
  let c3 := if q.board then wr P.secBoardStatus 5 c2 else c2
  q.issuers.foldl (nvAnswer St.nvTemp) c3

/-- Every Cabinet write that waits is given up: TJ_MAX leaves 5–95 °C, or SHUTDOWN or RESET is entered (R414, R417). -/
def nvAbandonAll (c : Chip) : Chip :=
  let qs := c.nv.queue
  let is_ := c.nv.biasIssuers
  let b := c.nv.biasPend.isSome
  let c1 := { c with nv := { c.nv with queue := [], biasPend := none, biasIssuers := [], biasAudit := [] } }
  let c2 := if b then is_.foldl (nvAnswer St.nvTemp) (nvAbandoned c1) else c1
  qs.foldl abandonOne c2

/-! ### Writes (R412, R413, R415) -/

/-- A record's new copy: the older of the two it had is freed (R410, R411, R415). -/
def putCopy (k : NvRecord) (d : NvData) (got : List Nat) (rs : List (NvRecord × NvCopy)) : List (NvRecord × NvCopy) :=
  match rs.find? (fun r => r.1 == k) with
  | none => rs ++ [(k, { data := d, seq := 1, blocks := [got] })]
  | some r => rs.map (fun x => if x.1 == k then (k, { data := d, seq := r.2.seq + 1, blocks := got :: r.2.blocks.take 1 }) else x)

/-- The bytes of a configuration image but its check word (R394). -/
def imageBytes (recs : List CfgRec) (gt : Nat) : List Byte :=
  leBytes 4 0x43464731 ++ leBytes 2 1 ++ leBytes 2 0 ++ leBytes 4 recs.length ++ leBytes 4 Config.deviceSerial ++ leBytes 8 gt ++
    leBytes 40 0 ++ recs.flatMap (fun r => leBytes 4 r.id.toNat ++ leBytes 4 r.rkind.toNat ++ leBytes 8 r.value.toNat)

/-- The data as it is stored in this tick: a configuration image's SAVE_GT is the GT of the save, and CHECK covers it (R393,
R394). -/
def sealed (d : NvData) (c : Chip) : NvData :=
  match d with
  | .config _ recs => .config (crc32c (imageBytes recs c.tl.gt)) recs
  | x => x

/-- What a stored record changes in its fields (R143, R398, R418). -/
def storedNote (q : NvReq) (c : Chip) : Chip :=
  match q.data with
  | .board _ => wr P.secBoardStatus 2 c
  | .cal _ => wr P.calLastSaveGt c.tl.gt c
  | .seeds _ => c
  | .config _ _ => wr P.sysLastCfgSaveGt c.tl.gt c

/-- SUMMARY_WRITE (R413–R415, R417): the oldest pending record, once its spacing, credit, NV_WINDOW (R431) and mode allow. -/
def summaryWrite (failed : List Nat) (c : Chip) : Chip :=
  match c.nv.queue with
  | [] => c
  | q :: rest =>
    let spaced := match c.nv.sumAt with
      | none => true
      | some t => decide (t + 10000000000 ≤ c.clk)
    if nvModes c && spaced && decide (q.blocks ≤ rd P.secCredit c) && on W.nvWindow c then
      let c1 := wr P.secCredit (rd P.secCredit c - q.blocks)
        { c with nv := { c.nv with queue := rest, sumAt := some c.clk } }
      match putBlocks (1776 + q.blocks + 1) q.blocks failed [] c1 with
      | (none, c2) => abandonOne (nvWritten c2) q
      | (some got, c2) =>
        let c3 := storedNote q (nvWritten { c2 with nv := { c2.nv with recs := putCopy q.data.kind (sealed q.data c2) got c2.nv.recs } })
        q.issuers.foldl (nvAnswer St.ok) c3
    else c

/-- The ring block the next bias write goes to: the first of the ring that is not retired, from its place on (R412, R415). -/
def biasBlock (c : Chip) : Option Nat :=
  ((List.range 256).map (fun k => 16 + (c.nv.biasSeq + k) % 256)).find? (fun k => !c.nv.retired.contains k)

/-- The stored bias record comes into force: the fields, with an audit entry for each write, and the outputs that drive their
fault value follow in the tick after (R111, R389). -/
def biasStored (rs : List BiasRec) (c : Chip) : Chip :=
  let as := c.nv.biasAudit
  let olds := as.map (fun a => storedValue a.2 c)
  let c1 := (List.range 32).foldl (fun c o =>
    let r := rs.getD o BiasRec.zero
    wr (P.biaFaultSpan o) r.faultSpan (wr (P.biaFaultCode o) r.fault (wr (P.biaPuSpan o) r.puSpan (wr (P.biaPuCode o) r.pu c)))) c
  let c2 := (as.zip olds).foldl (fun c a => auditBits a.1.1 false false a.1.2 a.2 (storedValue a.1.2 c) c) c1
  (List.range 32).foldl (fun c o =>
    if on (P.biaFaultDrive o) c then setBias o { biasOf o c with followAt := some (c.clk + 1) } c else c) c2

/-- BIAS_WRITE (R412, R415, R417): the bias record that waits goes to the next block of the ring, 60 s after the last. -/
def biasWrite (failed : Bool) (c : Chip) : Chip :=
  match c.nv.biasPend with
  | none => c
  | some rs =>
    let spaced := match c.nv.biasAt with
      | none => true
      | some t => decide (t + 60000000000 ≤ c.clk)
    if nvModes c && spaced then
      let c0 := { c with nv := { c.nv with biasAt := some c.clk } }
      let c1 := match biasBlock c0 with
        | some k =>
          let c1 := wearOne k c0
          if failed || decide (100000 ≤ wearOf k c1) then
            let c2 := retire k c1
            match biasBlock c2 with
            | some j => wearOne j c2
            | none => c2
          else c1
        | none => c0
      let is_ := c.nv.biasIssuers
      match biasBlock c1 with
      | none =>
        is_.foldl (nvAnswer St.nvTemp) (nvAbandoned (nvWritten
          { c1 with nv := { c1.nv with biasPend := none, biasIssuers := [], biasAudit := [] } }))
      | some _ =>
        let c2 := biasStored rs { c1 with nv := { c1.nv with bias := some rs, biasSeq := c1.nv.biasSeq + 1 } }
        is_.foldl (nvAnswer St.ok) (nvWritten
          { c2 with nv := { c2.nv with biasPend := none, biasIssuers := [], biasAudit := [] } })
    else c

/-- CREDIT_TICK (R413): every 10 s while the supplies are valid. -/
def creditTick (c : Chip) : Chip :=
  if c.pw.supplies && decide (c.nv.creditAt + 10000000000 ≤ c.clk) then
    wr P.secCredit (min 1024 (rd P.secCredit c + 1)) { c with nv := { c.nv with creditAt := c.clk } }
  else c

/-- NV wear management runs (R19, R415). -/
def wearModes (c : Chip) : Bool := inModes [.fallback, .standby, .configure, .syncing, .ready, .run, .hold] c && tjInWindow c

/-- WEAR_MOVE (R415): the least-written block of a record moves to the most-worn free block; one that fails its check is
retired, and the next most-worn takes the data. -/
def wearMove (failed : Bool) (c : Chip) : Chip :=
  let ws := (List.range 1776).map (fun k => wearOf (k + 272) c)
  if wearModes c && rd P.secCredit c == 1024 && decide (ws.sum + 1024 * 1776 < (ws.foldl max 0) * 1776) then
    match firstBy (fun k => wearOf k c) (usedBlocks c) with
    | none => c
    | some k =>
      let most (c : Chip) : Option Nat := firstBy (fun j => 1000000 - wearOf j c) (freeBlocks c)
      match most c with
      | none => c
      | some j =>
        let c1 := wearOne j (wr P.secCredit 1023 c)
        let move (j : Nat) (c : Chip) : Chip :=
          { c with nv := { c.nv with recs := c.nv.recs.map (fun r =>
            (r.1, { r.2 with blocks := r.2.blocks.map (fun l => l.map (fun b => if b == k then j else b)) })) } }
        if failed || decide (100000 ≤ wearOf j c1) then
          let c2 := retire j c1
          match most c2 with
          | none => nvWritten (nvAbandoned c2)
          | some i => nvWritten (move i (wearOne i c2))
        else nvWritten (move j c1)
  else c

/-! ### What is saved (R138, R140, R171, R172) -/

/-- A set with its check word: CRC-32C over its other bytes (R138, R393). -/
def checked (bs : List Byte) : List Byte := bs ++ leBytes 4 (crc32c bs)

/-- A RIN set of 64 bytes, from its eight words (R138). -/
def rinSet (ws : List Nat) : List Byte := checked ((List.range 60).map (Config.rinSetByte ws))

/-- A port's factory set, and its set from the pass that completed at a tick count, of 256 bytes each (R138). -/
def dacFactory (k : Nat) : List Byte := checked ((List.range 252).map (Config.dacFactoryByte k))
def dacPass (k clk : Nat) : List Byte := checked ((List.range 252).map (Config.dacPassByte k clk))

/-- The 20,224 bytes of both saved records (R138). DESIGN CHOICE (log): a port that has completed no pass has zeros. -/
def CalSave.bytes (s : CalSave) : List Byte :=
  (List.range 12).flatMap (fun r => rinSet ((List.range 8).map (fun j => Tab.get s.rin (8 * r + j) 0))) ++
  (List.range 76).flatMap (fun k => match Tab.find s.dac k with
    | some t => dacPass k t
    | none => List.replicate 256 0)

/-- The set a port's DAC runs on: none, its factory set, or that of its last pass (R87, R136, R139). -/
def dacSetBytes (k : Nat) (c : Chip) : Option (List Byte) :=
  match Tab.get c.rin.dacSet k 0, Tab.find c.rin.passAt k with
  | 0, _ => none
  | 2, some t => some (dacPass k t)
  | _, _ => some (dacFactory k)

/-- The calibration sets a save writes: every applied RIN set, and every port's last completed pass (R138, R140). -/
def calSets (c : Chip) : CalSave :=
  { rin := (List.range 96).map (fun k => (k, rd (P.rinAppSet (k / 8) (k % 8)) c)), dac := c.rin.passAt }

/-- A save of the calibration sets is asked for (R140): 5 blocks. -/
def calSaveAsk (i : Option Issuer) (periodic : Bool) (c : Chip) : Chip :=
  nvRequest (.cal (calSets c)) 5 i periodic false { c with rin := { c.rin with saveAt := c.clk } }

/-- PERIODIC_CAL_SAVE (R140): every SAVE_PERIOD seconds; outside 5–95 °C it is skipped, and SAVE_FAILED is set. -/
def periodicCalSave (c : Chip) : Chip :=
  let p := rd P.calSavePeriod c
  if nvModes c && p != 0 && decide (c.rin.saveAt + p * 1000000000 ≤ c.clk) then
    if tjInWindow c then calSaveAsk none true c
    else setFlag P.calSaveFailed { c with rin := { c.rin with saveAt := c.clk } }
  else c

/-- The seed areas of the 24 engines, each with its check word put into word 0x77FF, and a request to save them (R171, R172). -/
def seedSaveAsk (i : Option Issuer) (c : Chip) : Chip :=
  let c1 := (List.range 24).foldl (fun c e =>
    { c with mem := memPut c.mem (dataAddr e 0x77FF) (leBytes 4 (crc32c (memGet c.mem (dataAddr e 0x7700) 1020))) }) c
  nvRequest (.seeds ((List.range 24).map (fun e => (e, memGet c1.mem (dataAddr e 0x7700) 1024)))) 6 i false false
    { c1 with dx := { c1.dx with seedSaveAt := some c.clk } }

/-! ### Commands -/

/-- SUMMARY_WRITE (R413). -/
def execSummaryWrite (failed : List Nat) (s : State) : Host.Outcome State Fault Refusal := onChip (summaryWrite failed) s

/-- BIAS_WRITE (R412). -/
def execBiasWrite (failed : Bool) (s : State) : Host.Outcome State Fault Refusal := onChip (biasWrite failed) s

/-- CREDIT_TICK (R413). -/
def execCreditTick (s : State) : Host.Outcome State Fault Refusal := onChip creditTick s

/-- WEAR_MOVE (R415). -/
def execWearMove (failed : Bool) (s : State) : Host.Outcome State Fault Refusal := onChip (wearMove failed) s

/-- PERIODIC_CAL_SAVE (R140). -/
def execPeriodicCalSave (s : State) : Host.Outcome State Fault Refusal := onChip periodicCalSave s

end Sys2Proof.Machine
end

