-- ==== Sys2Proof/Machine/Commit.lean ====
section
/-!
DEFINITION. How RW and SH values come into force: the effects of a stored write (R66–R69, R74, R104, R122, R160, R174, R223),
drawer commits (R384–R388, R181, R220), and the writes HOLD keeps until it is left (R19).
-/

namespace Sys2Proof.Machine

/-! ### Parameters by their blocks -/

/-- Block, instance and item of a parameter (R6). -/
def idBlock (id : Nat) : Nat := id / 2 ^ 24
def idInst (id : Nat) : Nat := id / 2 ^ 12 % 2 ^ 12
def idItem (id : Nat) : Nat := id % 2 ^ 12

/-- The timed-path blocks of R19: TL, SQ, DRV, PRB, FLX, BIA, RIN, DXE, OUT. -/
def timedBlock (id : Nat) : Bool := decide (1 ≤ idBlock id ∧ idBlock id ≤ 9)

/-- The shelf and item of a shelf directory parameter (R91). -/
def shelfOfId (id : Nat) : Option (Nat × Nat) :=
  if idBlock id == 3 && decide (0x100 ≤ idInst id ∧ idInst id < 0x108) then
    some ((idInst id - 0x100) * 1024 + idItem id / 4, idItem id % 4)
  else none

/-- The tone and item of a tone parameter (R90). -/
def toneOfId (id : Nat) : Option (Target × Nat) :=
  if (idBlock id == 3 || idBlock id == 4) && decide (0x100 ≤ idItem id) && decide (idInst id < 0x100) then
    some (mkTone (idBlock id) (idInst id) ((idItem id - 0x100) / 16), idItem id % 16)
  else none

/-- The global channel and item of a channel parameter (R142). -/
def chanOfId (id : Nat) : Option (Nat × Nat) :=
  if idBlock id == 7 && decide (0x100 ≤ idItem id) then some (24 * idInst id + (idItem id - 0x100) / 16, idItem id % 16)
  else none

/-- The decision unit of a parameter (R238). -/
def unitOfId (id : Nat) : Option Nat :=
  if idBlock id == 9 && decide (0x600 ≤ idInst id ∧ idInst id < 0x640) then some (idInst id - 0x600) else none

/-- DXE_RUN's parameter, which acts and is not merely stored (R174). -/
def isDxeRun (id : Nat) : Bool := idBlock id == 8 && idItem id == 0

/-- STREAM_EN, and the parameters of the bias record, whose writes act and are not merely stored (R111, R312). -/
def actsRow (id : Nat) (r : Row) : Bool :=
  (idBlock id == 12 && decide (0x10 ≤ idInst id ∧ idInst id < 0x20) && idItem id == 0 && r.f.lo == 0) ||
  (idBlock id == 6 && (idItem id == 1 || idItem id == 2))

/-- A field that a write of its parameter stores: RW and SH, but for those that act instead (R69, R111, R122, R174, R312). -/
def storesRow (id : Nat) (r : Row) : Bool :=
  (r.acc == .rw && !isDxeRun id && !actsRow id r) ||
  (r.acc == .sh && !(match toneOfId id, chanOfId id with
    | some (_, 3), _ => true
    | _, some (_, 3) => true
    | _, _ => false))

/-- The mask covers a field (R10). -/
def covers (mask : Nat) (f : Field) : Bool := bits mask f.lo f.w != 0

/-- The fields a mask covers. -/
def covered (id mask : Nat) : List Row := (fieldsOf id).filter (fun r => covers mask r.f)

/-- Keep what the rest of this tick must still see as it stood (R76, R166, R182, R319). -/
def keepFor (id : Nat) (c : Chip) : Chip :=
  match shelfOfId id with
  | some (s, _) => keepShelf s c
  | none =>
    match idBlock id with
    | 2 => if decide (idInst id < 64 ∧ 0x20 ≤ idItem id ∧ idItem id < 0x2C) then keepBind (idInst id) (idItem id - 0x20) c else c
    | 8 => if 0x800 ≤ idItem id then keepCls (idInst id) ((idItem id - 0x800) / 8) c else c
    | 13 => if decide (0x100 ≤ idInst id ∧ idInst id < 0x180) then keepChan (idInst id - 0x100) c else c
    | _ => c

/-- What a write of a tone parameter does beside storing it (R68, R69). -/
def toneEffect (t : Target) (k value mask : Nat) (c : Chip) : Chip :=
  if k == 0 && mask % 2 ^ 48 != 0 then setFreq t (rd (toneFreqF t) c) c
  else if k == 3 && bitAt mask 0 && bitAt value 0 then { c with now := { c.now with resync := t :: c.now.resync } }
  else c

/-- What a write of a channel parameter does beside storing it (R122). -/
def chanEffect (ch k value mask : Nat) (c : Chip) : Chip :=
  if k == 0 && mask % 2 ^ 48 != 0 then setRx ch (rd (P.rinRxFreq (ch / 24) (ch % 24)) c) c
  else if k == 3 && bitAt mask 0 && bitAt value 0 then { c with now := { c.now with resyncCh := ch :: c.now.resyncCh } }
  else c

/-- A write of DXE_RUN: start, stop, or neither (R174, R178). -/
def dxeRunWrite (e value : Nat) (c : Chip) : Chip :=
  if bitAt value 0 then (if on (P.dxeDxeRun e) c then c else dxeStart e c)
  else if dxeMode c then dxeStop e c else c

/-- What a stored write of a timed-path parameter does beside storing it; a write that covers no field does nothing (R11). -/
def afterWrite (id value mask : Nat) (c : Chip) : Chip :=
  if (covered id mask).isEmpty then c
  else match shelfOfId id with
  | some (s, k) =>
    if k == 0 && bits mask 24 21 != 0 && rd (P.shelfLength s) c == 0 then wr (P.shelfState s) shelfEmpty c else c
  | none =>
    match toneOfId id with
    | some (t, k) => toneEffect t k value mask c
    | none =>
      match chanOfId id with
      | some (ch, k) => chanEffect ch k value mask c
      | none =>
        if isDecEntry id then entryWritten (id - 0x09100000) c
        else match unitOfId id with
          | some d => duCommit d c
          | none =>
            match idBlock id, idItem id with
            | 6, 0 => if on (P.biaFaultDrive (idInst id)) c then c else biasInForce (idInst id) c
            | 8, 0 => if bitAt mask 0 then dxeRunWrite (idInst id) value c else c
            | 8, 2 => setEng (idInst id) { engOf (idInst id) c with periodAt := c.clk } c
            | _, _ => c

/-- One write comes into force in this tick, with its audit entry (R389). -/
def applyWrite (who : Nat) (commit txc : Bool) (id value mask : Nat) (c : Chip) : Chip :=
  let old := storedValue id c
  let c1 := afterWrite id value mask (storeValue id value mask (storesRow id) (keepFor id c))
  auditBits who commit txc id old (storedValue id c1) c1

/-- The coherent loads of this tick, with the words in force after every commit of it (R69, R122). -/
def resyncLoads (c : Chip) : Chip :=
  c.now.resyncCh.foldl (fun c ch => cohLoadRx ch c) (c.now.resync.foldl (fun c t => cohLoad t c) c)

/-! ### Drawers (R384–R388) -/

/-- Merge a write into a drawer's entries (R384). -/
def mergeEntry (id value mask : Nat) : List Entry → List Entry
  | [] => [{ id := id, value := value &&& mask, mask := mask }]
  | e :: es =>
    if e.id == id then
      { id := id, value := e.value - (e.value &&& mask) + (value &&& mask), mask := e.mask ||| mask } :: es
    else e :: mergeEntry id value mask es

/-- The chip as it would read after a list of writes, stored and nothing else. -/
def tryStore (ws : List (Nat × Nat × Nat)) (c : Chip) : Chip :=
  ws.foldl (fun c w => storeValue w.1 w.2.1 w.2.2 (storesRow w.1) c) c

/-- Some target is bound to two lanes (R181). -/
def boundTwice (c : Chip) : Bool :=
  let bs := (List.range 768).filterMap (fun g =>
    if rd (P.sqKind (g / 12) (g % 12)) c == 0 then none else some (bindNow (g / 12) (g % 12) c))
  !(bs.filterMap (·.tone)).Nodup || !(bs.filterMap (·.chan)).Nodup

/-- BASE is a multiple of 2^NBITS (R220). -/
def baseOk (d : Nat) (c : Chip) : Bool := rd (P.duBase d) c % 2 ^ rd (P.duNbits d) c == 0

/-- Every source of a unit that is remote names one of the 256 registers (R238). -/
def sourcesOk (d : Nat) (c : Chip) : Bool :=
  (List.range 16).all (fun k => !(on (P.duSrcRemote d k) c && decide (255 < rd (P.duSrcReg d k) c)))

/-- The mode admits a write of SH fields, all of which lie in timed-path blocks (R19). -/
def modeAdmitsSh (c : Chip) : Bool := inModes [.standby, .configure, .syncing, .ready, .run, .hold, .bench] c

/-- Why a commit of these entries is refused as a whole, or OK (R387). -/
def commitStatus (es : List Entry) (c : Chip) : Nat :=
  if !es.isEmpty && !modeAdmitsSh c then St.modeRefused
  else
    let held := c.mb.held.map (fun h => (h.id, h.value, h.mask))
    let c1 := tryStore (held ++ es.map (fun e => (e.id, e.value, e.mask))) c
    if es.any (fun e => idBlock e.id == 2) && boundTwice c1 then St.laneTaken
    else if es.any (fun e => match unitOfId e.id with | some d => !baseOk d c1 | none => false) then St.badValue
    else if es.any (fun e => match unitOfId e.id with | some d => !sourcesOk d c1 | none => false) then St.badValue
    else if es.any (fun e => match toneOfId e.id with
        | some (t, 0) => !bandOk (rd (P.portBand (tgtPort t).1 (tgtPort t).2) c) (rd (toneFreqF t) c1)
        | _ => false) then St.badValue
    else St.ok

/-- Apply entries in their order; in HOLD they are held until it is left (R19, R387, R388). -/
def commitEntries (who : Nat) (txc : Bool) (es : List Entry) (c : Chip) : Chip :=
  if c.md.mode == .hold then
    { c with mb := { c.mb with held := c.mb.held ++ es.map (fun e =>
        { id := e.id, value := e.value, mask := e.mask, who := who, commit := true, txc := txc }) } }
  else resyncLoads (es.foldl (fun c e => applyWrite who true txc e.id e.value e.mask c) c)

/-- Commit drawer d: a status and the entries applied. A refused commit leaves the drawer as it is (R387). -/
def commitDrawer (d : Nat) (txc : Bool) (c : Chip) : Nat × Nat × Chip :=
  match Tab.find c.mb.drawers d with
  | none => (St.noDrawer, 0, c)
  | some x =>
    let st := commitStatus x.entries c
    if st == St.ok then
      let c1 := commitEntries (Origin.session x.owner).bits txc x.entries c
      (St.ok, x.entries.length, { c1 with mb := { c1.mb with drawers := Tab.ins c1.mb.drawers d { x with entries := [] } } })
    else (st, 0, c)

/-- An action is a drawer commit. -/
def isDrawerAct : Act → Bool
  | .drawer _ => true
  | _ => false

/-- DRAWER_COMMIT: the first drawer commit scheduled for this tick (R53, R387). -/
def drawerCommit (c : Chip) : Chip :=
  match schedDue isDrawerAct c with
  | none => c
  | some e =>
    let c1 := schedPop isDrawerAct c
    if schedKeeps e c then
      match e.act with
      | .drawer d =>
        let r := commitDrawer d false c1
        finish e.issuer r.1 [r.2.1] r.2.2
      | _ => c1
    else finish e.issuer St.notAligned [0] c1

/-- One TXC slot commits its drawer (R201, R388). -/
def txcOne (c : Chip) (l : Latched) : Chip :=
  let d := l.op % 2 ^ 16
  if (Tab.find c.mb.drawers d).isNone then count P.sysTxcMissCount c
  else
    let r := commitDrawer d true c
    if r.1 == St.ok then r.2.2 else count P.sysTxcFailCount r.2.2

/-- TXC_COMMIT: the TXC slots of sequencer s for this tick (R201). -/
def txcCommit (s : Nat) (c : Chip) : Chip := (actNow s 0x08 c).foldl txcOne (popNow s 0x08 c)

/-! ### Leaving HOLD (R19) -/

/-- The writes kept in HOLD come into force in the order in which they were made (R19). -/
def releaseHeld (c : Chip) : Chip :=
  resyncLoads (c.mb.held.foldl (fun c h => applyWrite h.who h.commit h.txc h.id h.value h.mask c)
    { c with mb := { c.mb with held := [] } })

/-! ### Group modes (R382, R383) -/

/-- Some drawer holds a write to the group (R383). -/
def drawerHolds (g : GroupKind × Nat) (c : Chip) : Bool :=
  c.mb.drawers.any (fun d => d.2.entries.any (fun e => groupOfId e.id == some g))

/-- The groups in ADAPT become these; the tracking writes of groups that leave it are discarded and counted (R168, R381, R382). -/
def adaptTo (ks : List Nat) (c : Chip) : Chip :=
  let stays (t : Track) : Bool := match groupOfId t.id with
    | some g => ks.contains (groupKey g)
    | none => true
  (c.dx.track.filter (fun t => !stays t)).foldl (fun d t => count (P.dxeTrkRefusedCount t.engine) d)
    { c with mb := { c.mb with adapt := ks }, dx := { c.dx with track := c.dx.track.filter stays } }

/-- A group takes a mode (R382). -/
def setAdapt (g : GroupKind × Nat) (adapt : Bool) (c : Chip) : Chip :=
  let k := groupKey g
  if adapt then (if c.mb.adapt.contains k then c else adaptTo (k :: c.mb.adapt) c) else adaptTo (c.mb.adapt.filter (· != k)) c

/-- An action is a change of a group's mode. -/
def isGroupAct : Act → Bool
  | .group _ _ => true
  | _ => false

/-- GROUP_MODE_CHANGE: the first scheduled for this tick (R53, R382, R383, R389). The audit entry's origin is the session that
asked for it. -/
def groupModeChange (c : Chip) : Chip :=
  match schedDue isGroupAct c with
  | none => c
  | some e =>
    let c1 := schedPop isGroupAct c
    if !schedKeeps e c then finish e.issuer St.notAligned [0] c1
    else match e.act with
      | .group id adapt =>
        match groupOfId id with
        | some g =>
          if adapt && drawerHolds g c then finish e.issuer St.modeConflict [b2n (inAdapt id c)] c1
          else
            let old := b2n (inAdapt id c)
            let c2 := setAdapt g adapt c1
            let who := match e.issuer with
              | some i => (mboxOrigin i.mb).bits
              | none => 0
            finish e.issuer St.ok [b2n adapt] (auditBits who false false id old (b2n adapt) c2)
        | none => c1
      | _ => c1

/-! ### Commands -/

/-- DRAWER_COMMIT (R387). -/
def execDrawerCommit (s : State) : Host.Outcome State Fault Refusal := onChip drawerCommit s

/-- GROUP_MODE_CHANGE (R382). -/
def execGroupModeChange (s : State) : Host.Outcome State Fault Refusal := onChip groupModeChange s

/-- TXC_COMMIT (R201). -/
def execTxcCommit (sq : Fin 64) (s : State) : Host.Outcome State Fault Refusal := onChip (txcCommit sq.val) s

end Sys2Proof.Machine
end

