-- ==== Sys2Proof/Machine/ParamRead.lean ====
section
/-!
DEFINITION. Reading parameters (R10, R378): the values computed when they are read, and micro-state (R256).
-/

namespace Sys2Proof.Machine

/-! ### Micro-state (R249, R256, R257) -/

/-- The place of a micro-state item in that list. -/
def microItem (k : Nat) : Option Nat :=
  if k < 3 then some k else if decide (0x10 ≤ k ∧ k < 0x18) then some (k - 0x10 + 3) else none

/-- A read of a micro-state item that takes no trap (R256): directly of an engine that does not issue, else from its last stop
or PEEK, with PEEK_STALE set. -/
def microRead (e j : Nat) (c : Chip) : Nat :=
  if (sqOf e c).issuing then (microOf e c).copy.getD j 0 + (if j == 0 then 2 ^ 24 else 0)
  else (microNow e c).getD j 0

/-- The read of a parameter must wait for a PEEK trap (R256): the engine, if so. -/
def peekNeeded (id : Nat) (c : Chip) : Option Nat :=
  if idBlock id == 10 && decide (idInst id < 64) && (microItem (idItem id)).isSome && (sqOf (idInst id) c).issuing && on P.mcPeekRun c then
    some (idInst id)
  else none

/-! ### Computed fields -/

/-- The value of a field that is computed when it is read, by block, instance, item and lowest bit; none: it is stored. -/
def computed (id lo : Nat) (c : Chip) : Option Nat :=
  let i := idInst id
  let k := idItem id
  match idBlock id with
  | 1 =>
    if i == 0 && k == 0x10 then some c.tl.gt
    else if i == 0 && k == 0x11 && lo == 0 then some c.tl.state
    else if i == 0 && k == 0x11 && lo == 4 then some (depthOf c)
    else if i == 0 && k == 0x14 then some c.tl.snaps.length
    else if i == 0 && k == 0x15 then some (schedUsed c)
    else none
  | 2 =>
    let x := sqOf i c
    if 64 ≤ i then none
    else if k == 0x0 && lo == 2 then some (b2n x.issuing)
    else if k == 0x17 && lo == 16 then some (match shotNow i c with
      | some n => Tab.get x.flags n 0
      | none => 0)
    else if k == 0x18 then some x.cursor
    else if k == 0x1A then
      (match lo with
       | 0 => some x.pc
       | 16 => some x.slots.length
       | 32 => some x.checks.length
       | 40 => some x.loops.length
       | 48 => some x.calls.length
       | _ => some x.stall)
    else none
  | 3 | 4 =>
    match toneOfId id with
    | some (t, 4) => some (toneOf t c).fw
    | some (t, 5) => some (toneOf t c).frame
    | some _ => none
    | none =>
      match shelfOfId id with
      | some (s, 2) => if lo == 16 then some (shelfRefs s c) else none
      | some _ => none
      | none =>
        if idBlock id == 3 && i == 255 && k == 1 then
          some ((List.range 8192).filter (fun s => rd (P.shelfState s) c == shelfActive)).length
        else none
  | 5 => if i < 24 && k == 0x40 then some (toField 16 (flxCodeNow i c)) else none
  | 7 =>
    match chanOfId id with
    | some (ch, 5) => some (chWord ch c)
    | some _ => none
    | none =>
      if k == 6 then some (((c.tl.sched.filter (fun e => e.act == .calSwitch i && !e.gt0)).map (·.gt)).min?.getD 0) else none
  | 8 =>
    let x := engOf i c
    if k == 0x26 then
      (match lo with
       | 0 => some x.pc
       | 16 => some x.queue.length
       | _ => some x.reps.length)
    else if i < 24 && decide (0x40 ≤ k ∧ k < 0x50) then some (Tab.get x.p (k - 0x40) 0)
    else none
  | 9 =>
    if isDecEntry id then some (bits (entryOf (id - 0x09100000) c) lo 16)
    else if decide (0x600 ≤ i ∧ i < 0x640) && k == 0x20 && lo == 48 then
      some (b2n ((duOf (i - 0x600) c).now.isSome && decide ((duOf (i - 0x600) c).notBefore ≤ c.clk)))
    else if i == 0 && k == 0x13 && lo == 1 then some (b2n ((List.range 256).any (fun r => on (P.rrStale r) c)))
    else none
  | 10 =>
    if 64 ≤ i then none
    else match microItem k with
      | some j => some (microRead i j c / 2 ^ lo)
      | none => none
  | 11 =>
    if i == 0 && k == 1 && lo == 0 then some (b2n (isAuthority c))
    else if i == 0 && k == 4 then some Config.deviceSerial
    else if decide (1 ≤ i ∧ i < 5) && k == 1 && lo == 3 then some (b2n (txUp (i - 1) c))
    else if decide (1 ≤ i ∧ i < 5) && k == 0x17 && lo == 0 then some (outQueue (i - 1) c).length
    else if decide (1 ≤ i ∧ i < 5) && k == 0x17 && lo == 8 then some (unackedOf (i - 1) c)
    else none
  | 12 =>
    if i == 0 && k == 1 then some (budgetUsed c)
    else if i == 0 && k == 2 then some (tword c)
    else if decide (0x10 ≤ i ∧ i < 0x20) && k == 0x13 then some (fillOf (i - 0x10) c)
    else if decide (0x10 ≤ i ∧ i < 0x20) && k == 0x14 then some (streamOf (i - 0x10) c).seq
    else if decide (0x20 ≤ i ∧ i < 0x28) && k == 6 then some (tuOf (i - 0x20) c).state
    else none
  | 13 =>
    if i == 0 && k == 2 then some ((List.range 128).filter (fun n => on (P.ecChEn n) c)).length else none
  | 14 =>
    if i == 0 && k == 0 then some ((List.range 64).map (fun n => inFlight (chanOf n c))).sum
    else if decide (0x100 ≤ i ∧ i < 0x140) && k == 0x11 && lo == 0 then some (inFlight (chanOf (i - 0x100) c))
    else none
  | 15 =>
    if i == 0 && k == 0 then some (if lo == 0 then rd W.linkSpeed c else rd W.linkWidth c)
    else if i == 0 && k == 1 then some c.numVfs else none
  | 17 =>
    if i == 0 && k == 3 then some (min 100000 ((c.th.holdUntil - c.clk) / 1000)) else none
  | 18 =>
    if i == 0 && k == 0 then some (if lo == 0 then c.mb.sessions.length else c.mb.drawers.length) else none
  | _ => none

/-- What a field reads (R10), computed where its row says so. -/
def fieldValue (r : Row) (c : Chip) : Nat :=
  if r.acc == .wo then 0
  else match computed r.f.id r.f.lo c with
    | some v => v % 2 ^ r.f.w
    | none => rd r.f c

/-- Read one field into a value: an RC field returns its value and clears (R10). -/
def readField (a : Nat × Chip) (r : Row) : Nat × Chip :=
  if r.acc == .rc then
    let (v, c1) := readRc r.f a.2
    (a.1 + v * 2 ^ r.f.lo, c1)
  else (a.1 + fieldValue r a.2 * 2 ^ r.f.lo, a.2)

/-- PARAM_GET of the value in force (R10, R378). -/
def readParam (id : Nat) (c : Chip) : Nat × Chip := (fieldsOf id).foldl readField (0, c)

end Sys2Proof.Machine
end

