-- ==== Sys2Proof/Machine/ParamWrite.lean ====
section
/-!
DEFINITION. Writing parameters (R10–R12, R19, R379, R464): the tests in their order, and what an accepted write does. The tests
of every block chapter stand here, each with its rule.
-/

namespace Sys2Proof.Machine

/-- Who writes, and what the write may need beyond its bits: KIND and DETAIL of the audit entry, the session and its function,
who receives the response of a write that completes with a Cabinet write (`save`) or that schedules an action (`sched`), and the
board record that a read from host memory returns. -/
structure Writer where
  who : Nat
  ses : Option Nat
  fn : Nat
  save : Option Issuer
  sched : Option Issuer
  board : Option BoardRec

/-! ### Bits under the mask -/


/-- The bits a write puts into a field: those the mask does not cover are 0. -/
def wrote (value mask : Nat) (f : Field) : Nat := bits (value &&& mask) f.lo f.w

/-- The write puts a 1 into a one-bit field. -/
def wrote1 (value mask : Nat) (f : Field) : Bool := wrote value mask f != 0


/-- The bits of a parameter that lie in fields which pass a test. -/
def fieldBits (id : Nat) (p : Row → Bool) : Nat :=
  (fieldsOf id).foldl (fun n r => if p r then n + (2 ^ r.f.w - 1) * 2 ^ r.f.lo else n) 0

/-- The covered fields are SH. -/
def writesSh (id mask : Nat) : Bool := (covered id mask).any (fun r => r.acc == .sh)

/-- A covered field is RW. -/
def writesRw (id mask : Nat) : Bool := (covered id mask).any (fun r => r.acc == .rw)

/-- The parameter is a PU or FAULT value of the bias record: output, and whether it is the fault value (R111). -/
def biasItem (id : Nat) : Option (Nat × Bool) :=
  if idBlock id == 6 && idItem id == 1 then some (idInst id, false)
  else if idBlock id == 6 && idItem id == 2 then some (idInst id, true)
  else none

/-! ### The mode (R19, R464 step 4) -/

/-- The tests that block chapters make of the mode (R34, R60, R82, R130, R141, R174, R279, R281, R290, R292, R416, R436). A mask
that covers no field meets none of them: reserved bits refuse nothing (R464). -/
def blockMode (id value mask : Nat) (c : Chip) : Bool :=
  let i := idInst id
  let k := idItem id
  let idle := inModes [.standby, .configure] c
  let bench := c.md.mode == .bench
  if (covered id mask).isEmpty then true
  else match idBlock id with
  | 1 =>
    if id == P.tlEpochArm.id then !covers mask P.tlEpochArm || inModes [.configure, .syncing, .hold] c
    else if i == 0 && k < 3 then idle
    else true
  | 3 | 4 =>
    match toneOfId id with
    | some (_, 6) => c.md.mode == .run
    | _ => true
  | 5 => if k == 0x41 && (covered id mask).any (fun r => r.acc == .wo) then c.md.mode == .run else true
  | 7 =>
    if k == 0 then !wrote1 value mask (P.rinBenchSrc i) || bench
    else if k == 5 then sampling c
    else true
  | 8 => if k == 0 then !wrote1 value mask (P.dxeDxeRun i) || dxeMode c else true
  | 11 =>
    if id == P.lnkLeave.id then !wrote1 value mask P.lnkLeave || c.md.mode != .run
    else if id == P.lnkPair.id then idle
    else if id == P.lnkOutTestRec.id then bench
    else if decide (0x10 ≤ i ∧ i < 0x20) && k == 0 then
      !(covers mask (P.laneLoop (i - 0x10)) || covers mask (P.lanePattern (i - 0x10))) || bench
    else if decide (0x20 ≤ i ∧ i < 0x24) && k == 0 then !covers mask (P.ckLoop (i - 0x20)) || bench
    else true
  | 16 => if id == P.secBoardWrite.id then !wrote1 value mask P.secBoardWrite || bench else true
  | 17 => if id == P.thmRefcomp.id then !covers mask P.thmRefcomp || idle else true
  | _ => true

/-- The mode admits the write (R19). -/
def modeAdmits (id value mask : Nat) (c : Chip) : Bool :=
  blockMode id value mask c &&
  match c.md.mode with
  | .reset | .boot | .shutdown | .calibrate => false
  | .fallback => idBlock id == 0x12 || idBlock id == 0x10 || isDxeRun id
  | .syncing => idBlock id != 1 || id == P.tlEpochArm.id
  | .run => !(timedBlock id && writesRw id mask)
  | _ => true

/-! ### Range and layout (R464 step 6) -/

/-- LANE_BIND holds only what its KIND uses, within range (R180, R213). -/
def bindLayout (s l : Nat) (c : Chip) : Bool :=
  let p := rd (P.sqTport s l) c
  let t := rd (P.sqTtone s l) c
  let tv := rd (P.sqTValid s l) c
  let ci := rd (P.sqChInput s l) c
  let ch := rd (P.sqCh s l) c
  let cv := rd (P.sqChValid s l) c
  match rd (P.sqKind s l) c with
  | 0 => p == 0 && t == 0 && tv == 0 && ci == 0 && ch == 0 && cv == 0
  | 1 => decide (p < 40 ∧ t < 8) && tv == 0 && ci == 0 && ch == 0 && cv == 0
  | 2 => decide (p < 12 ∧ t < 24 ∧ ci < 12 ∧ ch < 24) && (tv != 0 || cv != 0)
  | _ => decide (p < 24) && t == 0 && tv == 0 && ci == 0 && ch == 0 && cv == 0

/-- A shelf descriptor (R73) and state (R74). -/
def shelfLayout (s k : Nat) (c : Chip) : Bool :=
  let len := rd (P.shelfLength s) c
  match k with
  | 0 => decide (rd (P.shelfStart s) c + len ≤ 6291456) && !(rd (P.shelfRate s) c == 0 && len % 2 == 1)
  | 2 => !(rd (P.shelfState s) c == shelfValid && len == 0)
  | _ => true

/-- The words a tone has: TONE_FREQ in force and waiting, the word it plays, and those pending in any drawer (R66). -/
def toneWords (t : Target) (now c : Chip) : List Nat :=
  let f := toneFreqF t
  rd f c :: rd f now :: (toneOf t now).fw :: now.mb.drawers.flatMap (fun d =>
    (d.2.entries.filter (fun e => e.id == f.id)).map (fun e => (rd f c - (rd f c &&& e.mask) + e.value) % 2 ^ 48))

/-- The band rules for PORT_EN/BAND and TONE_EN (R66): `c` is the chip as the write would leave it. BAND and TONE_EN beside the
write are those in force, not those that wait for HOLD to be left. -/
def bandLayout (b p k value mask : Nat) (now c : Chip) : Bool :=
  let ok (band t : Nat) : Bool := (toneWords (mkTone b p t) now c).all (bandOk band)
  match k with
  | 0 => !covers mask (P.portBand b p) ||
      (List.range (tones b)).all (fun t => !bitAt (rd (P.portToneEn b p) now) t || ok (rd (P.portBand b p) c) t)
  | 4 => (List.range (tones b)).all (fun t => !(bitAt mask t && bitAt value t) || ok (rd (P.portBand b p) now) t)
  | _ => true

/-- The tests of layout that are not those of one field alone. `c` is the chip as it would stand with the value written. -/
def layoutOk (id value mask : Nat) (now c : Chip) : Bool :=
  let i := idInst id
  let k := idItem id
  match idBlock id with
  | 2 => if decide (i < 64 ∧ 0x20 ≤ k ∧ k < 0x2C) then bindLayout i (k - 0x20) c else true
  | 3 | 4 =>
    match shelfOfId id with
    | some (s, j) => shelfLayout s j c
    | none =>
      match toneOfId id with
      | some (t, 0) => bandOk (rd (P.portBand (tgtPort t).1 (tgtPort t).2) now) (rd (toneFreqF t) c)
      | some _ => true
      | none => bandLayout (idBlock id) i k value mask now c
  | 9 =>
    if isDecEntry id then bits (value &&& mask) 18 14 == 0
    else match unitOfId id with
      | some d =>
        if decide (0x10 ≤ k ∧ k < 0x20) then
          decide (rd (P.duSrcReg d (k - 0x10)) c ≤ if on (P.duSrcRemote d (k - 0x10)) c then 255 else 287)
        else true
      | none => true
  | 12 =>
    if i == 0 && decide (0x10 ≤ k ∧ k < 0x20) then
      decide (rd (P.trgOselReg (k - 0x10)) c ≤ if on (P.trgOselRemote (k - 0x10)) c then 255 else 287)
    else true
  | 16 => if id == P.secKeyRevoke.id then !bitAt (wrote value mask P.secKeyRevoke) (rd P.secKeySlot c) else true
  | 18 =>
    if id == P.sysAuditAck.id then
      let past (f : Field) (d : Chip) : Nat := (rd f d + 2 ^ 48 - rd P.sysAuditAck now) % 2 ^ 48
      decide (past P.sysAuditAck c ≤ past P.sysAuditTotal c)
    else true
  | _ => true

/-- A field whose value a write leaves in the parameter. -/
def keepsRow (r : Row) : Bool := r.acc == .rw || r.acc == .sh

/-! ### The block's own state (R464 step 7) -/

/-- A write to a stream item that an enabled stream refuses: anything but STREAM_EN, a flag or a counter (R312). -/
def streamItem (id mask : Nat) : Bool := (covered id mask).any (fun r => r.acc == .rw && !actsRow id r)

/-- A locked channel exempts this write (R327). -/
def lockExempt (id value mask : Nat) : Bool :=
  let rs := covered id mask
  rs.all (fun r => r.acc == .w1c) ||
    (idItem id == 0 && rs.all (fun r => r.f.lo == 0) && bitAt value 0)

/-- The write would leave channel `ch` able to fire a trigger unit from a trigger unit (R325). -/
def channelLoop (ch : Nat) (c : Chip) : Bool :=
  on (P.ecChEn ch) c && decide (rd (P.ecCons ch) c < 0x10) && bits (rd (P.ecEnRow ch 3) c) 0 8 != 0

/-- The lead and the room of a scheduled action named at a GT (R51, R52). -/
def schedTests (gt lead : Nat) (c : Chip) : Option Nat :=
  if gt != 0 && decide (gt < c.tl.gt + lead) then some St.tooSoon
  else if !schedRoom c then some St.schedFull
  else none

/-- What the block's own state refuses: `c` as it stands, `c1` as it would stand with the value written. -/
def stateRefused (w : Writer) (id value mask : Nat) (c c1 : Chip) : Option Nat :=
  let i := idInst id
  let k := idItem id
  match idBlock id with
  | 3 =>
    match shelfOfId id with
    | some (s, _) => if writesRw id mask && shelfLocked s c then some St.shelfActive else none
    | none => none
  | 6 => if (biasItem id).isSome && writesRw id mask && !tjInWindow c then some St.nvTemp else none
  | 7 =>
    if k == 5 && covers mask (P.rinCalSwitchAt i) && wrote value mask (P.rinCalSwitchAt i) != 0 then
      schedTests (wrote value mask (P.rinCalSwitchAt i)) 1000 c
    else none
  | 8 =>
    if decide (0x30 ≤ k ∧ k < 0x50) && writesRw id mask && on (P.dxeDxeRun i) c then some St.engineRunning
    else if id == (P.dxeSeedSave i).id && wrote1 value mask (P.dxeSeedSave i) then
      (if !tjInWindow c then some St.nvTemp
       else match c.dx.seedSaveAt with
         | some t => if decide (c.clk < t + 10000000000) then some St.nvRate else none
         | none => none)
    else none
  | 12 =>
    if i == 0 && decide (0x10 ≤ k ∧ k < 0x20) then
      (if writesRw id mask && (List.range 8).any (fun t => (tuOf t c).state != 0) then some St.tuBusy else none)
    else if decide (0x10 ≤ i ∧ i < 0x20) then
      let n := i - 0x10
      if on (P.stStreamEn n) c then (if streamItem id mask then some St.streamBusy else none)
      else if k == 0 && wrote1 value mask (P.stStreamEn n) then streamRefused n w.ses (wr (P.stStreamEn n) 0 c1)
      else none
    else if decide (0x20 ≤ i ∧ i < 0x28) then
      let t := i - 0x20
      if k < 4 && writesRw id mask && (tuOf t c).state != 0 then some St.tuBusy
      else if k == 4 && covers mask (P.tuArmAt t) then armRefused t (wrote value mask (P.tuArmAt t)) c
      else none
    else none
  | 13 =>
    if decide (0x100 ≤ i ∧ i < 0x180) then
      let n := i - 0x100
      if writesRw id mask && (k == 0 || decide (0x10 ≤ k ∧ k < 0x14)) && channelLoop n c1 then some St.loopRefused
      else if on (P.ecLock n) c && !(covered id mask).isEmpty && !lockExempt id value mask then some St.chLocked
      else none
    else none
  | 19 => if id == P.calCalSave.id && wrote1 value mask P.calCalSave && !tjInWindow c then some St.nvTemp else none
  | _ => none

/-! ### The tests together (R464) -/

/-- Why a write of a parameter is refused, if it is (R464): `now` is the chip, and `base` the same with the writes already
pending for the value, so that range and layout are tested on what the parameter would hold. -/
def writeRefused (w : Writer) (id value mask : Nat) (base now : Chip) : Option Nat :=
  let rs := covered id mask
  let c1 := storeValue id value mask keepsRow base
  if (fieldsOf id).isEmpty then some St.noParam
  else if rs.any (fun r => r.acc == .ro || r.acc == .rc) then some St.roField
  else if rs.any (fun r => r.acc == .sh) && rs.any (fun r => r.acc != .sh) then some St.badValue
  else if !modeAdmits id value mask now then some St.modeRefused
  else if writesSh id mask && inAdapt id now then some St.modeConflict
  else if rs.any (fun r => keepsRow r && !r.ok (if isDecEntry id then 0 else rd r.f c1)) then some St.badValue
  else if !rs.isEmpty && !layoutOk id value mask now c1 then some St.badValue
  else stateRefused w id value mask now c1

/-- The chip with every write that HOLD keeps stored: what a value is tested on (R19, R464). -/
def heldBase (c : Chip) : Chip := tryStore (c.mb.held.map (fun h => (h.id, h.value, h.mask))) c

/-! ### What a write does (R10, R11, R379) -/

/-- Clear the W1C bits that a write covers with 1; a bit that hardware sets in this tick stays set (R10). -/
def clearW1c (id value mask : Nat) (c : Chip) : Chip :=
  (covered id mask).foldl (fun c r =>
    if r.acc == .w1c && !c.now.set.contains r.f.key then
      wr r.f (rd r.f c - (rd r.f c &&& wrote value mask r.f)) c
    else c) c

/-- Set the W1S bits that a write covers with 1 (R10). -/
def setW1s (id value mask : Nat) (c : Chip) : Chip :=
  (covered id mask).foldl (fun c r => if r.acc == .w1s then wr r.f (rd r.f c ||| wrote value mask r.f) c else c) c

/-- A reserved bit written as 1 is counted (R11). -/
def countReserved (id value mask : Nat) (c : Chip) : Chip :=
  let m := value &&& mask
  if m - (m &&& fieldBits id (fun _ => true)) != 0 then count P.sysRsvdWriteCount c else c

/-- A board record is read from host memory (R416). -/
def boardWrite (b : Option BoardRec) (c : Chip) : Chip :=
  let c1 := emit (.hostRead 0 (rd P.secBoardAddr c) 148) c
  match b with
  | none => wr P.secBoardStatus 4 c1
  | some r =>
    if r.linkOk && r.fluxOk then nvRequest (.board r) 1 none false true (wr P.secBoardStatus 1 c1)
    else wr P.secBoardStatus 3 c1

/-- A write of CAL_SWITCH_AT (R130): GT 0 switches at the next tick, the first after the write completes. -/
def calSwitchWrite (r gt : Nat) (i : Option Issuer) (c : Chip) : Chip :=
  if gt == 0 then setEst r { estOf r c with soonAt := some (c.clk + 1) } c else schedule (.calSwitch r) gt false i c

/-- A write of a jump item: STOP wins over JUMP_SHELF (R82, R83). -/
def jumpWrite (t : Target) (shelfF stopF : Field) (value mask : Nat) (c : Chip) : Chip :=
  if wrote1 value mask stopF then jumpRequest t none c
  else if covers mask shelfF then jumpRequest t (some (wrote value mask shelfF)) c
  else c

/-- The level that BENCH_MARK gives a pin: low, high, the toggle, or an event pulse under way where MARK_SRC selects events (R28). -/
def benchMarkLevel (pin : Nat) (c : Chip) : Bool :=
  match rd P.sysBenchMark c with
  | 0 => false
  | 1 => true
  | 2 => c.syn.benchHigh
  | _ => markSrcNow pin c && (Tab.find c.ev.pulses pin).isSome

/-- The MARK pins follow BENCH_MARK (R28). -/
def benchMarks (c : Chip) : Chip := (List.range 8).foldl (fun c k => drivePin k (benchMarkLevel k c) c.tl.gt c) c

/-- What an accepted write does beside storing its RW fields, for the blocks whose fields act. -/
def sideEffects (w : Writer) (id value mask : Nat) (c : Chip) : Chip :=
  let i := idInst id
  let k := idItem id
  match idBlock id with
  | 1 => if id == P.tlEpochArm.id && wrote1 value mask P.tlEpochArm then wr P.tlEpochArmed 1 c else c
  | 3 | 4 =>
    match toneOfId id with
    | some (t, 6) =>
      let (b, p) := tgtPort t
      jumpWrite t (P.toneJumpShelf b p (tgtTone t)) (P.toneStop b p (tgtTone t)) value mask c
    | _ => c
  | 5 => if k == 0x41 then jumpWrite (.flx (Fin.ofNat 24 i)) (P.flxJumpShelf i) (P.flxStop i) value mask c else c
  | 6 =>
    match biasItem id with
    | some (o, fault) => if writesRw id mask then biasRequest o fault value mask w.who w.save c else c
    | none => c
  | 7 => if k == 5 && covers mask (P.rinCalSwitchAt i) then calSwitchWrite i (wrote value mask (P.rinCalSwitchAt i)) w.sched c else c
  | 8 =>
    if k == 1 && covers mask (P.dxeDxeMsg i) then dxeMessage i (wrote value mask (P.dxeDxeMsg i)) c
    else if id == (P.dxeSeedSave i).id && wrote1 value mask (P.dxeSeedSave i) then seedSaveAsk w.save c
    else c
  | 11 =>
    if id == P.lnkJoin.id then
      let c1 := if wrote1 value mask P.lnkJoin then joinWrite c else c
      if wrote1 value mask P.lnkLeave then leaveWrite c1 else c1
    else if id == P.lnkPair.id then pairWritten c
    else if id == P.lnkOutTestRec.id then (if covers mask P.lnkOutTestRec then outTestRec (wrote value mask P.lnkOutTestRec) c else c)
    else if decide (1 ≤ i ∧ i < 5) && k == 0 then
      let c1 := if covers mask (P.lgLgEn (i - 1)) then linksRefresh true c else c
      if wrote1 value mask (P.lgSwitchNow (i - 1)) then switchPair (i - 1) true false c1 else c1
    else if decide (0x10 ≤ i ∧ i < 0x24) && k == 0 && writesRw id mask then linksRefresh true c
    else c
  | 12 =>
    if decide (0x10 ≤ i ∧ i < 0x20) && k == 0 && covers mask (P.stStreamEn (i - 0x10)) then
      streamWriteEn (i - 0x10) (wrote1 value mask (P.stStreamEn (i - 0x10))) w.fn (w.ses.getD 0) c
    else if decide (0x20 ≤ i ∧ i < 0x28) && k == 4 && covers mask (P.tuArmAt (i - 0x20)) then
      armWrite (i - 0x20) (wrote value mask (P.tuArmAt (i - 0x20))) w.sched c
    else if decide (0x20 ≤ i ∧ i < 0x28) && k == 5 && wrote1 value mask (P.tuDisarm (i - 0x20)) then disarmWrite (i - 0x20) c
    else c
  | 13 => if i == 0 && k == 0 then swFire (wrote value mask P.evmSwFire) c else c
  | 14 =>
    if decide (0x100 ≤ i ∧ i < 0x140) && k == 3 then
      let c1 := if wrote1 value mask (P.dchChResume (i - 0x100)) then chanResume (i - 0x100) c else c
      if wrote1 value mask (P.dchChAbort (i - 0x100)) then chanAbort (i - 0x100) c1 else c1
    else c
  | 16 =>
    if id == P.secSvnAdvance.id then
      let c1 := if wrote1 value mask P.secSvnAdvance then
          let v := max c.nv.svnMin (rd P.secLlynSvn c)
          wr P.secSvnMin v { c with nv := { c.nv with svnMin := v } }
        else c
      let v := c1.nv.keyRevoked ||| wrote value mask P.secKeyRevoke
      wr P.secKeyRevoked v { c1 with nv := { c1.nv with keyRevoked := v } }
    else if id == P.secBoardWrite.id && wrote1 value mask P.secBoardWrite then boardWrite w.board c
    else c
  | 17 =>
    if id == P.thmRefcomp.id && covers mask P.thmRefcomp then
      let c1 := wr W.refcompOn (wrote value mask P.thmRefcomp) c
      if on W.refcompOn c1 then c1 else { c1 with th := { c1.th with factor := 0, nextFactor := none, factorDue := none } }
    else c
  | 18 => if id == P.sysBenchMark.id && covers mask P.sysBenchMark && c.md.mode == .bench then benchMarks c else c
  | 19 => if id == P.calCalSave.id && wrote1 value mask P.calCalSave then calSaveAsk w.save false c else c
  | _ => c

/-- The mask as a write uses it: NODE_AUTH cannot be cleared under MESH_ROOT (R275). -/
def usedMask (id value mask : Nat) (c : Chip) : Nat :=
  if id == P.lnkNodeAuth.id && rd P.tlTlSource c == 1 && !bitAt value 0 && bitAt mask 0 then mask - 1 else mask

/-- Keep MARK_SRC for the rest of the tick, before a write to it (R324). -/
def keepMark (id : Nat) (c : Chip) : Chip :=
  if idBlock id == 13 && decide (0x210 ≤ idInst id ∧ idInst id < 0x218) && idItem id == 1 then keepSrc (idInst id - 0x210) c else c

/-- The write is logged: it covers more than W1C fields, and is not one of AUDIT_ACK (R389). -/
def logged (id mask : Nat) : Bool := id != P.sysAuditAck.id && (covered id mask).any (fun r => r.acc != .w1c)

/-- A write of a bias record parameter is logged when the Cabinet has it (R111, R389). -/
def loggedNow (id mask : Nat) : Bool := logged id mask && (biasItem id).isNone

/-- The WO bits a write puts in: the audit entry's NEW holds them (R390). -/
def woBits (id value mask : Nat) : Nat := value &&& mask &&& fieldBits id (fun r => r.acc == .wo)

/-- A write of non-SH fields takes effect now, with its audit entry (R379, R389). -/
def writeNow (w : Writer) (id value mask : Nat) (c : Chip) : Chip :=
  let m := usedMask id value mask c
  let old := storedValue id c
  let c1 := setW1s id value m (clearW1c id value m (storeValue id value m (storesRow id) (keepMark id (keepFor id c))))
  let c2 := sideEffects w id value m (afterWrite id value m c1)
  if loggedNow id mask then auditBits w.who false false id old (storedValue id c2 + woBits id value m) c2 else c2

/-- A write of non-SH fields: in HOLD, RW fields of a timed-path block wait until HOLD is left, but for the bias record's (R19,
R111, R379). -/
def writeDirect (w : Writer) (id value mask : Nat) (c : Chip) : Chip :=
  let rwm := mask &&& fieldBits id (fun r => r.acc == .rw)
  if c.md.mode == .hold && timedBlock id && rwm != 0 && (biasItem id).isNone then
    let c1 := { c with mb := { c.mb with held := c.mb.held ++
      [{ id := id, value := value, mask := rwm, who := w.who, commit := false, txc := false }] } }
    if mask - rwm == 0 then c1 else writeNow w id value (mask - rwm) c1
  else writeNow w id value mask c

/-! ### One write of a session (R379, R384–R386) -/

/-- The write enters a drawer of the session, or commits at once through a drawer of its own (0xFFFF). -/
def writeSh (w : Writer) (id value mask drawer : Nat) (c : Chip) : Nat × Chip :=
  let m := mask &&& fieldBits id (fun _ => true)
  if drawer == 0xFFFF then
    match writeRefused w id value mask (heldBase c) c with
    | some st => (st, c)
    | none =>
      let e : Entry := { id := id, value := value &&& m, mask := m }
      let st := commitStatus [e] c
      if st == St.ok then (St.ok, commitEntries w.who false [e] (countReserved id value mask c)) else (st, c)
  else match Tab.find c.mb.drawers drawer with
    | none => (St.noDrawer, c)
    | some d =>
      if some d.owner != w.ses then (St.notPermitted, c)
      else
        let base := tryStore ((d.entries.filter (fun e => e.id == id)).map (fun e => (e.id, e.value, e.mask))) (heldBase c)
        match writeRefused w id value mask base c with
        | some st => (st, c)
        | none =>
          if decide (4096 ≤ d.entries.length) && !d.entries.any (fun e => e.id == id) then (St.drawerFull, c)
          else (St.ok, countReserved id value mask
            { c with mb := { c.mb with drawers := Tab.ins c.mb.drawers drawer { d with entries := mergeEntry id value m d.entries } } })

/-- One write of a parameter by a session: its status, and the chip after it (R379, R464). DESIGN CHOICE (log): the drawer counts
as named, and is tested, only where the mask covers SH fields alone; a parameter that does not exist has none, so that NO_PARAM
comes before NO_DRAWER. -/
def writeParam (w : Writer) (id value mask drawer : Nat) (c : Chip) : Nat × Chip :=
  let rs := covered id mask
  if id == P.sysVfWriteEn.id && w.fn != 0 then (St.notPermitted, c)
  else if rs.any (fun r => r.acc == .sh) && rs.all (fun r => r.acc == .sh) then writeSh w id value mask drawer c
  else match writeRefused w id value mask (heldBase c) c with
    | some st => (st, if st == St.loopRefused then count P.evmLoopRefusedCount c else c)
    | none => (St.ok, writeDirect w id value mask (countReserved id value mask c))

/-- The write schedules an action under R51, and so brings two responses (R374): ARM_AT, and CAL_SWITCH_AT at a GT. -/
def writeSchedules (id value mask : Nat) : Bool :=
  (idBlock id == 12 && decide (0x20 ≤ idInst id ∧ idInst id < 0x28) && idItem id == 4 && covers mask (P.tuArmAt (idInst id - 0x20))) ||
  (idBlock id == 7 && idItem id == 5 && wrote value mask (P.rinCalSwitchAt (idInst id)) != 0)

/-- The write completes with a Cabinet write (R111, R140, R172). -/
def writeSaves (id value mask : Nat) : Bool :=
  ((biasItem id).isSome && writesRw id mask) ||
  (id == P.calCalSave.id && wrote1 value mask P.calCalSave) ||
  (idBlock id == 8 && id == (P.dxeSeedSave (idInst id)).id && wrote1 value mask (P.dxeSeedSave (idInst id)))

end Sys2Proof.Machine
end

