-- ==== Sys2Proof/Machine/Image.lean ====
section
/-!
DEFINITION. The configuration image (R394–R397): what it holds, saving it and loading it.
-/

namespace Sys2Proof.Machine

/-! ### What an image holds (R395) -/

/-- Parameters of which an image holds no field: AUDIT_ACK, the bias record, the decision entries and the shelf directory. -/
def neverSaved (id : Nat) : Bool :=
  id == P.sysAuditAck.id || (biasItem id).isSome || isDecEntry id || (shelfOfId id).isSome

/-- LOOP and PATTERN. -/
def isLoopPattern (r : Row) : Bool :=
  idBlock r.f.id == 11 && decide (0x10 ≤ idInst r.f.id ∧ idInst r.f.id < 0x24) && idItem r.f.id == 0 && decide (2 ≤ r.f.lo)

/-- A field that an image may hold. -/
def savedRow (r : Row) : Bool := keepsRow r && !neverSaved r.f.id && !isLoopPattern r

/-- The fields of a parameter that an image may hold. -/
def savedRows (id : Nat) : List Row := (fieldsOf id).filter savedRow

/-- The fields whose reset value the Cabinet gives (R61, R101, R107): each with that value. -/
def cabinetResets (c : Chip) : List (Field × Nat) :=
  (List.range 32).flatMap (fun o => [(P.biaBiaCode o, rd (P.biaPuCode o) c), (P.biaBiaSpan o, rd (P.biaPuSpan o) c)]) ++
  (List.range 24).map (fun k => (P.flxFlxOffset k, match c.nv.board with
    | some b => if b.fluxOk then (b.flux.getD k 0).toNat else 0
    | none => 0)) ++
  (List.range 4).map (fun g => (P.tlgLinkAsym g, match c.nv.board with
    | some b => if b.linkOk then (b.asym.getD g 0).toNat % 1024 else 0
    | none => 0))

/-- A field's reset value. -/
def resetVal (f : Field) (c : Chip) : Nat :=
  match (cabinetResets c).find? (fun p => p.1.key == f.key) with
  | some p => p.2
  | none => f.rst

/-- The value of the fields of a parameter that an image holds. -/
def savedValue (id : Nat) (c : Chip) : Nat := (savedRows id).foldl (fun n r => n + rd r.f c * 2 ^ r.f.lo) 0

/-- The parameters of which some such field differs from its reset value: the candidates are those that some field of the
table of fields lists, and those whose reset value the Cabinet gives. -/
def changedIds (c : Chip) : List Nat :=
  let ids := (c.regs.map (fun (p : Nat × Nat) => p.1 / 64)) ++ ((cabinetResets c).map (fun (p : Field × Nat) => p.1.id))
  (List.insertionSort (fun a b => a ≤ b) ids.dedup).filter (fun id => (savedRows id).any (fun r => rd r.f c != resetVal r.f c))

/-- A member of each group that may stand in ADAPT, by the group's key (R381). -/
def adaptMember (key : Nat) : Nat :=
  let i := key % 4096
  match key / 2 ^ 16 with
  | 1 => pid 4 i 0x100
  | 2 => pid 5 i 0x4
  | 5 => pid 7 i 0x100
  | _ => pid 8 i 0x800

/-- The records of the image that a save in this tick writes (R395). -/
def imageRecs (c : Chip) : List CfgRec :=
  (changedIds c).map (fun id => { id := BitVec.ofNat 32 id, rkind := 0, value := BitVec.ofNat 64 (savedValue id c) }) ++
  c.mb.adapt.map (fun k => { id := BitVec.ofNat 32 (adaptMember k), rkind := 1, value := 1 })

/-! ### Loading (R397) -/

/-- Every field an image may hold takes its reset value. -/
def resetSaved (c : Chip) : Chip :=
  let saved (key : Nat) : Bool := (savedRows (key / 64)).any (fun r => r.f.key == key)
  let c1 := { c with regs := c.regs.filter (fun p => !saved p.1), mb := { c.mb with adapt := [] } }
  (cabinetResets c).foldl (fun c p => wr p.1 p.2 c) c1

/-- A record writes these bits. -/
def recMask (r : CfgRec) : Nat := (savedRows r.id.toNat).foldl (fun n x => n + (2 ^ x.f.w - 1) * 2 ^ x.f.lo) 0

/-- The firmware as a writer. -/
def firmware (cause : Nat) : Writer :=
  { who := (Origin.firmware cause).bits, ses := none, fn := 0, save := none, sched := none, board := none }

/-- Why a record cannot be applied, tested as a write in STANDBY against the values the image leaves (R397). -/
def recRefused (final now : Chip) (r : CfgRec) : Bool :=
  let id := r.id.toNat
  match r.rkind.toNat with
  | 0 => (fieldsOf id).isEmpty || (writeRefused (firmware 1) id r.value.toNat (recMask r) final now).isSome
  | 1 => match groupOfId id with
    | some g => bitAt r.value.toNat 0 && !mayAdapt g
    | none => true
  | _ => true

/-- Every record stored. -/
def storeRecs (recs : List CfgRec) (c : Chip) : Chip :=
  recs.foldl (fun c r => if r.rkind == 0 then storeValue r.id.toNat r.value.toNat (recMask r) keepsRow c else c) c

/-- The groups that the records place in ADAPT. -/
def recAdapt (recs : List CfgRec) : List Nat :=
  (recs.filterMap (fun r => if r.rkind == 1 && bitAt r.value.toNat 0 then (groupOfId r.id.toNat).map groupKey else none)).dedup

/-- An output whose value in force a load changes follows it (R104). -/
def biasFollow (old c : Chip) : Chip :=
  (List.range 32).foldl (fun c o =>
    if (rd (P.biaBiaCode o) old != rd (P.biaBiaCode o) c || rd (P.biaBiaSpan o) old != rd (P.biaBiaSpan o) c) &&
        !on (P.biaFaultDrive o) c then biasInForce o c else c) c

/-- One audit entry for each parameter whose value has changed (R389). -/
def auditChanges (cause : Nat) (old c : Chip) : Chip :=
  let ids := (old.regs.map (fun (p : Nat × Nat) => p.1 / 64)) ++ (c.regs.map (fun (p : Nat × Nat) => p.1 / 64))
  (List.insertionSort (fun a b => a ≤ b) ids.dedup).foldl (fun c id =>
    let a := savedValue id old
    let b := savedValue id c
    if a != b then audit (.firmware cause) false false id (storedValue id old) (storedValue id c) c else c) c

/-- What the rest of this tick must still see as it stood in `old`: the event channels and the sources of the MARK pins (R319,
R324). -/
def keepAll (old c : Chip) : Chip :=
  let k := (List.range 8).foldl (fun d p => keepSrc p d) ((List.range 128).foldl (fun d ch => keepChan ch d) old)
  { c with ev := k.ev }

/-- Load an image (R397): every parameter it may hold takes its reset value, then every record is applied, in one tick; none if
a record would be refused. -/
def applyImage (recs : List CfgRec) (c : Chip) : Option Chip :=
  let stored := storeRecs recs (resetSaved c)
  let words := restoreRx (restoreWords (keepAll c stored))
  let now := { c with md := { c.md with mode := .standby }, syn := words.syn, mb := { c.mb with adapt := [] } }
  if recs.any (recRefused stored now) || boundTwice stored || (List.range 64).any (fun d => !baseOk d stored || !sourcesOk d stored) then none
  else
    let c1 := adaptTo (recAdapt recs) words
    some (auditChanges 1 c (linksRefresh true (pairWritten (biasFollow c c1))))

/-- What a load that has succeeded leaves in its fields (R20, R398, R409). -/
def imageLoaded (check n : Nat) (c : Chip) : Chip :=
  wr P.sysCfgLoaded 1 (wr P.sysCfgRecords n
    { c with md := { c.md with cfgPassed := true }, nv := { c.nv with cfgCheck := check } })

/-- The image in the Cabinet. -/
def cabinetImage (c : Chip) : Option (Nat × List CfgRec) :=
  match c.nv.recs.find? (fun r => r.1 == .config) with
  | some (_, { data := .config check recs, .. }) => some (check, recs)
  | _ => none

/-- The image a host read returns, if its header, length and check word pass (R394, R397). -/
def hostImage (img : CfgImage) : Option (Nat × List CfgRec) :=
  if img.headerOk && img.lengthOk && img.checkOk then some (img.check.toNat, img.recs) else none

end Sys2Proof.Machine
end

