-- ==== Sys2Proof/Machine/Mailbox.lean ====
section
/-!
DEFINITION. The mailbox (R369–R388, R391, R396, R397, R408): how a command is taken, sessions, rings, DMA channels, parameters,
drawers, groups, snapshots, the configuration image and attestation.
-/

namespace Sys2Proof.Machine

/-! ### Taking a command (R370, R372–R374) -/

/-- Responses promised to a mailbox for actions that have not ended (R374). -/
def promised (m : Mbox) (c : Chip) : Nat :=
  let mine (i : Issuer) : Bool := i.mb == m
  (c.tl.sched.filter (fun e => e.issuer.any mine)).length + (c.tl.snaps.map (fun s => (s.issuers.filter mine).length)).sum +
    (if c.md.transIssuer.any mine then 1 else 0)

/-- A command of the mailbox is still being carried out: it waits for a Cabinet write or a PEEK (R256, R374, R396). -/
def mboxBusy (m : Mbox) (c : Chip) : Bool :=
  let mine (i : Issuer) : Bool := i.mb == m
  c.nv.biasIssuers.any mine || c.nv.queue.any (fun q => q.issuers.any mine) || c.mc.micro.any (fun e => e.2.peek.any (fun p => mine p.1))

/-- Session of a mailbox. -/
def sesOf (m : Mbox) : Option Nat :=
  match m with
  | .boot _ => none
  | .ses n => some n.val

/-- A bootstrap mailbox takes only SESSION_OPEN, SESSION_CLOSE and INFO, and only it takes SESSION_OPEN (R370). -/
def mboxTakes (m : Mbox) (op : Nat) : Bool :=
  match m with
  | .boot _ => op == 1 || op == 2 || op == 3
  | .ses _ => op != 1

/-- The session has the right to issue write commands (R372). -/
def mayWrite (m : Mbox) (c : Chip) : Bool :=
  let f := mboxFn m c
  f == 0 || bitAt (rd P.sysVfWriteEn c) (f - 1)

/-- A refusal, or the one response of a command that is done (R374). -/
def answer (i : Issuer) (status : Nat) (res : List Nat) (c : Chip) : Chip := respond i status true false res c

/-- The first response of a command that schedules an action (R374). -/
def accepted (i : Issuer) (res : List Nat) (c : Chip) : Chip := respond i St.ok false true res c

/-- Take the command at the front of a mailbox's CMD ring and carry it out (R370, R372–R374): Llynlek runs, both rings run, the
RSP ring has room for the `n` responses it can produce, and the mailbox's last command has ended. -/
def take (h : Cmd) (op n : Nat) (write : Bool) (f : Issuer → Chip → Chip) (c : Chip) : Chip :=
  if inModes [.reset, .boot, .shutdown] c then c
  else match mboxRings h.mb c with
    | none => c
    | some (cr, rr) =>
      if (ringOf cr c).run && decide (0 < ringUsed (ringOf cr c)) && (ringOf rr c).run &&
          decide (promised h.mb c + n ≤ ringRoom (ringOf rr c)) && !mboxBusy h.mb c then
        let i : Issuer := { mb := h.mb, ctag := h.ctag.toNat, opcode := op, acceptGt := c.tl.gt, res := [] }
        let c1 := ringConsume cr 1 c
        if h.rsvd then answer i St.badValue [] c1
        else if !mboxTakes h.mb op || (write && !mayWrite h.mb c) then answer i St.notPermitted [] c1
        else f i c1
      else c

/-! ### Choices that Llynlek makes -/

/-- One of a list of free resources: which one is not given (R370, R375). -/
def pickFree (l : List Nat) (c : Chip) : Option (Nat × Chip) :=
  if l.isEmpty then none
  else some (l.getD (Config.freeNat c.free % l.length) 0, { c with free := c.free + 1 })

/-- The FREE rings that sessions may be given: all but the bootstrap rings (R369). -/
def freeRings (c : Chip) : List Nat := ((List.range 16256).map (· + 128)).filter (fun r => (ringOf r c).ty == 0)

/-- Give a ring its type, function and session. -/
def giveRing (r ty fn ses : Nat) (c : Chip) : Chip := setRing r { Ring.reset with ty := ty, fn := fn, ses := ses } c

/-! ### Sessions (R370, R371, R375) -/

/-- SESSION_OPEN (R370). -/
def sessionOpen (i : Issuer) (c : Chip) : Chip :=
  let fn := mboxFn i.mb c
  match pickFree ((List.range 1024).filter (fun n => (Tab.find c.mb.sessions n).isNone)) c with
  | none => answer i St.noSession [] c
  | some (n, c1) =>
    match pickFree (freeRings c) c1 with
    | none => answer i St.noRing [] c
    | some (cr, c2) =>
      match pickFree ((freeRings c).filter (· != cr)) c2 with
      | none => answer i St.noRing [] c
      | some (rr, c3) =>
        let c4 := giveRing rr 2 fn n (giveRing cr 1 fn n c3)
        answer i St.ok [n, cr, rr]
          { c4 with mb := { c4.mb with sessions := Tab.ins c4.mb.sessions n { fn := fn, cmdRing := cr, rspRing := rr } } }

/-- SESSION_CLOSE (R371): on the session's own mailbox, or on its function's bootstrap mailbox by number. -/
def sessionClose (n : Nat) (i : Issuer) (c : Chip) : Chip :=
  match i.mb with
  | .ses k => closeSession k.val (answer i St.ok [] c)
  | .boot f =>
    match Tab.find c.mb.sessions n with
    | some s => if s.fn == f.val then answer i St.ok [] (closeSession n c) else answer i St.notPermitted [] c
    | none => answer i St.badValue [] c

/-- INFO (R375). -/
def info (i : Issuer) (c : Chip) : Chip :=
  answer i St.ok [Config.deviceSerial % 2 ^ 32 + rd P.mcBaseVer c * 2 ^ 32, rd P.secLlynVer c, modeCode c.md.mode] c

/-! ### Rings and channels (R375, R376) -/

/-- The session holds the ring. -/
def holdsRing (n r : Nat) (c : Chip) : Bool := let x := ringOf r c; decide (128 ≤ r) && x.ty != 0 && x.ses == n

/-- RING_ALLOC (R375). -/
def ringAlloc (n ty : Nat) (i : Issuer) (c : Chip) : Chip :=
  if !(ty == 4 || ty == 5 || ty == 6) then answer i St.badValue [] c
  else match pickFree (freeRings c) c with
    | none => answer i St.noRing [] c
    | some (r, c1) => answer i St.ok [r] (giveRing r ty (mboxFn i.mb c) n c1)

/-- A ring in use (R376): of an enabled stream, of a receiving bulk channel, of a DMA channel; and a mailbox's own. -/
def ringBusy (n r : Nat) (c : Chip) : Bool :=
  (List.range 16).any (fun k => on (P.stStreamEn k) c && rd (P.stRing k) c == r) ||
  (List.range 256).any (fun k => on (P.rxRxEn (k / 64) (k % 64)) c && rd (P.rxRxRing (k / 64) (k % 64)) c == r) ||
  (List.range 64).any (fun k => on (P.dchChAssigned k) c && (chanOf k c).ses == n &&
    (rd (P.dchSubRing k) c == r || rd (P.dchComplRing k) c == r)) ||
  (match Tab.find c.mb.sessions n with
   | some s => s.cmdRing == r || s.rspRing == r
   | none => false)

/-- RING_FREE (R376). -/
def ringFree (n r : Nat) (i : Issuer) (c : Chip) : Chip :=
  if !holdsRing n r c then answer i St.badValue [] c
  else if ringBusy n r c then answer i St.busy [] c
  else answer i St.ok [] (freeRing r c)

/-- DMA_ALLOC (R376): a channel, a submission ring, and the completion ring named or a new one. -/
def dmaAlloc (n ring : Nat) (i : Issuer) (c : Chip) : Chip :=
  let fn := mboxFn i.mb c
  if ring != 0 && !(holdsRing n ring c && (ringOf ring c).ty == 4) then answer i St.badValue [] c
  else match pickFree ((List.range 64).filter (fun k => !on (P.dchChAssigned k) c)) c with
    | none => answer i St.noChannel [] c
    | some (k, c1) =>
      match pickFree (freeRings c) c1 with
      | none => answer i St.noRing [] c
      | some (sr, c2) =>
        let give (cr : Nat) (c : Chip) : Chip :=
          answer i St.ok [k, sr, cr] (wr (P.dchComplRing k) cr (wr (P.dchSubRing k) sr (wr (P.dchChAssigned k) 1
            (setChan k { Chan.reset with ses := n } (giveRing sr 3 fn n c)))))
        if ring != 0 then give ring c2
        else match pickFree ((freeRings c).filter (· != sr)) c2 with
          | none => answer i St.noRing [] c
          | some (cr, c3) => give cr (giveRing cr 4 fn n c3)

/-- DMA_FREE (R376). -/
def dmaFree (n k : Nat) (i : Issuer) (c : Chip) : Chip :=
  if !(on (P.dchChAssigned k) c && (chanOf k c).ses == n) then answer i St.badValue [] c
  else if inFlight (chanOf k c) != 0 then answer i St.busy [] c
  else answer i St.ok [] (chanAbandon k c)

/-! ### Parameters (R378–R380) -/

/-- The writer that a command's session is. -/
def writerOf (i : Issuer) (sched board : Bool) (b : Option BoardRec) (c : Chip) : Writer :=
  { who := (mboxOrigin i.mb).bits, ses := sesOf i.mb, fn := mboxFn i.mb c, save := some i, sched := if sched then some i else none,
    board := if board then b else none }

/-- PARAM_SET (R379), with the board record that a write of BOARD_WRITE reads. -/
def paramSet (id value mask drawer : Nat) (b : Option BoardRec) (i : Issuer) (c : Chip) : Chip :=
  let r := writeParam (writerOf i true true b c) id value mask drawer c
  if r.1 != St.ok then answer i r.1 [] r.2
  else if writeSaves id value mask then r.2
  else if writeSchedules id value mask then accepted i [] r.2
  else answer i St.ok [] r.2

/-- PARAM_SET as a session's mailbox takes it. -/
def setCmd (h : Cmd) (id value mask drawer : Nat) (b : Option BoardRec) (c : Chip) : Chip :=
  take h 0x21 (if writeSchedules id value mask then 2 else 1) true (paramSet id value mask drawer b) c

/-- The names of a drawer that a command gives: it exists, and the session owns it (R385). -/
def drawerStatus (d : Nat) (m : Mbox) (c : Chip) : Nat :=
  match Tab.find c.mb.drawers d with
  | none => St.noDrawer
  | some x => if some x.owner == sesOf m then St.ok else St.notPermitted

/-- PARAM_GET (R256, R378). -/
def paramGet (id drawer : Nat) (i : Issuer) (c : Chip) : Chip :=
  if drawer != 0 then
    let st := drawerStatus drawer i.mb c
    if st != St.ok then answer i st [] c
    else if (fieldsOf id).isEmpty then answer i St.noParam [] c
    else match (Tab.find c.mb.drawers drawer).bind (fun d => d.entries.find? (fun e => e.id == id)) with
      | some e => answer i St.ok [e.value, e.mask] c
      | none => answer i St.ok [0, 0] c
  else if (fieldsOf id).isEmpty then answer i St.noParam [] c
  else match peekNeeded id c with
    | some e => setMicro e { microOf e c with peek := (microOf e c).peek ++ [(i, idItem id)] } c
    | none => let r := readParam id c; answer i St.ok [r.1, 0] r.2

/-- The records of a PARAM_LIST one after another; the first refusal ends it, with its index. -/
def listWrites (w : Writer) (drawer : Nat) : (k : Nat) → List WriteRec → Chip → Option (Nat × Nat) × Chip
  | _, [], c => (none, c)
  | k, r :: rs, c =>
    let o := if r.gap == 0 then writeParam w r.id.toNat r.value.toNat r.mask.toNat drawer c else (St.badValue, c)
    if o.1 == St.ok then listWrites w drawer (k + 1) rs o.2 else (some (o.1, k), c)

/-- PARAM_LIST (R380): all of the records in one tick, or none. A failed host read is refused with BAD_VALUE. -/
def paramList (n drawer : Nat) (recs : Option (List WriteRec)) (i : Issuer) (c : Chip) : Chip :=
  match recs with
  | none => answer i St.badValue [] c
  | some rs =>
    if n == 0 || decide (4096 < n) || rs.length != n then answer i St.badValue [] c
    else
      let i1 := { i with res := [n, 0] }
      match listWrites (writerOf i1 false false none c) drawer 0 rs c with
      | (some (st, k), _) =>
        answer i st [0, k] (if st == St.loopRefused then count P.evmLoopRefusedCount c else c)
      | (none, c1) =>
        if rs.any (fun r => writeSaves r.id.toNat r.value.toNat r.mask.toNat) then c1 else answer i St.ok [n, 0] c1

/-! ### Drawers and groups (R382–R388) -/

/-- DRAWER_OPEN (R385). -/
def drawerOpen (d : Nat) (i : Issuer) (c : Chip) : Chip :=
  match sesOf i.mb with
  | none => answer i St.notPermitted [] c
  | some n =>
    if d == 0 || d == 0xFFFF then answer i St.badValue [] c
    else if (Tab.find c.mb.drawers d).isSome then answer i St.busy [] c
    else if decide (64 ≤ c.mb.drawers.length) then answer i St.drawerLimit [] c
    else answer i St.ok [] { c with mb := { c.mb with drawers := Tab.ins c.mb.drawers d { owner := n, entries := [] } } }

/-- DRAWER_CLOSE (R388). -/
def drawerClose (d : Nat) (i : Issuer) (c : Chip) : Chip :=
  let st := drawerStatus d i.mb c
  if st != St.ok then answer i st [] c
  else
    let n := match Tab.find c.mb.drawers d with
      | some x => x.entries.length
      | none => 0
    answer i St.ok [n] (dropDrawer d (some St.cancelled) c)

/-- The GT a command's GT argument names: 0 is the tick after acceptance (R382, R387). -/
def namedGt (gt : Nat) (c : Chip) : Nat := if gt == 0 then c.tl.gt + 1 else gt

/-- TXN_COMMIT (R387). -/
def txnCommit (d gt : Nat) (i : Issuer) (c : Chip) : Chip :=
  let st := drawerStatus d i.mb c
  if st != St.ok then answer i st [] c
  else match schedTests gt 1000 c with
    | some st => answer i st [] c
    | none => accepted i [] (schedule (.drawer d) (namedGt gt c) (gt == 0) (some i) c)

/-- GROUP_MODE (R381–R383): 0 COMMIT, 1 ADAPT, 2 query. -/
def groupMode (id want gt : Nat) (i : Issuer) (c : Chip) : Chip :=
  match groupOfId id with
  | none => answer i St.noParam [] c
  | some g =>
    let mode := b2n (inAdapt id c)
    if want == 3 then answer i St.badValue [mode] c
    else if want == 2 || want == mode then answer i St.ok [mode] c
    else if gt != 0 && decide (gt < c.tl.gt + 1000) then answer i St.tooSoon [mode] c
    else if want == 1 && !mayAdapt g then answer i St.badValue [mode] c
    else if want == 1 && drawerHolds g c then answer i St.modeConflict [mode] c
    else if !schedRoom c then answer i St.schedFull [mode] c
    else accepted i [mode] (schedule (.group id (want == 1)) (namedGt gt c) (gt == 0) (some i) c)

/-! ### Snapshots (R55–R57) -/

/-- The payload of a SNAPSHOT frame (R272). -/
def snapWords (gt id node : Nat) : List Nat := [gt, id % 2 ^ 16 + node % 64 * 2 ^ 16]

/-- SNAPSHOT_AT (R55–R57). -/
def snapshotAt (gt : Nat) (mesh : Bool) (id : Nat) (i : Issuer) (c : Chip) : Chip :=
  if mesh && !vouched c then answer i St.notAligned [] c
  else if decide (gt < c.tl.gt + if mesh then 20000 else 1000) then answer i St.tooSoon [] c
  else match c.tl.snaps.find? (fun s => s.gt == gt) with
    | some s =>
      let c1 := { c with tl := { c.tl with snaps := c.tl.snaps.map (fun x =>
        if x.gt == gt then { x with issuers := x.issuers ++ [i] } else x) } }
      accepted i [s.id] c1
    | none =>
      if c.tl.snaps.any (fun s => decide (s.gt ≤ gt + 2048 ∧ gt ≤ s.gt + 2048)) then answer i St.snapSpacing [] c
      else if decide (8 ≤ c.tl.snaps.length) then answer i St.snapQueueFull [] c
      else if !schedRoom c then answer i St.schedFull [] c
      else
        let node := rd P.lnkNodeId c
        let c1 := { c with tl := { c.tl with
          snaps := c.tl.snaps ++ [{ gt := gt, id := id, mesh := mesh, node := node, issuers := [i] }],
          snapSeen := if mesh then (node, id) :: c.tl.snapSeen else c.tl.snapSeen } }
        accepted i [id] (if mesh then floodTiming .snapshot (snapWords gt id node) none 0 c1 else c1)

/-! ### The configuration image (R396, R397) -/

/-- CFG_SAVE (R396). -/
def cfgSave (i : Issuer) (c : Chip) : Chip :=
  let recs := imageRecs c
  let blocks := (68 + 16 * recs.length + 4095) / 4096
  if c.md.mode == .fallback then answer i St.modeRefused [] c
  else if decide (65535 < recs.length) then answer i St.badValue [] c
  else if !tjInWindow c then answer i St.nvTemp [] c
  else if c.mb.cfgSaveAt.any (fun t => decide (c.clk < t + 10000000000)) then answer i St.nvRate [] c
  else nvRequest (.config 0 recs) blocks (some { i with res := [recs.length, blocks] }) false false
    { c with mb := { c.mb with cfgSaveAt := some c.clk } }

/-- CFG_LOAD (R397). -/
def cfgLoad (host : Bool) (img : CfgImage) (i : Issuer) (c : Chip) : Chip :=
  if !inModes [.fallback, .standby] c then answer i St.modeRefused [] c
  else match (if host then hostImage img else cabinetImage c) with
    | none => answer i St.cfgBad [] c
    | some (check, recs) =>
      match applyImage recs c with
      | none => answer i St.cfgBad [] c
      | some c1 => answer i St.ok [recs.length] (imageLoaded check recs.length c1)

/-! ### Attestation (R407–R409) -/

/-- The bytes of a report that its signature covers (R409). -/
def reportBytes (nonce : List Nat) (c : Chip) : List Byte :=
  leBytes 4 0x41545331 ++ leBytes 2 1 ++ leBytes 2 (rd P.secLlynSvn c) ++ leBytes 4 Config.deviceSerial ++ leBytes 4 (rd P.mcBaseVer c) ++
  leBytes 2 (rd P.mcPatchLevel c) ++ leBytes 1 (modeCode c.md.mode) ++ leBytes 1 c.tl.state ++ leBytes 4 (rd P.mcStoreCheck c) ++
  leBytes 4 (rd P.secLlynVer c) ++
  leBytes 4 (rd P.secIdMismatch c + 2 * rd W.cfgDefaulted c + 4 * rd W.patchRejected c + 8 * rd P.secLlynCopy c) ++
  leBytes 8 c.tl.gt ++ leBytes 4 c.nv.cfgCheck ++ leBytes 20 0 ++ (nonce.take 4).flatMap (leBytes 8) ++
  (List.range 64).map Config.llynDigest ++ (List.range 64).map (Config.storeDigest (memGet c.mem 0x02B40000 524288)) ++ leBytes 32 0

/-- The identity certificate (R407). -/
def certBytes : List Byte :=
  leBytes 4 0x49444331 ++ leBytes 4 Config.deviceSerial ++
    (List.range 3192).map (fun k => if k == 0 then Config.certificate 0 % 4
      else if decide (k + 8 < 0x40 ∨ (0x741 ≤ k + 8 ∧ k + 8 < 0x780)) then 0 else Config.certificate k)

/-- ATTEST (R408): a report or the certificate goes to host memory. -/
def attest (addr len flags : Nat) (nonce : List Nat) (i : Issuer) (c : Chip) : Chip :=
  if decide (1 < flags) || decide (len < if flags == 0 then 1536 else 3200) then answer i St.badValue [] c
  else if flags == 1 then answer i St.ok [3200] (emit (.hostWrite (mboxFn i.mb c) addr certBytes) c)
  else
    let b := reportBytes nonce c
    let bytes := b ++ (List.range 1280).map (Config.signature c.free b)
    answer i St.ok [1536] (emit (.hostWrite (mboxFn i.mb c) addr bytes) { c with free := c.free + 1 })

/-! ### The audit log's TIME entry (R391) -/

/-- AUDIT_TIME_ENTRY (R391): 2^46 ticks without an entry, while Llynlek runs. -/
def auditTime (c : Chip) : Chip :=
  if !inModes [.reset, .boot, .shutdown] c && decide (c.mb.auditAt + 2 ^ 46 ≤ c.clk) then audit (.firmware 0) false false 0 0 0 c else c

/-! ### Commands -/

/-- SESSION_OPEN (R370). -/
def execSessionOpen (h : Cmd) (s : State) : Host.Outcome State Fault Refusal := onChip (take h 0x01 1 false sessionOpen) s

/-- SESSION_CLOSE (R371). -/
def execSessionClose (h : Cmd) (ses : BitVec 10) (s : State) : Host.Outcome State Fault Refusal :=
  onChip (take h 0x02 1 false (sessionClose ses.toNat)) s

/-- INFO (R375). -/
def execInfo (h : Cmd) (s : State) : Host.Outcome State Fault Refusal := onChip (take h 0x03 1 false info) s

/-- RING_ALLOC (R375). -/
def execRingAlloc (h : Cmd) (ty : BitVec 3) (s : State) : Host.Outcome State Fault Refusal :=
  onChip (take h 0x10 1 false (ringAlloc ((sesOf h.mb).getD 0) ty.toNat)) s

/-- RING_FREE (R376). -/
def execRingFree (h : Cmd) (ring : BitVec 14) (s : State) : Host.Outcome State Fault Refusal :=
  onChip (take h 0x11 1 false (ringFree ((sesOf h.mb).getD 0) ring.toNat)) s

/-- DMA_ALLOC (R376). -/
def execDmaAlloc (h : Cmd) (ring : BitVec 14) (s : State) : Host.Outcome State Fault Refusal :=
  onChip (take h 0x12 1 false (dmaAlloc ((sesOf h.mb).getD 0) ring.toNat)) s

/-- DMA_FREE (R376). -/
def execDmaFree (h : Cmd) (ch : BitVec 6) (s : State) : Host.Outcome State Fault Refusal :=
  onChip (take h 0x13 1 false (dmaFree ((sesOf h.mb).getD 0) ch.toNat)) s

/-- PARAM_GET (R378). -/
def execParamGet (h : Cmd) (id : BitVec 32) (drawer : BitVec 16) (s : State) : Host.Outcome State Fault Refusal :=
  onChip (take h 0x20 1 false (paramGet id.toNat drawer.toNat)) s

/-- PARAM_SET (R379). -/
def execParamSet (h : Cmd) (id : BitVec 32) (value mask : BitVec 64) (drawer : BitVec 16) (s : State) :
    Host.Outcome State Fault Refusal := onChip (setCmd h id.toNat value.toNat mask.toNat drawer.toNat none) s

/-- PARAM_LIST (R380). -/
def execParamList (h : Cmd) (count : BitVec 13) (drawer : BitVec 16) (recs : Option (List WriteRec)) (s : State) :
    Host.Outcome State Fault Refusal := onChip (take h 0x22 1 true (paramList count.toNat drawer.toNat recs)) s

/-- DRAWER_OPEN (R385). -/
def execDrawerOpen (h : Cmd) (drawer : BitVec 16) (s : State) : Host.Outcome State Fault Refusal :=
  onChip (take h 0x30 1 false (drawerOpen drawer.toNat)) s

/-- DRAWER_CLOSE (R388). -/
def execDrawerClose (h : Cmd) (drawer : BitVec 16) (s : State) : Host.Outcome State Fault Refusal :=
  onChip (take h 0x31 1 false (drawerClose drawer.toNat)) s

/-- TXN_COMMIT (R387). -/
def execTxnCommit (h : Cmd) (drawer : BitVec 16) (gt : BitVec 64) (s : State) : Host.Outcome State Fault Refusal :=
  onChip (take h 0x32 2 true (txnCommit drawer.toNat gt.toNat)) s

/-- GROUP_MODE (R382). -/
def execGroupMode (h : Cmd) (id : BitVec 32) (want : BitVec 2) (gt : BitVec 64) (s : State) : Host.Outcome State Fault Refusal :=
  onChip (take h 0x33 2 true (groupMode id.toNat want.toNat gt.toNat)) s

/-- SNAPSHOT_AT (R56). -/
def execSnapshotAt (h : Cmd) (gt : BitVec 64) (mesh : Bool) (id : BitVec 16) (s : State) : Host.Outcome State Fault Refusal :=
  onChip (take h 0x41 2 false (snapshotAt gt.toNat mesh id.toNat)) s

/-- CFG_SAVE (R396). -/
def execCfgSave (h : Cmd) (s : State) : Host.Outcome State Fault Refusal := onChip (take h 0x50 1 true cfgSave) s

/-- CFG_LOAD (R397). -/
def execCfgLoad (h : Cmd) (host : Bool) (img : CfgImage) (s : State) : Host.Outcome State Fault Refusal :=
  onChip (take h 0x51 1 true (cfgLoad host img)) s

/-- ATTEST (R408). -/
def execAttest (h : Cmd) (addr len flags : BitVec 64) (nonce : List (BitVec 64)) (s : State) : Host.Outcome State Fault Refusal :=
  onChip (take h 0x60 1 false (attest addr.toNat len.toNat flags.toNat (nonce.map (·.toNat)))) s

/-- AUDIT_TIME_ENTRY (R391). -/
def execAuditTimeEntry (s : State) : Host.Outcome State Fault Refusal := onChip auditTime s

/-- AUDIT_ACK (R392). -/
def execAuditAck (h : Cmd) (value : BitVec 48) (s : State) : Host.Outcome State Fault Refusal :=
  onChip (setCmd h P.sysAuditAck.id value.toNat (2 ^ 48 - 1) 0 none) s

/-- EPOCH_ARM (R34). -/
def execEpochArm (h : Cmd) (value : Bool) (s : State) : Host.Outcome State Fault Refusal :=
  onChip (setCmd h P.tlEpochArm.id (b2n value) 1 0 none) s

/-- The jump item of a target, with the lowest bit of JUMP_SHELF and of STOP (R90, R113). -/
def jumpId (t : Target) : Nat :=
  match t with
  | .flx p => (P.flxJumpShelf p.val).id
  | _ => (P.toneJumpShelf (tgtPort t).1 (tgtPort t).2 (tgtTone t)).id

/-- JUMP_SHELF (R82). -/
def execJumpShelf (h : Cmd) (t : Target) (shelf : Fin 8192) (s : State) : Host.Outcome State Fault Refusal :=
  onChip (setCmd h (jumpId t) shelf.val (2 ^ 13 - 1) 0 none) s

/-- STOP (R83). -/
def execStopLane (h : Cmd) (t : Target) (s : State) : Host.Outcome State Fault Refusal :=
  onChip (setCmd h (jumpId t) (2 ^ 13) (2 ^ 13) 0 none) s

/-- BIAS_RECORD_WRITE (R111): PU_CODE and PU_SPAN, or FAULT_CODE and FAULT_SPAN, of an output. -/
def execBiasRecordWrite (h : Cmd) (o : Fin 32) (fault : Bool) (value mask : BitVec 64) (s : State) : Host.Outcome State Fault Refusal :=
  onChip (setCmd h (if fault then P.biaFaultCode o.val else P.biaPuCode o.val).id value.toNat mask.toNat 0 none) s

/-- CAL_SWITCH_AT (R130). -/
def execCalSwitchAt (h : Cmd) (r : Fin 12) (gt : BitVec 64) (s : State) : Host.Outcome State Fault Refusal :=
  onChip (setCmd h (P.rinCalSwitchAt r.val).id gt.toNat (2 ^ 64 - 1) 0 none) s

/-- CAL_SAVE (R140). -/
def execCalSave (h : Cmd) (value : Bool) (s : State) : Host.Outcome State Fault Refusal :=
  onChip (setCmd h P.calCalSave.id (b2n value) 1 0 none) s

/-- DXE_RUN (R174). -/
def execDxeRun (h : Cmd) (e : Fin 24) (value : Bool) (s : State) : Host.Outcome State Fault Refusal :=
  onChip (setCmd h (P.dxeDxeRun e.val).id (b2n value) 1 0 none) s

/-- DXE_MSG (R160). -/
def execDxeMsg (h : Cmd) (e : Fin 24) (value : BitVec 64) (s : State) : Host.Outcome State Fault Refusal :=
  onChip (setCmd h (P.dxeDxeMsg e.val).id value.toNat (2 ^ 64 - 1) 0 none) s

/-- SEED_SAVE (R172). -/
def execSeedSave (h : Cmd) (e : Fin 24) (value : Bool) (s : State) : Host.Outcome State Fault Refusal :=
  onChip (setCmd h (P.dxeSeedSave e.val).id (b2n value) 1 0 none) s

/-- SWITCH_NOW (R283). -/
def execSwitchNow (h : Cmd) (lg : Fin 4) (value : Bool) (s : State) : Host.Outcome State Fault Refusal :=
  onChip (setCmd h (P.lgSwitchNow lg.val).id (2 * b2n value) 2 0 none) s

/-- JOIN (R276). -/
def execJoin (h : Cmd) (value : Bool) (s : State) : Host.Outcome State Fault Refusal :=
  onChip (setCmd h P.lnkJoin.id (b2n value) 1 0 none) s

/-- LEAVE (R279). -/
def execLeave (h : Cmd) (value : Bool) (s : State) : Host.Outcome State Fault Refusal :=
  onChip (setCmd h P.lnkLeave.id (2 * b2n value) 2 0 none) s

/-- OUT_TEST_REC (R292). -/
def execOutTestRec (h : Cmd) (record : BitVec 64) (s : State) : Host.Outcome State Fault Refusal :=
  onChip (setCmd h P.lnkOutTestRec.id record.toNat (2 ^ 64 - 1) 0 none) s

/-- ARM_AT (R304). -/
def execArmAt (h : Cmd) (t : Fin 8) (gt : BitVec 64) (s : State) : Host.Outcome State Fault Refusal :=
  onChip (setCmd h (P.tuArmAt t.val).id gt.toNat (2 ^ 64 - 1) 0 none) s

/-- DISARM (R304). -/
def execDisarm (h : Cmd) (t : Fin 8) (value : Bool) (s : State) : Host.Outcome State Fault Refusal :=
  onChip (setCmd h (P.tuDisarm t.val).id (b2n value) 1 0 none) s

/-- STREAM_EN (R312). -/
def execStreamEn (h : Cmd) (k : Fin 16) (value : Bool) (s : State) : Host.Outcome State Fault Refusal :=
  onChip (setCmd h (P.stStreamEn k.val).id (b2n value) 1 0 none) s

/-- SW_FIRE (R322). -/
def execSwFire (h : Cmd) (value : BitVec 16) (s : State) : Host.Outcome State Fault Refusal :=
  onChip (setCmd h P.evmSwFire.id value.toNat (2 ^ 16 - 1) 0 none) s

/-- LOCK (R327). -/
def execLock (h : Cmd) (c : Fin 128) (value : Bool) (s : State) : Host.Outcome State Fault Refusal :=
  onChip (setCmd h (P.ecLock c.val).id (2 * b2n value) 2 0 none) s

/-- MARK_SRC_CHANGE (R324). -/
def execMarkSrcChange (h : Cmd) (pin : Fin 8) (value : Bool) (s : State) : Host.Outcome State Fault Refusal :=
  onChip (setCmd h (P.ciMarkSrc (0x10 + pin.val)).id (2 ^ 24 * b2n value) (2 ^ 24) 0 none) s

/-- CH_RESUME (R361). -/
def execChResume (h : Cmd) (ch : Fin 64) (value : Bool) (s : State) : Host.Outcome State Fault Refusal :=
  onChip (setCmd h (P.dchChResume ch.val).id (b2n value) 1 0 none) s

/-- CH_ABORT (R361). -/
def execChAbort (h : Cmd) (ch : Fin 64) (value : Bool) (s : State) : Host.Outcome State Fault Refusal :=
  onChip (setCmd h (P.dchChAbort ch.val).id (2 * b2n value) 2 0 none) s

/-- REFCOMP (R436). -/
def execRefcomp (h : Cmd) (value : Bool) (s : State) : Host.Outcome State Fault Refusal :=
  onChip (setCmd h P.thmRefcomp.id (b2n value) 1 0 none) s

/-- BOARD_WRITE (R416): `rec` is what the host read returns. -/
def execBoardWrite (h : Cmd) (value : Bool) (b : Option BoardRec) (s : State) : Host.Outcome State Fault Refusal :=
  onChip (setCmd h P.secBoardWrite.id (b2n value) 1 0 b) s

/-- SVN_ADVANCE (R418). -/
def execSvnAdvance (h : Cmd) (value : Bool) (s : State) : Host.Outcome State Fault Refusal :=
  onChip (setCmd h P.secSvnAdvance.id (b2n value) 1 0 none) s

/-- KEY_REVOKE (R418). -/
def execKeyRevoke (h : Cmd) (slots : BitVec 4) (s : State) : Host.Outcome State Fault Refusal :=
  onChip (setCmd h P.secKeyRevoke.id (slots.toNat * 16) 0xF0 0 none) s

end Sys2Proof.Machine
end

