-- ==== Sys2Proof/Machine/Modes.lean ====
section
/-!
DEFINITION. The operating modes (R18–R28): MODE_SET and its tests, what each entry does, RESET, faults to HOLD, the start of a
run, and the transitions that wait.
-/

namespace Sys2Proof.Machine

/-! ### Parts of an entry -/

/-- An ALERT_STAT bit is set: SMB_ALERT_N may go low again (R461, R462). -/
def alertSet (n : Nat) (c : Chip) : Chip :=
  setFlag (W.alertStat n) { c with pn := { c.pn with alertReleased := false } }

/-- Reads that await a PEEK of an engine that does not issue are served directly (R256). -/
def servePeeks (e : Nat) (c : Chip) : Chip :=
  let m := microOf e c
  m.peek.foldl (fun c p =>
    let r := readParam (pid 10 e p.2) c
    answer p.1 St.ok [r.1, 0] r.2) (setMicro e { m with peek := [] } c)

/-- A micro-engine abandons its routine and its traps, and goes idle (R252). -/
def microIdle (c : Chip) (e : Nat) : Chip :=
  let m := microOf e c
  servePeeks e (setMicro e { m with frame := [], due := none, did := false, regs := { m.regs with waiting := false, staged := none } } c)

/-- A MARK pin goes low at once: what was on its way through the output stage is dropped (R27, R200). -/
def markLow (pin : Nat) (c : Chip) : Chip :=
  let c1 := { c with sqs := { c.sqs with markHigh := Tab.del c.sqs.markHigh pin, markEnd := Tab.del c.sqs.markEnd pin },
                     ev := { c.ev with pulses := Tab.del c.ev.pulses pin },
                     pn := { c.pn with markDue := c.pn.markDue.filter (fun m => m.2.1 != pin), mark := setBits c.pn.mark pin 1 0 } }
  if bitAt c.pn.mark pin then emit (.mark pin false ((c.tl.gt : Int) * 256)) c1 else c1

/-- The MARK pins that a test names go low. -/
def marksLow (p : Nat → Bool) (c : Chip) : Chip := (List.range 8).foldl (fun c k => if p k then markLow k c else c) c

/-- DXE_RUN clears (R178). -/
def dxeClear (c : Chip) : Chip := (List.range 24).foldl (fun c e => wr (P.dxeDxeRun e) 0 c) c

/-- Every trigger unit becomes IDLE (R315). -/
def unitsIdle (c : Chip) : Chip := (List.range 8).foldl (fun c t => if (tuOf t c).state == 0 then c else disarmNow t c) c

/-- Some sequencer has issued toward a run that has not begun (R208). -/
def runBegun (c : Chip) : Bool :=
  (List.range 64).any (fun s => let x := sqOf s c; x.issuing || !x.slots.isEmpty || !x.latched.isEmpty)

/-- The mode changes: each virtual function's status vector is sent (R336). -/
def modeVectors (c : Chip) : Chip := (List.range c.numVfs).foldl (fun c f => sendVector (f + 1) 0 c) c

/-- GT_STATE in a mode (R32). -/
def gtStateIn (m : Mode) (old : Nat) : Nat :=
  match m with
  | .reset | .shutdown => 0
  | .syncing => 2
  | .ready | .run | .hold => old
  | _ => 1

/-- The analog core is powered in a mode (R20, R27). -/
def analogIn (m : Mode) : Bool :=
  match m with
  | .configure | .calibrate | .syncing | .ready | .run | .hold | .bench => true
  | _ => false

/-- The supplies of the analog core follow the mode; a transition that powers it completes with every synthesizer locked (R20,
R28). -/
def analogSet (m : Mode) (c : Chip) : Chip :=
  let on_ := analogIn m
  if on_ == c.pw.analog then c
  else { c with pw := { c.pw with analog := on_, goodAt := c.pw.goodAt.take 2 ++ List.replicate 4 (some c.clk) } }

/-! ### Leaving a mode -/

/-- BENCH ends: LOOP, PATTERN and BENCH_SRC return to 0, and debug lets the port go (R28, R141, R290, R463). -/
def leaveBench (c : Chip) : Chip :=
  let c1 := (List.range 16).foldl (fun c l => wr (P.laneLoop l) 0 (wr (P.lanePattern l) 0 c)) c
  let c2 := (List.range 4).foldl (fun c g => wr (P.ckLoop g) 0 c) c1
  let c3 := (List.range 12).foldl (fun c r => wr (P.rinBenchSrc r) 0 c) c2
  marksLow (fun k => !(eventsDrive c && markSrcNow k c)) { c3 with pn := { c3.pn with dbgGo := false, dbgHolds := false } }

/-- RUN ends (R20, R86, R99, R126, R200, R209, R252). -/
def leaveRun (m : Mode) (c : Chip) : Chip :=
  let c1 := match m with
    | .hold => (List.range 64).foldl sqHold c
    | .ready => (List.range 64).foldl sqReady c
    | _ => (List.range 64).foldl sqStop c
  let c2 := gapsDrop (laneStopAll c1)
  let c3 := match m with
    | .hold => (List.range 64).foldl microIdle (abortWindows c2)
    | .ready => abortWindows c2
    | _ => { c2 with rin := { c2.rin with windows := [] } }
  marksLow (fun k => !markSrcNow k c) c3

/-- What leaving the mode in force for `m` does, while it is still in force. -/
def leaveMode (m : Mode) (c : Chip) : Chip :=
  match c.md.mode with
  | .run => leaveRun m c
  | .ready => if m != .run && runBegun c then cancelStart c else c
  | .hold =>
    let c1 := if m != .run && runBegun c then cancelStart c else c
    if m == .shutdown then releaseHeld c1 else biasRelease (releaseHeld c1)
  | .bench => leaveBench c
  | _ => c

/-! ### Entering a mode -/

/-- CONFIGURE (R69, R70, R129). -/
def enterConfigure (old : Mode) (c : Chip) : Chip :=
  let c1 := loadFrames (cohLoadAll c)
  if old == .standby then convergeRestart c1 else c1

/-- CALIBRATE: every enabled port is to complete a pass (R137). -/
def enterCalibrate (c : Chip) : Chip :=
  let todo := (List.range 76).filter (fun k => on (portEn (portOfNo k).1 (portOfNo k).2) c)
  { c with rin := { c.rin with calTodo := todo } }

/-- Where an alignment begins (R35, R40). -/
def alignBegin (c : Chip) : AlignStep :=
  if c.pw.forcedZero then .idle else if rd P.tlTlSource c == 2 then .waitUp else .waitEpoch

/-- SYNCING (R32, R35, R40, R275, R276). -/
def enterSyncing (c : Chip) : Chip :=
  let c1 := { c with tl := { c.tl with align := alignBegin c, alignN := 0, thetas := [], phasePending := 0, syncAt := c.clk } }
  joinFirstTime (authorityEntry c1)

/-- READY (R69): from RUN or HOLD every word returns to its committed value, and every tone and channel makes a coherent load. -/
def enterReady (old : Mode) (c : Chip) : Chip :=
  if old == .run || old == .hold then cohLoadAll (restoreRx (restoreWords c)) else c

/-- HOLD (R18, R20, R110, R322): by a fault, FAULT_HOLD is set and every bias output takes its fault value; by a command it is
clear, since it says what caused the last entry. -/
def enterHold (fault : Bool) (c : Chip) : Chip :=
  if fault then biasFault (raise 0xE9 (setFlag W.faultHold c)) else wr W.faultHold 0 c

/-- FALLBACK from BENCH: the bias outputs take their power-up values again (R27). -/
def biasPowerUp (c : Chip) : Chip :=
  (List.range 32).foldl (fun c o =>
    biasInForce o (wr (P.biaBiaSpan o) (rd (P.biaPuSpan o) c) (wr (P.biaBiaCode o) (rd (P.biaPuCode o) c) c))) c

/-- BENCH (R28). -/
def enterBench (old : Mode) (c : Chip) : Chip :=
  benchMarks (cohLoadAll { c with md := { c.md with benchFrom := old },
                                  syn := { c.syn with benchAt := c.clk, benchHigh := false } })

/-- SHUTDOWN (R25, R29, R110, R315, R366, R414, R421, R432): latched. -/
def enterShutdown (c : Chip) : Chip :=
  let c1 := { c with tl := { c.tl with counting := false }, pw := { c.pw with aonLatch := true, forcedZero := false } }
  let c2 := unitsIdle (streamsOff (fun _ => true) (dxeClear (marksLow (fun _ => true) c1)))
  let c3 := (List.range 64).foldl (fun c k => abortAll k c) c2
  alertSet 1 (setFlag W.shutdownLatched (biasFault (nvAbandonAll c3)))

/-- What entering `m` from `old` does, `m` being in force. -/
def entered (old m : Mode) (fault : Bool) (c : Chip) : Chip :=
  match m with
  | .configure => enterConfigure old c
  | .calibrate => enterCalibrate c
  | .syncing => enterSyncing c
  | .ready => enterReady old c
  | .run => if old == .ready then loadFrames c else c
  | .hold => enterHold fault c
  | .bench => enterBench old c
  | .standby => unitsIdle (dxeClear c)
  | .fallback =>
    let c1 := unitsIdle (streamsOff (fun _ => true) (dxeClear c))
    if old == .bench then biasPowerUp c1 else c1
  | .shutdown => enterShutdown c
  | .boot | .reset => c

/-- Enter a mode other than RESET and BOOT in this tick (R20): the transition in progress is over. -/
def enterMode (m : Mode) (fault : Bool) (c : Chip) : Chip :=
  let old := c.md.mode
  let c1 := leaveMode m c
  let c2 := { c1 with md := { c1.md with mode := m, prev := old, trans := none, transGt := 0, fault := false, transIssuer := none },
                      tl := { c1.tl with state := gtStateIn m c1.tl.state } }
  let c3 := modeVectors (linksRefresh false (analogSet m c2))
  let c4 := if trafficModes c3 then c3 else shareDiscard c3
  let c5 := if timingModes c4 then c4 else
    { c4 with tl := { c4.tl with align := .idle, beacon := List.replicate 4 BeaconPort.reset, phasePending := 0, thetas := [] } }
  entered old m fault c5

/-- Enter a mode by a transition that no MODE_SET asked for: a MODE_SET of the same tick is beaten (R21). -/
def autoMode (m : Mode) (fault : Bool) (c : Chip) : Chip :=
  let c1 := enterMode m fault c
  { c1 with now := { c1.now with moved := true } }

/-- GT is aligned in SYNCING: READY at once (R20, R35, R40). -/
def aligned (c : Chip) : Chip :=
  let c1 := { c with tl := { c.tl with state := 3, align := .idle, alignN := 0, thetas := [] } }
  autoMode .ready false (dropTransition St.modeRefused c1)

/-- A root that awaits no epoch is aligned at once (R35). -/
def rootAligned (c : Chip) : Chip :=
  if c.md.mode == .syncing && c.tl.align == .waitEpoch && rd P.tlTlSource c == 1 && !on P.tlEpochArmed c && !c.pw.forcedZero then aligned c
  else c

/-- The transition to SYNCING that a loss of GT or clock begins in READY takes place at once (R20, R26, R50). -/
def settle (c : Chip) : Chip :=
  rootAligned (if c.md.mode == .ready && c.md.trans == some .syncing && c.md.transGt == 0 then autoMode .syncing false c else c)

/-- The transition in progress completes, and whoever asked for it receives the response (R20, R374). -/
def completed (m : Mode) (c : Chip) : Chip :=
  let i := c.md.transIssuer
  let named := c.md.transGt != 0
  let auto_ := c.md.fault || c.md.mode == .calibrate && c.md.trans.isNone
  let c1 := settle (if auto_ then autoMode m c.md.fault c else enterMode m c.md.fault c)
  match i with
  | some x => respond x St.ok true named [] c1
  | none => c1

/-- SHUTDOWN at once (R20, R21). -/
def shutDown (c : Chip) : Chip := autoMode .shutdown false (dropTransition St.modeRefused c)

/-! ### RESET (R7, R20, R89, R109, R178, R212, R237, R252, R315, R329, R366, R438) -/

/-- The fields that keep their values through RESET: what the bias strings drive, what the sensors read, the PCI Express
link. -/
def keptFields : List Field :=
  (List.range 32).flatMap (fun o => [P.biaCodeNow o, P.biaSpanNow o, P.biaSpanBusy o]) ++
  [W.linkSpeed, W.linkWidth, W.tjMax, P.thmSenseFast, P.secCredit] ++ (List.range 9).map W.sensorT

/-- The bias record is read again (R107, R108): power-up and fault values, and the values in force take the power-up values. -/
def loadBiasRecord (c : Chip) : Chip :=
  let rs := c.nv.bias.getD (List.replicate 32 BiasRec.zero)
  (List.range 32).foldl (fun c o =>
    let r := rs.getD o BiasRec.zero
    setFlagIf c.nv.bias.isNone (P.biaNvBad o)
      (wr (P.biaBiaSpan o) r.puSpan (wr (P.biaBiaCode o) r.pu (wr (P.biaFaultSpan o) r.faultSpan (wr (P.biaFaultCode o) r.fault
        (wr (P.biaPuSpan o) r.puSpan (wr (P.biaPuCode o) r.pu c))))))) c

/-- R109: each output takes its power-up value as a commit, once the loader has run. -/
def biasReload (c : Chip) : Chip :=
  if c.pw.supplies && c.pw.biasLoaded then (List.range 32).foldl (fun c o => biasInForce o c) (loadBiasRecord c) else c

/-- Everything of the chip that RESET does not keep is as at reset. -/
def resetChip (c : Chip) : Chip :=
  { Chip.reset with
    clk := c.clk, free := c.free, out := c.out, now := { Now.reset with listed := c.now.listed },
    pw := { c.pw with analog := false, forcedZero := false, aonLatch := false },
    md := { Modes.reset with prev := c.md.mode },
    nv := c.nv, hostMsix := c.hostMsix, hostPba := c.hostPba, numVfs := c.numVfs,
    mb := { Mail.reset with cfgSaveAt := c.mb.cfgSaveAt },
    dx := { Dxes.reset with seedSaveAt := c.dx.seedSaveAt },
    syn := { Synth.reset with bias := c.syn.bias },
    th := { Thermal.reset with midSince := c.th.midSince, sampledAt := c.th.sampledAt, telemAt := c.th.telemAt },
    pn := { c.pn with mark := 0, markDue := [], dbgGo := false, dbgHolds := false },
    mem := memClear c.mem 0x02EA0000 0x02EBFFFF }

/-- Enter RESET in this tick. -/
def enterReset (c : Chip) : Chip :=
  let c1 := marksLow (fun _ => true) (nvAbandonAll c)
  let c2 := keptFields.foldl (fun d f => wr f (rd f c1) d) (resetChip c1)
  biasReload (wr P.secSvnMin c2.nv.svnMin (wr P.secKeyRevoked c2.nv.keyRevoked c2))

/-! ### MODE_SET (R20–R23, R50, R208–R210, R250, R251, R278) -/

/-- MODE_SET may ask for this transition (R20). -/
def mayGo (m : Mode) (c : Chip) : Bool :=
  match c.md.mode, m with
  | .shutdown, _ => false
  | _, .reset => true
  | .fallback, .standby => c.md.cfgPassed
  | .fallback, .bench | .standby, .bench | .standby, .configure | .configure, .standby | .configure, .calibrate
  | .calibrate, .configure | .configure, .syncing | .syncing, .configure | .ready, .run | .ready, .configure
  | .run, .hold | .run, .ready | .hold, .run | .hold, .ready | .hold, .syncing | .hold, .configure => true
  | .bench, m => m == c.md.benchFrom
  | _, _ => false

/-- Some enabled sequencer has SQ_FAULT, or its micro-engine MC_FAULT, set (R210, R250). -/
def runBlocked (c : Chip) : Bool :=
  (List.range 64).any (fun s => on (P.sqSqEn s) c && (on (P.sqSqFault s) c || on (P.mceMcFault s) c))

/-- RUN is refused with MODE_REFUSED (R23, R50, R210, R250, R251, R278). -/
def runRefused (gt : Nat) (c : Chip) : Bool :=
  decide (gt < c.tl.gt + 100000) || on P.mcMcStoreBad c ||
  (!on P.lnkNodeValid c && (List.range 4).any (fun g => on (P.lgLgEn g) c)) ||
  (if c.md.mode == .hold then c.tl.state != 3 || runBlocked c else !vouched c)

/-- A window that the calibration engine opened in CALIBRATE is in progress (R137). -/
def calWindow (c : Chip) : Bool := c.rin.gaps.any (fun g => g.sq.isNone && g.taken && decide (c.tl.gt < g.start + 2048))

/-- A transition that MODE_SET asks for and R20 allows. One without a named GT is answered in the tick that accepts it, also where
the transition completes later (R374). -/
def modeGo (m : Mode) (gt : Nat) (i : Issuer) (c : Chip) : Chip :=
  let begin_ := beginTransition m 0 none (answer i St.ok [] c)
  let now_ := completed m begin_
  match c.md.mode, m with
  | _, .reset => enterReset (answer i St.ok [] c)
  | _, .run =>
    if runRefused gt c then answer i St.modeRefused [] c
    else if !schedRoom c then answer i St.schedFull [] c
    else startRun gt (accepted i [] (beginTransition .run gt (some i) c))
  | .run, _ =>
    if gt == 0 then begin_
    else if decide (gt < c.tl.gt + 1000) then answer i St.tooSoon [] c
    else if !schedRoom c then answer i St.schedFull [] c
    else accepted i [] (beginTransition m gt (some i) c)
  | .calibrate, _ => if calWindow c then begin_ else now_
  | .standby, _ | .bench, _ | .configure, .standby | .fallback, .bench => begin_
  | _, _ => now_

/-- SYNCING has lasted SYNC_TIMEOUT µs (R35). -/
def syncOver (c : Chip) : Bool :=
  c.md.mode == .syncing && decide (c.tl.syncAt + 1000 * rd P.tlSyncTimeout c ≤ c.clk)

/-- The CALIBRATE pass is over: every port has been served (R137). -/
def passOver (c : Chip) : Bool := c.md.mode == .calibrate && !calWindow c && c.rin.calTodo.isEmpty

/-- A transition that no MODE_SET asks for has taken place in this tick or is due in it (R21). -/
def beaten (c : Chip) : Bool := c.now.moved || syncOver c || passOver c

/-- MODE_SET; `late` says that a trigger which R21 puts above it is still to come in this tick. -/
def modeSet (late : Bool) (target gt : Nat) (i : Issuer) (c : Chip) : Chip :=
  match codeMode target with
  | none => answer i St.modeRefused [] c
  | some m =>
    if late || c.md.trans.isSome || !mayGo m c || (m != .reset && beaten c) then answer i St.modeRefused [] c else modeGo m gt i c

/-- The command schedules an action: a transition that names a GT (R20, R374). -/
def modeNames (target gt : Nat) (c : Chip) : Bool :=
  match c.md.mode, codeMode target with
  | .ready, some .run | .hold, some .run => true
  | .run, some .hold | .run, some .ready => gt != 0
  | _, _ => false

/-! ### Transitions that wait -/

/-- A transition waits for locks, converters or bench paths (R20, R28). -/
def waitsAnalog (c : Chip) : Option Mode :=
  match c.md.mode, c.md.trans with
  | .standby, some .configure => some .configure
  | .configure, some .standby => some .standby
  | .standby, some .bench | .fallback, some .bench => some .bench
  | .bench, some m => some m
  | _, _ => none

/-- TRANSITION_COMPLETE: a transition that waits for the analog core, or a fault's entry to HOLD at its tick (R20). -/
def transitionComplete (c : Chip) : Chip :=
  if c.md.fault then
    (if c.md.mode == .run && decide (c.md.transAt ≤ c.clk) then completed .hold c else c)
  else match waitsAnalog c with
    | some m => completed m c
    | none => c

/-- RUN_START: the run GT has come (R20, R53, R208–R210, R250). -/
def runStart (c : Chip) : Chip :=
  if c.md.trans == some .run && c.md.transGt == c.tl.gt then
    if !vouched c then dropTransition St.notAligned c
    else if c.md.mode == .hold && runBlocked c then dropTransition St.modeRefused c
    else completed .run c
  else c

/-- The pacer still runs toward boundaries: it is enabled, and its END has not executed (R207). -/
def pacerLive (c : Chip) : Bool := let s := rd P.sqSqPacer c; on (P.sqSqEn s) c && !on (P.sqSqDone s) c

/-- A commanded HOLD or READY whose named GT has come (R20, R207). -/
def modeWaits (c : Chip) : Option Mode :=
  if c.md.mode == .run && !c.md.fault && decide (c.md.transGt ≤ c.tl.gt) then c.md.trans else none

/-- MODE_TRANSITION_AT_GT: no pacer boundary will come (R207). -/
def modeAtGt (c : Chip) : Chip :=
  match modeWaits c with
  | some m =>
    if pacerLive c then c else if c.md.transGt == 0 || vouched c then completed m c else dropTransition St.notAligned c
  | none => c

/-- CALIBRATE_PASS_END (R20, R137): at the end of the current window. -/
def calibratePassEnd (c : Chip) : Chip :=
  if passOver c || (c.md.mode == .calibrate && !calWindow c && c.md.trans == some .configure) then
    completed .configure { c with rin := { c.rin with calTodo := [] } }
  else c

/-- SYNC_TIMEOUT (R20, R35): SYNCING has lasted SYNC_TIMEOUT µs. -/
def syncTimeout (c : Chip) : Chip :=
  if syncOver c then
    autoMode .configure false (dropTransition St.modeRefused (setFlag W.syncTimeout c))
  else c

/-! ### Faults -/

/-- The regions whose uncorrectable error moves RUN to HOLD (R16). -/
def haltRegion (r : Region) : Bool :=
  match r with
  | .shelves | .slots | .seqProg | .decision | .store => true
  | _ => false

/-- A descriptor under way whose source lies in the region ends with ECC_UE (R16, R358). -/
def eccWork (r : Region) (c : Chip) : Chip :=
  { c with dma := { c.dma with chans := c.dma.chans.map (fun p =>
      (p.1, match p.2.work with
        | some w =>
          if w.status.isNone && descSrcSp w.desc == 1 && regionOf (descSrc w.desc) == some r
          then { p.2 with work := some { w with status := some Dm.eccUe } } else p.2
        | none => p.2)) } }

/-- ECC_UE (R16). -/
def eccUe (r : Region) (c : Chip) : Chip :=
  if c.md.mode == .reset then c
  else
    let c1 := eccWork r (setFlag W.eccUe c)
    if haltRegion r && c1.md.mode == .run then faultEntry c1 else c1

/-- CORRECTABLE_ERROR (R16): corrected, written back and counted. -/
def correctable (_ : Region) (c : Chip) : Chip :=
  if c.pw.supplies then { c with mc := { c.mc with corrected := c.mc.corrected + 1 } } else c

/-! ### Supplies and RESET_N (R107, R419–R421, R459) -/

/-- SUPPLIES_VALID (R419, R421): RESET, or still SHUTDOWN while its latch holds. -/
def suppliesValid (c : Chip) : Chip :=
  if c.pw.supplies then c
  else
    let c1 := { c with pw := { c.pw with supplies := true, suppliesAt := c.clk, biasLoaded := false } }
    if c.pw.aonLatch then c1 else enterReset c1

/-- SUPPLIES_LOST (R420, R421): powered off. The Cabinet and the fuses keep what they hold; the latch is lost with VDD_AON. -/
def suppliesLost (aonLost : Bool) (c : Chip) : Chip :=
  if !c.pw.supplies then { c with pw := { c.pw with aonLatch := c.pw.aonLatch && !aonLost } }
  else
    let c1 := marksLow (fun _ => true) c
    let latch := c.pw.aonLatch && !aonLost
    let c2 := resetChip c1
    let c3 := { c2 with
      pw := { c2.pw with supplies := false, biasLoaded := false, goodAt := c2.pw.goodAt.take 1 ++ List.replicate 5 (some c.clk), aonLatch := latch },
      syn := Synth.reset, mem := [], th := Thermal.reset,
      mb := Mail.reset, dx := Dxes.reset,
      nv := { c2.nv with queue := [], biasPend := none, biasIssuers := [], biasAudit := [] } }
    if latch then { c3 with md := { c3.md with mode := .shutdown, prev := c.md.prev }, tl := { c3.tl with gt := c.tl.gt },
                            regs := (wr W.shutdownLatched 1 c3).regs }
    else { c3 with md := Modes.reset }

/-- BIAS_LOADER (R107, R108, R110): 16 µs or more after supplies valid each output drives its power-up value, in SHUTDOWN its
fault value. -/
def biasLoader (c : Chip) : Chip :=
  if c.pw.supplies && !c.pw.biasLoaded && decide (c.pw.suppliesAt + 16000 ≤ c.clk) then
    let c1 := loadBiasRecord { c with pw := { c.pw with biasLoaded := true } }
    let sd := c.md.mode == .shutdown
    (List.range 32).foldl (fun c o =>
      let code := if sd then rd (P.biaFaultCode o) c else rd (P.biaPuCode o) c
      let span := if sd then rd (P.biaFaultSpan o) c else rd (P.biaPuSpan o) c
      emit (.bias o code span (biasVoltage span code) c.tl.gt) (wr (P.biaFaultDrive o) (b2n sd) (wr (P.biaSpanNow o) span (wr (P.biaCodeNow o) code
        (setBias o { BiasOut.reset with hiZ := false } c))))) c1
  else c

/-- RESET_N_LOW (R20, R25, R459): the filter declares a low. -/
def resetLow (c : Chip) : Chip :=
  let c1 := { c with pw := { c.pw with resetN := false } }
  if c.md.mode == .shutdown || c.md.mode == .reset || !c.pw.supplies then c1 else enterReset c1

/-! ### Commands -/

/-- TRANSITION_COMPLETE (R20). -/
def execTransitionComplete (s : State) : Host.Outcome State Fault Refusal := onChip transitionComplete s

/-- RUN_START (R208). -/
def execRunStart (s : State) : Host.Outcome State Fault Refusal := onChip runStart s

/-- MODE_TRANSITION_AT_GT (R207). -/
def execModeTransitionAtGt (s : State) : Host.Outcome State Fault Refusal := onChip modeAtGt s

/-- CALIBRATE_PASS_END (R137). -/
def execCalibratePassEnd (s : State) : Host.Outcome State Fault Refusal := onChip calibratePassEnd s

/-- SYNC_TIMEOUT (R35). -/
def execSyncTimeout (s : State) : Host.Outcome State Fault Refusal := onChip syncTimeout s

/-- ECC_UE (R16). -/
def execEccUe (r : Region) (s : State) : Host.Outcome State Fault Refusal := onChip (eccUe r) s

/-- CORRECTABLE_ERROR (R16). -/
def execCorrectableError (r : Region) (s : State) : Host.Outcome State Fault Refusal := onChip (correctable r) s

/-- FAULT_HOLD (R110): a function's write of 1 to FAULT_HOLD. -/
def execFaultHold (fn : Fin 64) (s : State) : Host.Outcome State Fault Refusal := onChip (registerWrite fn.val .bar0 0x10004 4 0x100) s

/-- SUPPLIES_VALID (R419). -/
def execSuppliesValid (s : State) : Host.Outcome State Fault Refusal := onChip suppliesValid s

/-- SUPPLIES_LOST (R420). -/
def execSuppliesLost (aonLost : Bool) (s : State) : Host.Outcome State Fault Refusal := onChip (suppliesLost aonLost) s

/-- BIAS_LOADER (R107). -/
def execBiasLoader (s : State) : Host.Outcome State Fault Refusal := onChip biasLoader s

/-- RESET_N_LOW (R459). -/
def execResetNLow (s : State) : Host.Outcome State Fault Refusal := onChip resetLow s

/-- CLK_LOST (R14, R26): the source is good again after `back` ticks. -/
def execClkLost (x : ClockLoss) (s : State) : Host.Outcome State Fault Refusal :=
  onChip (fun c => settle (clockLoss x.src (some x.back) c)) s

/-- FORCED_ZERO_END (R26). -/
def execForcedZeroEnd (s : State) : Host.Outcome State Fault Refusal := onChip (fun c => settle (zeroEnd c)) s

/-- CK_LOSS (R264, R44). -/
def execCkLoss (lg : Fin 4) (s : State) : Host.Outcome State Fault Refusal := onChip (fun c => settle (ckLossOn lg.val c)) s

end Sys2Proof.Machine
end

