-- ==== Sys2Proof/Machine/Boot.lean ====
section
/-!
DEFINITION. BOOT (R20, R24, R400–R411): the boot ROM's tests in their order, the microcode and its patches (R240, R246,
R253–R255), the mount of the Cabinet, the seeds and tables (R101, R129, R139, R171, R261), the regions BOOT clears, and the
configuration image (R397).
-/

namespace Sys2Proof.Machine

/-! ### Entry to BOOT (R20, R29) -/

/-- BOOT_ENTRY: RESET_N is high, REFCLK present, the fabric PLL locked, and 20 µs have passed since supplies valid. -/
def bootEntry (c : Chip) : Chip :=
  if c.md.mode == .reset && c.pw.supplies && fabricGood c && decide (c.pw.suppliesAt + 20000 ≤ c.clk) then
    modeVectors { c with
      pw := { c.pw with resetN := true },
      md := { c.md with mode := .boot, prev := .reset },
      tl := { c.tl with gt := 0, counting := true, state := 1 },
      th := { c.th with telemAt := c.clk + rd P.thmTelemPeriod c * 1000000 } }
  else c

/-! ### The boot ROM's tests (R401–R406) -/

/-- A copy of Llynlek verifies under the key of slot k: its header lies within R404, its KEY_SLOT is that slot, and SIG verifies
(R405). -/
def llynVerifies (k : Nat) (x : FlashImage) : Bool := llynHeader x && imgSlot x == k && x.sigOk

/-- The copies in the order they are tried: 0 A, 1 B, with their entries. -/
def bootCopies (d : List Byte) : List (Nat × Nat) :=
  ((dirEntry 1 d).map (fun i => (0, i))).toList ++ ((dirEntry 2 d).map (fun i => (1, i))).toList

/-- The slot of the key entry (R405). -/
def bootSlot (d : List Byte) : Option Nat := (dirEntry 5 d).map (entrySlot d)

/-- The copy of Llynlek that is accepted: it verifies, and its SVN is not below SVN_MIN (R405). -/
def bootLlyn (b : BootInput) (k : Nat) (d : List Byte) (c : Chip) : Option (Nat × FlashImage) :=
  ((bootCopies d).map (fun p => (p.1, imageAt b p.2))).find? (fun p => llynVerifies k p.2 && decide (c.nv.svnMin ≤ imgSvn p.2))

/-- The words 0x0000 to 0x77FF of the base microcode. -/
def ucodeWords (x : FlashImage) : List (BitVec 128) := wordsAt x.plain 0 (x.plain.length / 16)

/-- A microword passes R246: no field holds a reserved code, bits [73:64] are 0, and LOOP stands with LCTL 0. -/
def uwordOk (w : BitVec 128) : Bool :=
  let f (lo n : Nat) : Nat := bits w.toNat lo n
  f 125 3 != 6 && decide (f 106 4 ≤ 9) && f 102 4 != 15 && f 95 4 != 15 && f 91 4 != 15 && f 87 4 != 15 && f 83 4 != 15 &&
  f 81 2 != 3 && f 77 3 != 7 && f 75 2 != 3 && f 64 10 == 0 && !(f 125 3 == 3 && f 99 2 != 0)

/-- Why the boot fails on the base microcode, or after it; 0: it does not (R401, R406, R407). -/
def ucodeFailure (b : BootInput) (k : Nat) (u : Option FlashImage) : Nat :=
  match u with
  | none => 5
  | some u =>
    if !ucodeHeader u || !u.sigOk || imgSlot u != k then 5
    else if !u.tagOk then 6
    else if imgVersion u == 0 || (ucodeWords u).any (fun w => !uwordOk w) then 7
    else if !b.idGenOk then 8
    else 0

/-- Why the boot fails, coded as BOOT_FAIL_CAUSE; 0: it does not (R401–R407). -/
def bootFailure (b : BootInput) (c : Chip) : Nat :=
  match bootDir b with
  | none => 1
  | some d =>
    match dirEntry 5 d, bootSlot d with
    | some i, some k =>
      if 4 ≤ k || !(imageAt b i).sigOk || bitAt c.nv.keyRevoked k then 2
      else if !(bootCopies d).any (fun p => llynVerifies k (imageAt b p.2)) then 3
      else if (bootLlyn b k d c).isNone then 4
      else ucodeFailure b k ((dirEntry 3 d).map (imageAt b))
    | _, _ => 2

/-- The flash reads of a boot that ends with a cause: the directory, the key, copy A and, unless A is accepted, copy B, the base
microcode, and the patches (R400, R403). DESIGN CHOICE (log): each entry is one read, the key first. -/
def bootReads (b : BootInput) (cause : Nat) (c : Chip) : List Output :=
  dirReads b ++
  match bootDir b with
  | none => []
  | some d =>
    let key := (dirEntry 5 d).toList
    let k := (bootSlot d).getD 0
    let copies := match bootLlyn b k d c with
      | some (0, _) => (dirEntry 1 d).toList
      | _ => (bootCopies d).map (·.2)
    let is := if cause == 2 then key
      else if cause == 3 || cause == 4 then key ++ copies
      else if 5 ≤ cause && cause ≤ 7 then key ++ copies ++ (dirEntry 3 d).toList
      else key ++ copies ++ (dirEntry 3 d).toList ++ (dirEntries 4 d).take 4
    is.map (entryRead d)

/-! ### The control store (R15, R239, R240, R253–R255) -/

/-- The address of control store word w. -/
def storeAddr (w : Nat) : Nat := 0x02B40000 + 16 * w

/-- Words from word number w up. -/
def storeWords (w : Nat) : List (BitVec 128) → Tab Byte → Tab Byte
  | [], m => m
  | x :: xs, m => storeWords (w + 1) xs (memPut m (storeAddr w) (leBytes 16 x.toNat))

/-- The base image in the region, the rest of the region zero (R406). -/
def loadBase (words : List (BitVec 128)) (c : Chip) : Chip :=
  { c with mem := storeWords 0 (words.take 0x7800) (memClear c.mem 0x02B40000 0x02BBFFFF) }

/-- What the patches have done so far: the level in force, the counts, the overlay words written, and the last cause. -/
structure Patched where
  level : Nat
  applied : Nat
  rejected : Nat
  cause : Nat
  ovl : List Nat
  hooks : Nat
  deriving DecidableEq, Repr

/-- Why a patch image is rejected, coded as R254 gives; 0: it is not. -/
def patchCause (baseVer level : Nat) (p : FlashImage) : Nat :=
  if patchMagic p != 0x4D500A3C || patchFormat p != 1 || !zeroAt p.head 0x00F 1 || !zeroAt p.head 0x020 32 then 1
  else if !p.sigOk then 2
  else if !p.tagOk then 3
  else if patchBaseVer p != baseVer then 4
  else if patchReqLevel p != level || decide (patchLevel p ≤ level) then 5
  else if decide (2048 < patchOvls p ∨ 64 < patchHooks p ∨ 0x8000 < patchOvlStart p + patchOvls p) ||
      (patchOvls p != 0 && decide (patchOvlStart p < 0x7800)) then 6
  else if (patchHookList p).any (fun h => decide (h.1 < 0x200 ∨ 0x77FF < h.1)) then 7
  else if (patchOvl p).any (fun w => !uwordOk w) || (patchHookList p).any (fun h => !uwordOk h.2) then 8
  else 0

/-- One patch image is tested, and applied or rejected (R254). -/
def patchOne (baseVer : Nat) (a : Patched × Chip) (p : FlashImage) : Patched × Chip :=
  let (s, c) := a
  let k := patchCause baseVer s.level p
  if k != 0 then ({ s with rejected := s.rejected + 1, cause := k }, setFlag W.patchRejected c)
  else
    let m := storeWords (patchOvlStart p) (patchOvl p) c.mem
    let m2 := (patchHookList p).foldl (fun m h => storeWords h.1 [h.2] m) m
    ({ s with level := patchLevel p, applied := s.applied + 1,
              ovl := (s.ovl ++ (List.range (patchOvls p)).map (· + patchOvlStart p)).dedup, hooks := s.hooks + patchHooks p },
     { c with mem := m2 })

/-- Insert a patch by its LEVEL. -/
def patchPlace (p : FlashImage) : List FlashImage → List FlashImage
  | [] => [p]
  | q :: qs => if patchLevel p < patchLevel q then p :: q :: qs else q :: patchPlace p qs

/-- A word of the control store region. -/
def storeWord (w : Nat) (c : Chip) : Nat := leNat (memGet c.mem (storeAddr w) 16)

/-- The four replicas are filled from the region (R239). -/
def fillReplicas (c : Chip) : Chip :=
  let t : Tab Wide := (List.range 32768).filterMap (fun w =>
    let v := storeWord w c
    if v == 0 then none else some (w, BitVec.ofNat 128 v))
  { c with mc := { c.mc with replicas := (List.range 4).map (fun r => (r, t)) } }

/-- The CRC-32C of the control store region, a word of 16 bytes at a time (R255, R393). -/
def storeCrc (m : Tab Byte) : Nat :=
  Nat.xor ((List.range 32768).foldl (fun v k => crcRun v (memGet m (0x02B40000 + 16 * k) 16)) 0xFFFFFFFF) 0xFFFFFFFF

/-- Steps 3 and 4 of R400: the base image, the first four patches in ascending LEVEL, STORE_CHECK and the replicas. -/
def loadStore (u : FlashImage) (ps : List FlashImage) (c : Chip) : Chip :=
  let ver := imgVersion u
  let sorted := (ps.take 4).foldl (fun l p => patchPlace p l) []
  let (s, c1) := sorted.foldl (patchOne ver)
    ({ level := 0, applied := 0, rejected := 0, cause := 0, ovl := [], hooks := 0 }, loadBase (ucodeWords u) c)
  let c2 := wr P.mcBaseVer ver (wr P.mcPatchLevel s.level (wr P.mcPatchesApplied s.applied (wr P.mcPatchesRejected s.rejected
    (wr P.mcPatchRejectCause s.cause (wr P.mcOvlUsed s.ovl.length (wr P.mcHooksUsed s.hooks c1))))))
  fillReplicas (wr P.mcStoreCheck (storeCrc c2.mem) c2)

/-! ### Llynlek (R400, R407, R411) -/

/-- A record of the Cabinet as the mount finds it. -/
def mounted (k : NvRecord) (b : BootInput) (c : Chip) : Option NvData :=
  if !b.cabOk || b.absent.contains k then none
  else (c.nv.recs.find? (fun r => r.1 == k)).map (fun r => r.2.data)

/-- Step 7: the mount (R411, R413, R418). -/
def mountCabinet (b : BootInput) (c : Chip) : Chip :=
  let ws := (List.range 1776).map (fun k => wearOf (k + 272) c)
  let c1 := wr P.secWearMax (ws.foldl max 0) (wr P.secWearMean (ws.sum / 1776) (wr P.secBlocksRetired c.nv.retired.length
    (wr P.secCredit c.nv.creditNv c)))
  setFlagIf (!b.cabOk) P.secCabBad { c1 with nv := { c1.nv with board := match mounted .board b c with
    | some (.board r) => some r
    | _ => none } }

/-- The board record: link table and flux seeds (R101, R261). -/
def loadBoard (c : Chip) : Chip :=
  let link := match c.nv.board with | some r => r.linkOk | none => false
  let flux := match c.nv.board with | some r => r.fluxOk | none => false
  let dflt : Nat := 0 + 8 * 2 ^ 4 + 4 * 2 ^ 9 + 6 * 2 ^ 12
  let lane (l : Nat) : Nat := if link then (match c.nv.board with
    | some r => (r.lanes.getD l 0).toNat
    | none => dflt) else dflt
  let c1 := (List.range 16).foldl (fun c l =>
    let v := lane l
    wr (P.laneTxPre l) (bits v 0 4) (wr (P.laneTxPost l) (bits v 4 5) (wr (P.laneTxSwing l) (bits v 9 3)
      (wr (P.laneRxCtle l) (bits v 12 4) (wr (P.laneTxPol l) (bits v 16 1) (wr (P.laneRxPol l) (bits v 17 1) c)))))) c
  let c2 := (List.range 4).foldl (fun c g =>
    let v := lane (16 + g)
    wr (P.ckTxPre g) (bits v 0 4) (wr (P.ckTxPost g) (bits v 4 5) (wr (P.ckTxSwing g) (bits v 9 3)
      (wr (P.ckRxCtle g) (bits v 12 4) (wr (P.ckTxPol g) (bits v 16 1) (wr (P.ckRxPol g) (bits v 17 1) c)))))) c1
  let c3 := setFlagIf (!link) P.lnkEqTableBad c2
  let c4 := (List.range 4).foldl (fun c g => wr (P.tlgLinkAsym g) (resetVal (P.tlgLinkAsym g) c) c) c3
  (List.range 24).foldl (fun c k =>
    setFlagIf (!flux) (P.flxFlxSeedBad k) (wr (P.flxFlxOffset k) (resetVal (P.flxFlxOffset k) c) c)) c4

/-- The RIN seeds: for each input the set SEED_SRC selects, else the other, else zero; each set has its own check (R129, R139). -/
def loadRin (b : BootInput) (c : Chip) : Chip :=
  let saved := match mounted .cal b c with
    | some (.cal s) => some s
    | _ => none
  (List.range 12).foldl (fun c r =>
    let fac : Option (Tab Nat) := if c.nv.seedBad.contains r then none else some c.nv.seedRin
    let sav : Option (Tab Nat) := if b.savedBad.contains r then none else saved.map (fun (s : CalSave) => s.rin)
    let pick := if on (P.rinSeedSrc r) c then (if sav.isSome then sav else fac) else (if fac.isSome then fac else sav)
    let c1 := (List.range 8).foldl (fun c j => wr (P.rinAppSet r j) (match pick with
      | some t => Tab.get t (8 * r + j) 0
      | none => 0) c) c
    setFlagIf pick.isNone (P.rinRinSeedBad r) (wr (P.rinCalConverging r) 1 c1)) c

/-- The DAC ports start on their factory sets, a port whose set fails its check uncorrected (R87, R139). -/
def loadDac (c : Chip) : Chip :=
  (List.range 76).foldl (fun c k =>
    let bad := c.nv.seedBad.contains (12 + k)
    setFlagIf bad (P.calpDcalBad (calInst k))
      { c with rin := { c.rin with dacSet := if bad then Tab.del c.rin.dacSet k else Tab.ins c.rin.dacSet k 1 } }) c

/-- A DXE seed set passes its check word (R171). -/
def seedOk (bs : List Byte) : Bool := bs.length == 1024 && leNat (bs.drop 1020) == crc32c (bs.take 1020)

/-- The DXE seeds (R171). -/
def loadSeeds (b : BootInput) (c : Chip) : Chip :=
  let t : Tab (List Byte) := match mounted .seeds b c with
    | some (.seeds t) => t
    | _ => []
  (List.range 24).foldl (fun c e =>
    let bs := Tab.get t e []
    let good := seedOk bs
    setFlagIf (!good) (P.dxeSeedBad e)
      { c with mem := memPut c.mem (dataAddr e 0x7700) (if good then bs else List.replicate 1024 0) }) c

/-- Step 9: the regions that R89, R212 and R237 clear. -/
def clearRegions (c : Chip) : Chip :=
  { c with mem := memClear (memClear c.mem 0x00000000 0x017FFFFF) 0x02200000 0x02A3FFFF }

/-- Step 10: the configuration image, and the mode it leads to (R20, R397). -/
def bootConfig (b : BootInput) (c : Chip) : Chip :=
  let image := match mounted .config b c with
    | some (.config check recs) => some (check, recs)
    | _ => none
  let loaded := match image with
    | some (check, recs) => (applyImage recs c).map (fun c1 => imageLoaded check recs.length c1)
    | none => none
  match loaded with
  | some c1 => autoMode .standby false c1
  | none =>
    let c1 := auditChanges 2 c (resetSaved c)
    autoMode .fallback false (setFlag W.cfgDefaulted { c1 with nv := { c1.nv with cfgCheck := 0 } })

/-- Llynlek's part, steps 6 to 10, and the bootstrap rings at the end of BOOT (R369, R400). -/
def llynStart (b : BootInput) (c : Chip) : Chip :=
  let c1 := loadSeeds b (loadDac (loadRin b (loadBoard (mountCabinet b c))))
  (List.range 64).foldl (fun c f => bootstrapRings f c) (bootConfig b (clearRegions c1))

/-- BOOT_FAILED: the boot stops, and the bias outputs take their fault value (R24, R110, R401). A tag that fails leaves the
control store region zero (R406). -/
def bootFail (cause : Nat) (c : Chip) : Chip :=
  let c1 := if cause == 6 then { c with mem := memClear c.mem 0x02B40000 0x02BBFFFF } else c
  let c2 := { c1 with md := { c1.md with bootStopped := true } }
  alertSet 2 (biasFault (setFlag W.bootFailed (wr P.secBootFailCause cause c2)))

/-- The parts of a boot that does not fail: key slot, accepted copy and base microcode. -/
def bootParts (b : BootInput) (c : Chip) : Option (Nat × (Nat × FlashImage) × FlashImage × List FlashImage) := do
  let d ← bootDir b
  let k ← bootSlot d
  let l ← bootLlyn b k d c
  let u ← dirEntry 3 d
  some (k, l, imageAt b u, (dirEntries 4 d).map (imageAt b))

/-- The steps of a boot before the one that fails, or before Llynlek starts (R400, R401, R406): the key and copy in use, the base
microcode decrypted into its region, the patches. -/
def bootSteps (k : Nat) (b : BootInput) (c : Chip) : Chip :=
  match bootParts b c with
  | some (slot, (n, x), u, ps) =>
    let c1 := wr P.secLlynCopy n (wr P.secLlynSvn (imgSvn x) (wr P.secKeySlot slot (wr P.secLlynVer (imgVersion x) c)))
    if k == 0 || k == 8 then loadStore u ps c1 else if k == 7 then loadBase (ucodeWords u) c1 else c1
  | none => c

/-- The boot sequence on what the flash and the Cabinet hold (R24, R400, R401). -/
def bootRun (b : BootInput) (c0 : Chip) : Chip :=
  let k := bootFailure b c0
  let c := bootSteps k b ((bootReads b k c0).foldl (fun c o => emit o c) c0)
  if k != 0 then bootFail k c else llynStart b (wr P.secIdMismatch (b2n !b.idMatches) c)

/-- BOOT_SEQUENCE (R24, R26, R400, R401): the boot ROM waits at its flash read while REFCLK is absent or the fabric PLL unlocked. -/
def bootSequence (b : BootInput) (c : Chip) : Chip :=
  if c.md.mode == .boot && !c.md.bootStopped then
    (if fabricGood c then bootRun b { c with md := { c.md with bootWaits := none } }
     else { c with md := { c.md with bootWaits := some b } })
  else c

/-! ### Commands -/

/-- BOOT_ENTRY (R20). -/
def execBootEntry (s : State) : Host.Outcome State Fault Refusal := onChip bootEntry s

/-- BOOT_SEQUENCE (R400). -/
def execBootSequence (b : BootInput) (s : State) : Host.Outcome State Fault Refusal := onChip (bootSequence b) s

end Sys2Proof.Machine
end

