-- ==== Sys2Proof/Machine/Boundary.lean ====
section
/-!
DEFINITION. Shot boundaries (R203, R207): a SHOT or END slot executes, and what waits for the pacer's boundary: a commanded HOLD
or READY (R20), a phase change (R43), a switch of read-out corrections (R130) and the REFCOMP factor (R436).
-/

namespace Sys2Proof.Machine

/-! ### What waits for a boundary -/

/-- The pending change of TL_PHASE takes effect (R43), unless TL_PHASE is frozen (R49). -/
def phaseApply (c : Chip) : Chip :=
  if c.tl.phasePending == 0 || c.tl.state != 3 then c
  else wrS P.tlTlPhase (rdS P.tlTlPhase c + c.tl.phasePending) { c with tl := { c.tl with phasePending := 0 } }

/-- The REFCOMP factor that waits goes on its way into the strings (R436). -/
def refcompApply (c : Chip) : Chip :=
  match c.th.nextFactor with
  | none => c
  | some f => { c with th := { c.th with nextFactor := none, factorDue := some (c.clk + 100, f) } }

/-- The pacer's boundary (R43, R130, R207, R436). -/
def pacerBoundary (c : Chip) : Chip := refcompApply (switchAtBoundary (phaseApply c))

/-! ### One sequencer's boundary -/

/-- The slot of a SHOT or END leaves, and its checkpoint entry with it; a SHOT's is now the last executed (R184, R209). -/
def boundaryPop (s : Nat) (l : Latched) (c : Chip) : Chip :=
  let x := sqOf s c
  let k := if l.slot.kind == 0x05 then x.checks.head?.join else none
  setSq s { x with latched := x.latched.erase l, checks := x.checks.drop 1, opening := false, check := k.or x.check } c

/-- A SHOT slot executes: the shot in progress is closed, and its own opened, unless the Crivon leaves RUN at this boundary (R203). -/
def shotSlot (s : Nat) (opens : Bool) (l : Latched) (c : Chip) : Chip :=
  wr (P.sqBoundaryGt s) c.tl.gt (boundaryPop s l (closeShot s false false false (if opens then some l.slot.shot else none) c))

/-- An END slot executes: the sequencer is done (R203). -/
def endSlot (s : Nat) (l : Latched) (c : Chip) : Chip :=
  let c1 := boundaryPop s l (closeShot s false false true none c)
  wr (P.sqSqDone s) 1 (setSq s { sqOf s c1 with issuing := false } c1)

/-- Every SHOT, or END, slot of a sequencer for this tick, in posting order (R190). -/
def shotSlots (s : Nat) (c : Chip) : Chip := (actNow s 0x05 c).foldl (fun d l => shotSlot s true l d) c
def endSlots (s : Nat) (c : Chip) : Chip := (actNow s 0x0A c).foldl (fun d l => endSlot s l d) c

/-- A shot opened in this tick is taken back: the Crivon leaves RUN at this boundary (R203). -/
def shotUnopen (c : Chip) (s : Nat) : Chip :=
  if (sqOf s c).progress.isSome && rd (P.sqBoundaryGt s) c == c.tl.gt then setSq s { sqOf s c with progress := none } c else c

/-- Every boundary of this tick but the pacer's closes its shot and opens none. -/
def closeOthers (pacer : Nat) (c : Chip) : Chip :=
  (List.range 64).foldl (fun c s => if s == pacer then c else shotUnopen (endSlots s (shotSlots s c)) s) c

/-- A boundary of sequencer s is the pacer's. -/
def isPacer (s : Nat) (c : Chip) : Bool := rd P.sqSqPacer c == s && on (P.sqSqEn s) c

/-- The commanded HOLD or READY that waits for a boundary of sequencer s (R20, R207). -/
def boundaryMode (s : Nat) (c : Chip) : Option Mode := if isPacer s c then modeWaits c else none

/-- It takes effect, or GT is no longer vouched for (R53). -/
def boundaryGoes (c : Chip) : Bool := c.md.transGt == 0 || vouched c

/-- SHOT_BOUNDARY (R190, R203, R207): every SHOT slot of this tick acts; the first at which HOLD or READY is entered is the last. -/
def shotBoundary (s : Nat) (c : Chip) : Chip :=
  match actNow s 0x05 c with
  | [] => c
  | l :: _ =>
    let c0 := if isPacer s c then pacerBoundary c else c
    match boundaryMode s c with
    | some m => if boundaryGoes c then completed m (closeOthers s (shotSlot s false l c0)) else shotSlots s (dropTransition St.notAligned c0)
    | none => shotSlots s c0

/-- END_BOUNDARY (R203, R207). -/
def endBoundary (s : Nat) (c : Chip) : Chip :=
  if (actNow s 0x0A c).isEmpty then c
  else
    let c1 := endSlots s (if isPacer s c then pacerBoundary c else c)
    match boundaryMode s c with
    | some m => if boundaryGoes c then completed m (closeOthers s c1) else dropTransition St.notAligned c1
    | none => c1

/-! ### Commands -/

/-- SHOT_BOUNDARY (R203). -/
def execShotBoundary (sq : Fin 64) (s : State) : Host.Outcome State Fault Refusal := onChip (shotBoundary sq.val) s

/-- END_BOUNDARY (R203). -/
def execEndBoundary (sq : Fin 64) (s : State) : Host.Outcome State Fault Refusal := onChip (endBoundary sq.val) s

end Sys2Proof.Machine
end

