-- ==== Sys2Proof/Machine/Timeline.lean ====
section
/-!
DEFINITION. The timeline's own events: the epoch (R33–R36), beacons and alignment (R38–R43, R48–R50, R269, R270, R282, R284) and
snapshots (R57–R60, R272).
-/

namespace Sys2Proof.Machine

/-! ### The epoch (R33–R36) -/

/-- The GT that an EPOCH pulse sampled in this tick has at its effect tick (R33). -/
def epochEffect (c : Chip) : Nat := c.tl.gt + 8

/-- A pulse passes the check of R36: its effect tick lies a whole multiple of EPOCH_PERIOD from EPOCH_GT. -/
def epochFits (c : Chip) : Bool :=
  ((epochEffect c : Int) - (rd P.tlEpochGt c : Nat)) % (rd P.tlEpochPeriod c : Nat) == 0

/-- EPOCH as a rising edge of REFCLK samples it (R33, R36). DESIGN CHOICE (log): GT_LOST of a pulse that fails the check is set in the tick
that samples it, not at its effect tick. -/
def epochPulse (high : Bool) (c : Chip) : Chip :=
  if !c.tl.counting || c.pw.forcedZero then c
  else
    let rises := high && !c.tl.epochHigh
    let c1 := { c with tl := { c.tl with epochHigh := high } }
    if on P.tlEpochArmed c then
      (if high && c.tl.epochAt.isNone then { c1 with tl := { c1.tl with epochAt := some (c.clk + 8) } } else c1)
    else if rises && c.tl.epochLoaded && rd P.tlEpochPeriod c != 0 && c.md.mode != .syncing && !epochFits c then
      settle (gtLoss false c1)
    else c1

/-- EPOCH_LOAD, at the pulse's effect tick (R33–R35): a GT step; in SYNCING under EXTERNAL or MESH_ROOT, GT is then aligned. -/
def epochLoad (c : Chip) : Chip :=
  match c.tl.epochAt with
  | none => c
  | some t =>
    if t != c.clk then c
    else
      let c1 := { c with tl := { c.tl with epochAt := none } }
      if c.pw.forcedZero || !c.tl.counting then c1
      else
        let c2 := gtStep (rd P.tlEpochGt c) (wr P.tlEpochArmed 0 { c1 with tl := { c1.tl with epochLoaded := true } })
        if c2.md.mode == .syncing && c2.tl.align == .waitEpoch then aligned c2 else c2

/-! ### Beacons (R38, R269, R270) -/

/-- The beacon state of a group. -/
def portOf (g : Nat) (c : Chip) : BeaconPort := c.tl.beacon.getD g BeaconPort.reset

/-- Put it. -/
def setPort (g : Nat) (p : BeaconPort) (c : Chip) : Chip := { c with tl := { c.tl with beacon := c.tl.beacon.set g p } }

/-- The members of the uplink of a follower (R270, R281): the group TL_UPLINK names, and its partner if it is paired. -/
def uplinks (c : Chip) : List Nat :=
  if rd P.tlTlSource c == 2 then
    let u := rd P.tlTlUplink c
    if paired u c then [u, partner u] else [u]
  else []

/-- The member of the uplink from which the follower computes θ: the active one (R282). -/
def uplinkActive (c : Chip) : Nat :=
  let u := rd P.tlTlUplink c
  if paired u c && (lgState (partner u) c == lgActive || lgState (partner u) c == lgSwitching) then partner u else u

/-- A stamp as 72 bits: GT and fraction (R45). -/
def stamp72 (t : Int) : Nat := toField 72 t

/-- A beacon's payload as three 64-bit words (R269). -/
def beaconWords (tx : Nat) (p : BeaconPort) (state depth : Nat) : List Nat :=
  let eTx := p.lastTx
  let eRx := p.lastRx
  [bits tx 8 64,
   bits tx 0 8 + bits eTx 8 32 * 2 ^ 8 + bits eTx 0 8 * 2 ^ 40 + bits eRx 8 16 * 2 ^ 48,
   bits eRx 24 16 + bits eRx 0 8 * 2 ^ 16 + (state % 8 + depth % 8 * 8 + 64 * b2n p.seen) * 2 ^ 24]

/-- BEACON_TX (R38, R270, R274): a due beacon leaves at a free column; its stamp is its comma's instant at the pin, in common
time. -/
def beaconTx (g raw : Nat) (c : Chip) : Chip :=
  if beaconDue g c && timingMay g c then
    let p := portOf g c
    let ws := beaconWords (stamp72 (commonTime raw c)) p c.tl.state (depthOf c)
    timingSent g 1 ws (setPort g { p with txDue := none } c)
  else c

/-! ### Exchanges (R39, R40, R43) -/

/-- An echo GT restored: the value congruent to 32 bits nearest to a beacon's own GT (R269). -/
def echoGt (lo near : Nat) : Int :=
  (near : Int) + sgn 32 ((lo + 2 ^ 32 - near % 2 ^ 32) % 2 ^ 32)

/-- Half of a value in units of 1/256 tick, or a mean; how a fraction is rounded is left open. -/
def meanOf (s : Int) (n : Nat) : Int := wholeDiv s n

/-- Write a value into an unsigned field; outside the field's range the spec states no value. -/
def wrFit (f : Field) (v : Int) (c : Chip) : Chip :=
  if decide (0 ≤ v ∧ v < (2 ^ f.w : Nat)) then wr f v.toNat c else let d := draw f.w c; wr f d.1 d.2

/-- The same for a signed field. -/
def wrFitS (f : Field) (v : Int) (c : Chip) : Chip :=
  if satS f.w v == v then wrS f v c else let d := draw f.w c; wr f d.1 d.2

/-- The two differences of an exchange (R39): t2 − t1 and t4 − t3. -/
def exchange (b : Beacon) (t2 : Int) : Int × Int :=
  let t1 : Int := (b.txGt.toNat * 256 + b.txF.toNat : Nat)
  let t3 := echoGt b.echoTxGt.toNat b.txGt.toNat * 256 + (b.echoTxF.toNat : Int)
  let t4 := echoGt b.echoRxGt.toNat b.txGt.toNat * 256 + (b.echoRxF.toNat : Int)
  (t2 - t1, t4 - t3)

/-- Round trip and forward delay of an exchange (R39, R282). -/
def noteExchange (g : Nat) (d : Int × Int) (c : Chip) : Chip :=
  wrFit (P.tlgLinkDelay g) (meanOf (d.1 + d.2 + rdS (P.tlgLinkAsym g) c) 2) (wrFit (P.tlgLinkRtt g) (d.1 + d.2) c)

/-- θ of the exchange enters the window, as 2θ; TL_OFFSET_EST is the window's mean (R39). -/
def pushTheta (g : Nat) (d : Int × Int) (c : Chip) : Chip :=
  let ts := ((d.1 - d.2 - rdS (P.tlgLinkAsym g) c) :: c.tl.thetas).take 16
  wrFitS P.tlTlOffsetEst (meanOf ts.sum (2 * ts.length)) { c with tl := { c.tl with thetas := ts } }

/-- An aligned follower corrects its phase (R43). -/
def trackPhase (c : Chip) : Chip :=
  let est := rdS P.tlTlOffsetEst c
  if c.tl.state == 3 && est != 0 then { c with tl := { c.tl with phasePending := c.tl.phasePending + est, thetas := [] } } else c

/-- The beacon load (R40): GT takes the upstream transmit stamp plus the forward delay, TL_PHASE the fraction. -/
def beaconLoad (g : Nat) (b : Beacon) (c : Chip) : Chip :=
  let t := b.txGt.toNat * 256 + b.txF.toNat + rd (P.tlgLinkDelay g) c
  let c1 := wrS P.tlTlPhase ((t % 256 : Nat) : Int) (gtStep (t / 256) c)
  { c1 with tl := { c1.tl with align := .collect, alignN := 0, thetas := [] } }

/-- An alignment moves to a step of R40. -/
def alignTo (a : AlignStep) (n : Nat) (c : Chip) : Chip := { c with tl := { c.tl with align := a, alignN := n } }

/-- A beacon on the uplink of a follower in SYNCING (R40, R41): `ex` if it yields an exchange. -/
def alignStep (g : Nat) (b : Beacon) (ex : Bool) (c : Chip) : Chip :=
  let est := rdS P.tlTlOffsetEst c
  let n := c.tl.alignN + 1
  match c.tl.align with
  | .waitUp => if b.gtState.toNat == 3 then alignTo (if ex then .load else .measure) 0 c else c
  | .measure => if ex then alignTo .load 0 c else c
  | .load => beaconLoad g b c
  | .collect =>
    if !ex then c
    else if n < 16 then alignTo .collect n c
    else
      let c1 := wrFitS P.tlTlPhase (rdS P.tlTlPhase c + est) c
      alignTo .verify 0 { c1 with tl := { c1.tl with thetas := [] } }
  | .verify =>
    if !ex then c
    else if decide (est < -1 ∨ 1 < est) then alignTo .verify 0 c
    else if n < 16 || decide (4 ≤ b.depth.toNat) then alignTo .verify n c
    else aligned c
  | .idle | .waitEpoch => c

/-- TL_PHASE plus the pending change would exceed ±96 units (R48). -/
def phaseOver (c : Chip) : Bool :=
  let x := rdS P.tlTlPhase c + c.tl.phasePending
  decide (x < -96 ∨ 96 < x)

/-- What a follower does with a beacon of its uplink's active member (R39–R43, R48, R49). -/
def uplinkBeacon (g : Nat) (b : Beacon) (d : Int × Int) (c : Chip) : Chip :=
  let c0 := wr P.tlTlDepth (min 7 (b.depth.toNat + 1)) (if c.tl.state == 4 then { c with tl := { c.tl with state := 3 } } else c)
  if b.gtState.toNat == 5 then settle (gtLoss false c0)
  else
    let c1 := if b.echoValid then trackPhase (pushTheta g d c0) else c0
    if b.echoValid && phaseOver c1 then settle (gtLoss false c1)
    else if c1.md.mode == .syncing then alignStep g b b.echoValid c1 else c1

/-- BEACON_RX (R38–R43, R48–R50, R269, R282, R284). -/
def beaconRx (rx : Rx) (b : Beacon) (raw : Nat) (c : Chip) : Chip :=
  let g := rx.lg.val
  if timingHeard rx c then
    let t2 := commonTime raw c
    let up := (uplinks c).contains g
    let c1 := heard rx (count (P.lgTimingFramesRx g) (countT (P.tlgBeaconRx g) (144 + g) c))
    let c2 := if paired g c then setPort (partner g) { portOf (partner g) c1 with missed := 0 } c1 else c1
    let c3 := setPort g { portOf g c2 with
      seen := true, lastTx := b.txGt.toNat * 256 + b.txF.toNat, lastRx := stamp72 t2, lastClk := some c.clk, missed := 0,
      txDue := if up then some (b.txGt.toNat + 100) else (portOf g c2).txDue } c2
    let d := exchange b t2
    let c4 := if up && b.echoValid then noteExchange g d c3 else c3
    if up && g == uplinkActive c then uplinkBeacon g b d c4 else c4
  else c

/-! ### Missed beacons (R48, R49, R284) -/

/-- The tick count of the last beacon received on a group, or on either member of its pair. -/
def lastBeacon (g : Nat) (c : Chip) : Option Nat :=
  if paired g c then (match (portOf g c).lastClk, (portOf (partner g) c).lastClk with
    | some a, some b => some (max a b)
    | some a, none => some a
    | none, o => o)
  else (portOf g c).lastClk

/-- A beacon of the group is missed in this tick (R49). -/
def beaconMissed (g : Nat) (c : Chip) : Bool :=
  timingModes c && (match lastBeacon g c with
    | some t => decide (t + 4096 * ((portOf g c).missed + 1) + 256 ≤ c.clk)
    | none => false)

/-- BEACON_MISS (R48–R50): the first on the uplink is HOLDOVER, the eighth a loss of GT. -/
def beaconMiss (g : Nat) (c : Chip) : Chip :=
  if beaconMissed g c then
    let n := (portOf g c).missed + 1
    let c1 := countT (P.tlgBeaconMiss g) (148 + g) (setPort g { portOf g c with missed := n } c)
    if (uplinks c).contains g && g == uplinkActive c then
      let c2 := if c1.tl.state == 3 then { c1 with tl := { c1.tl with state := 4 } } else c1
      if n == 8 then settle (gtLoss false c2) else c2
    else c1
  else c

/-! ### Snapshots (R57–R60) -/

/-- The copy of the oldest latch starts in this tick: its bank is not valid until it is complete (R59). -/
def copyStart (c : Chip) : Chip :=
  match c.tl.latches with
  | [] => c
  | l :: _ => wr (W.snapValid l.bank) 0 { c with tl := { c.tl with copyAt := c.clk } }

/-- A latch, or a missed snapshot, is given a bank and waits for its copy (R58, R59). It holds the totals as they stood at the
start of the tick (R54). -/
def giveBank (x : Snap) (missed : Bool) (c : Chip) : Chip :=
  let l : Latch := { gt := x.gt, id := x.id, mesh := x.mesh, unaligned := !vouched c && !missed, missed := missed, bank := c.tl.nextBank,
                     totals := if missed then [] else c.now.tot }
  let c1 := { c with tl := { c.tl with latches := c.tl.latches ++ [l], nextBank := 1 - c.tl.nextBank } }
  let c2 := if c.tl.latches.isEmpty then copyStart c1 else c1
  if missed then count P.tlSnapMissedCount c2 else c2

/-- A pending snapshot whose GT has come: latched, or missed when eight latches wait; its requesters are told (R58, R59, R374).
A latch whose copy is in progress still waits for its bank, so it counts among the eight (DESIGN CHOICE: the spec leaves it
open). -/
def latchOne (c : Chip) (x : Snap) : Chip :=
  let full := decide (8 ≤ (c.tl.latches.filter (fun l => !l.missed)).length)
  x.issuers.foldl (fun c i => finish (some i) St.ok [x.id] c) (giveBank x full c)

/-- SNAPSHOT_LATCH (R54, R59). -/
def snapshotLatch (c : Chip) : Chip :=
  let due := c.tl.snaps.filter (fun x => x.gt == c.tl.gt)
  due.foldl latchOne { c with tl := { c.tl with snaps := c.tl.snaps.filter (fun x => x.gt != c.tl.gt) } }

/-- SNAPSHOT_FRAME_RX (R57, R58, R272): queued and forwarded; late, or with no room, it is missed. -/
def snapshotFrame (rx : Rx) (gt id issuer : Nat) (c : Chip) : Chip :=
  if timingHeard rx c then
    let c1 := heard rx (count (P.lgTimingFramesRx rx.lg.val) c)
    if c.tl.snapSeen.contains (issuer, id) then c1
    else
      let c2 := floodTiming .snapshot (snapWords gt id issuer) (some rx.lg.val) 0
        { c1 with tl := { c1.tl with snapSeen := (issuer, id) :: c1.tl.snapSeen } }
      let x : Snap := { gt := gt, id := id, mesh := true, node := issuer, issuers := [] }
      if gt < c.tl.gt || decide (8 ≤ c.tl.snaps.length) || !schedRoom c then giveBank x true c2
      else if gt == c.tl.gt then latchOne c2 x
      else { c2 with tl := { c2.tl with snaps := c2.tl.snaps ++ [x] } }
  else c

/-- Banks completed in the window since BOOT (R59): the higher SNAP_SEQ. -/
def banksDone (c : Chip) : Nat := max (rd (W.snapSeq 0) c) (rd (W.snapSeq 1) c)

/-- The fields of a bank as a latch leaves them (R60). -/
def bankFields (l : Latch) (seq : Nat) (c : Chip) : Chip :=
  let b := l.bank
  let c1 := (List.range 254).foldl (fun c k => wr (W.snapSlot b k) (Tab.get l.totals k 0) c) c
  wr (W.snapValid b) 1 (wr (W.snapSeq b) seq (wr (W.snapMissed b) (b2n l.missed) (wr (W.snapUnaligned b) (b2n l.unaligned)
    (wr (W.snapScope b) (b2n l.mesh) (wr (W.snapId b) l.id (wr (W.snapGtHi b) (l.gt / 2 ^ 32) (wr (W.snapGtLo b) l.gt c1)))))))

/-- SNAPSHOT_BANK_COPY (R59, R60): the copy in progress is complete, and the next one starts. -/
def bankCopy (c : Chip) : Chip :=
  match c.tl.latches with
  | [] => c
  | l :: ls => copyStart (bankFields l (banksDone c + 1) { c with tl := { c.tl with latches := ls } })

/-! ### Commands -/

/-- EPOCH_PULSE (R33, R36). -/
def execEpochPulse (high : Bool) (s : State) : Host.Outcome State Fault Refusal := onChip (epochPulse high) s

/-- EPOCH_LOAD (R33–R35). -/
def execEpochLoad (s : State) : Host.Outcome State Fault Refusal := onChip epochLoad s

/-- BEACON_TX (R269, R270). -/
def execBeaconTx (lg : Fin 4) (gt : BitVec 64) (f : BitVec 8) (s : State) : Host.Outcome State Fault Refusal :=
  onChip (beaconTx lg.val (gt.toNat * 256 + f.toNat)) s

/-- BEACON_RX (R38–R43, R269). -/
def execBeaconRx (rx : Rx) (b : Beacon) (gt : BitVec 64) (f : BitVec 8) (s : State) : Host.Outcome State Fault Refusal :=
  rxChip rx.lg.val (.beaconRx rx b gt f) (beaconRx rx b (gt.toNat * 256 + f.toNat)) s

/-- BEACON_MISS (R49). -/
def execBeaconMiss (lg : Fin 4) (s : State) : Host.Outcome State Fault Refusal := onChip (beaconMiss lg.val) s

/-- SNAPSHOT_FRAME_RX (R57, R58, R272). -/
def execSnapshotFrameRx (rx : Rx) (gt : BitVec 64) (id : BitVec 16) (issuer : Fin 64) (s : State) : Host.Outcome State Fault Refusal :=
  rxChip rx.lg.val (.snapshotFrameRx rx gt id issuer) (snapshotFrame rx gt.toNat id.toNat issuer.val) s

/-- SNAPSHOT_LATCH (R59). -/
def execSnapshotLatch (s : State) : Host.Outcome State Fault Refusal := onChip snapshotLatch s

/-- SNAPSHOT_BANK_COPY (R59). -/
def execSnapshotBankCopy (s : State) : Host.Outcome State Fault Refusal := onChip bankCopy s

end Sys2Proof.Machine
end

