-- ==== Sys2Proof/Machine/Microcode.lean ====
section
/-!
DEFINITION. Micro-traps (R248, R249, R251, R256), and the repair of a replica from the control store (R248, R251).
-/

namespace Sys2Proof.Machine

/-! ### Traps (R248, R249) -/

/-- The engine executes microwords in this tick: its sequencer issues, nothing holds its replica, and no FAULT trap, whose code is lower,
is due (R239, R248, R251). -/
def engineRuns (e : Nat) (c : Chip) : Bool :=
  (sqOf e c).issuing && !(microOf e c).stopped && (match (sqOf e c).faulting with
    | some (t, _) => decide (c.clk < t)
    | none => true)

/-- The number of the microword that a trap in this tick takes the place of (R248). -/
def wordDue (e : Nat) (c : Chip) : Nat := (regsNow e c).upc

/-- The trap frame is full (R249). -/
def frameFull (e : Nat) (c : Chip) : Bool := decide (8 ≤ (microOf e c).frame.length)

/-- A trap that resumes n ticks later: traps under way end n ticks later too, and the instruction's issue moves by n ticks, one
less when its word waits at the gate (R247–R249). -/
def trapResumes (e cause n : Nat) (c : Chip) : Chip :=
  let c1 := noteSeen e c
  let m := microOf e c1
  let c2 := trapPush e cause (some (c.clk + n)) (setMicro e { m with frame := m.frame.map (fun p => (p.1, p.2.map (· + n))) } c1)
  let x := sqOf e c2
  let d := if x.stall == 0 || x.waiting.isSome then n else n - 1
  countN (P.mceTrapTicks e) n (setSq e { x with first := x.first + d } c2)

/-- A word of a replica is rewritten from the control store region, a word of zeros as one that no image wrote (R239, R248, R251). -/
def rewriteWord (r w : Nat) (c : Chip) : Chip :=
  let t := Tab.get c.mc.replicas r []
  { c with mc := { c.mc with replicas := Tab.put c.mc.replicas r [] (Tab.put t w 0 (BitVec.ofNat 128 (storeWord w c))) } }

/-- ECC_CE: the replica word is rewritten from the store, and the word executes at most 6 ticks later (R248). -/
def eccCeTrap (e n : Nat) (c : Chip) : Chip :=
  if engineRuns e c && decide (1 ≤ n ∧ n ≤ 6) then
    let c1 := rewriteWord (e / 16) (wordDue e c) (count (P.mceCeTraps e) c)
    if frameFull e c1 then mcFault 1 c1 e else trapResumes e 3 n c1
  else c

/-- The reads that wait for a PEEK receive the copy it took (R256). -/
def peekAnswer (e : Nat) (c : Chip) : Chip :=
  let m := microOf e c
  let value (k : Nat) : Nat := m.copy.getD ((microItem k).getD 0) 0
  m.peek.foldl (fun c p => answer p.1 St.ok [value p.2, 0] c) (setMicro e { m with peek := [] } c)

/-- PEEK: micro-state is copied, and the word executes at most 8 ticks later (R248, R256). It waits while another trap is served, and
for a word with TRAPM = 1. -/
def peekTrap (e n : Nat) (c : Chip) : Chip :=
  if engineRuns e c && !inTrap e c && !uTrapm (uWordAt e (wordDue e c) c) && !(microOf e c).peek.isEmpty && decide (1 ≤ n ∧ n ≤ 8) then
    let c1 := setMicro e { microOf e c with copy := microNow e (setURegs e (regsNow e c) c) } (count (P.mcePeekTraps e) c)
    peekAnswer e (trapResumes e 4 n c1)
  else c

/-- A word of a replica awaits its repair (R251). -/
def noteBad (r w : Nat) (c : Chip) : Chip :=
  { c with mc := { c.mc with bad := Tab.ins c.mc.bad r ((Tab.get c.mc.bad r [] ++ [w]).dedup) } }

/-- ECC_UE: the engine stops, R16 applies, and no engine of its replica issues until the repair (R248, R251). -/
def eccUeTrap (e : Nat) (c0 : Chip) : Chip :=
  if engineRuns e c0 then
    let c := noteBad (e / 16) (wordDue e c0) c0
    let full := frameFull e c
    let c1 := setSq e { sqOf e c with issuing := false, waiting := none, stall := 0, bindAt := none } (trapPush e 2 none c)
    let c2 := (List.range 16).foldl (fun c k => let j := 16 * (e / 16) + k
      setMicro j { microOf j c with stopped := true } c) c1
    let c3 := eccUe .store (servePeeks e c2)
    if full then mcFault 1 c3 e else c3
  else c0

/-- STORE_REPAIR: the replica words that await it are rewritten, or, when the store's own word is bad, STORE_BAD (R251). -/
def storeRepair (r : Nat) (bad : Bool) (c : Chip) : Chip :=
  let es := (List.range 16).map (fun k => 16 * r + k)
  if es.any (fun e => (microOf e c).stopped) then
    let c1 := es.foldl (fun c e => setMicro e { microOf e c with stopped := false } c) c
    let c2 := { c1 with mc := { c1.mc with bad := Tab.del c1.mc.bad r } }
    if bad then es.foldl (mcFault 3) (wr P.mcMcStoreBad 1 c2) else (Tab.get c.mc.bad r []).foldl (fun c w => rewriteWord r w c) c2
  else c

/-! ### Commands -/

/-- ECC_CE_TRAP (R248). -/
def execEccCeTrap (sq : Fin 64) (ticks : Nat) (s : State) : Host.Outcome State Fault Refusal := onChip (eccCeTrap sq.val ticks) s

/-- ECC_UE_TRAP (R248, R251). -/
def execEccUeTrap (sq : Fin 64) (s : State) : Host.Outcome State Fault Refusal := onChip (eccUeTrap sq.val) s

/-- PEEK_TRAP (R248, R256). -/
def execPeekTrap (sq : Fin 64) (ticks : Nat) (s : State) : Host.Outcome State Fault Refusal := onChip (peekTrap sq.val ticks) s

/-- STORE_REPAIR (R251). -/
def execStoreRepair (replica : Fin 4) (regionBad : Bool) (s : State) : Host.Outcome State Fault Refusal :=
  onChip (storeRepair replica.val regionBad) s

end Sys2Proof.Machine
end

