-- ==== Sys2Proof/Machine/Thermal.lean ====
section
/-!
DEFINITION. The thermal block (R423–R438): sensors and TJ_MAX, the warning, the throttle, the NV window, SHUTDOWN, REFCOMP and
telemetry. Temperatures count 1/8 °C.
-/

namespace Sys2Proof.Machine

/-- 10 ms, the dwell of R423, R428, R429 and R431. -/
def dwell : Nat := 10000000

/-- A condition has stood for 10 ms. -/
def dwelt (since : Option Nat) (c : Chip) : Bool :=
  match since with
  | some t => decide (t + dwell ≤ c.clk)
  | none => false

/-- Note since when a condition stands. -/
def since (b : Bool) (old : Option Nat) (c : Chip) : Option Nat := if b then some (old.getD c.clk) else none

/-- A sensor sample falls in this tick. -/
def sampleNow (c : Chip) : Bool := c.th.sampledAt == some c.clk

/-! ### Telemetry (R437) -/

/-- The 32 bytes of a record. -/
def telemBytes (cause : Nat) (c : Chip) : List Byte :=
  let failed := (List.range 9).foldl (fun n s => n + 2 ^ s * rd (W.sensorFailed s) c) 0
  leBytes 8 c.tl.gt ++ (List.range 9).flatMap (fun s => leBytes 2 (toField 16 (rdS (W.sensorT s) c))) ++
    leBytes 1 (rd W.thrLevel c + 8 * cause) ++ leBytes 1 (rd W.tjWarn c + 2 * rd W.refcompOn c) ++ leBytes 2 failed ++ leBytes 2 0

/-- The address of the record with count k. -/
def telemAddr (k : Nat) : Nat := 0x02EA0000 + 32 * (k % 4096)

/-- Write a record's bytes at count k. -/
def telemStore (k cause : Nat) (c : Chip) : Chip :=
  { c with mem := memPut c.mem (telemAddr k) (telemBytes cause c), th := { c.th with telemLast := some (c.clk, cause) } }

/-- A record is due: one for each sample, with the lowest cause of those due; none in RESET, and none after that of SHUTDOWN
(R432, R437, R438). -/
def telemWrite (cause : Nat) (c : Chip) : Chip :=
  if c.md.mode == .reset || c.md.mode == .shutdown then c
  else
    let k := rd P.thmTelemCount c
    match c.th.telemLast with
    | some (t, old) => if t == c.clk then telemStore (k + 2 ^ 48 - 1) (min old cause) c else stepT P.thmTelemCount 249 (telemStore k cause c)
    | none => stepT P.thmTelemCount 249 (telemStore k cause c)

/-- The record of this sample, if there is one, shows what the sample has changed since. -/
def telemRefresh (c : Chip) : Chip :=
  match c.th.telemLast with
  | some (t, old) => if t == c.clk then telemWrite old c else c
  | none => c

/-! ### Sensors (R424–R427) -/

/-- The two neighbours of a sensor (R425). -/
def neighbours (s : Nat) : List Nat :=
  match s with
  | 0 => [4, 1] | 1 => [0, 2] | 2 => [1, 3] | 3 => [2, 8] | 4 => [6, 0] | 5 => [8, 7] | 6 => [7, 4] | 7 => [5, 6] | _ => [3, 5]

/-- A raw reading is plausible (R424). -/
def plausible (t : Int) : Bool := decide (-320 ≤ t ∧ t ≤ 1200)

/-- Sensor s of a raw sample. -/
def rawOf (raw : List Int) (s : Nat) : Int := raw.getD s 0

/-- A sensor counts in the checks of this sample (R425). -/
def counts (raw : List Int) (c : Chip) (s : Nat) : Bool := !on (W.sensorFailed s) c && plausible (rawOf raw s)

/-- A sensor differs by more than 12 °C from the mean of its neighbours that count; none: it is not checked (R425). -/
def disagrees (raw : List Int) (s : Nat) (c : Chip) : Option Bool :=
  let ns := ((neighbours s).filter (counts raw c)).map (rawOf raw)
  if ns.isEmpty then none
  else
    let d := rawOf raw s * (ns.length : Int) - ns.sum
    some (decide (96 * (ns.length : Int) < d ∨ d < -(96 * (ns.length : Int))))

/-- DISAGREE of a sensor after this sample (R425). -/
def disagreeNext (raw : List Int) (s : Nat) (c : Chip) : Nat :=
  let n := rd (P.senDisagree s) c
  if !counts raw c s then n
  else match disagrees raw s c with
    | none => n
    | some b => if b then min 8 (n + 1) else 0

/-- The sensors that this sample marks failed (R424, R425). -/
def newFailures (raw : List Int) (c : Chip) : List Nat :=
  (List.range 9).filter (fun s => !on (W.sensorFailed s) c && (!plausible (rawOf raw s) || disagreeNext raw s c == 8))

/-- Mark a sensor failed (R426). -/
def markFailed (c : Chip) (s : Nat) : Chip := wr (P.senFailGt s) c.tl.gt (wr (P.senFailed s) 1 (wr (W.sensorFailed s) 1 c))

/-- What a sample's failures do (R426, R430). -/
def failures (fs : List Nat) (c : Chip) : Chip :=
  if fs.isEmpty then c
  else
    let c1 := setFlag P.thmSensorFailEvt (fs.foldl markFailed c)
    { c1 with th := { c1.th with holdUntil := c.clk + 100000000 } }

/-- The sensors that are not failed. -/
def good (c : Chip) : List Nat := (List.range 9).filter (fun s => !on (W.sensorFailed s) c)

/-- The highest of some readings. -/
def highest (ts : List Int) : Option Int :=
  match ts with
  | [] => none
  | t :: r => some (r.foldl max t)

/-- The reading in force of a sensor (R424, R426): its own, or its substitute, while some sensor is not failed. -/
def inForce (raw : List Int) (s : Nat) (c : Chip) : Int :=
  let best (ss : List Nat) : Option Int := highest (ss.map (rawOf raw))
  if !on (W.sensorFailed s) c then rawOf raw s
  else match best ((neighbours s).filter (fun n => !on (W.sensorFailed n) c)) with
    | some t => t + 48
    | none => match best (good c) with
      | some t => t + 48
      | none => rdS (W.sensorT s) c

/-- Readings in force, TJ_MAX and the window after a sample (R339, R424, R426). -/
def readings (raw : List Int) (c : Chip) : Chip :=
  let ts := (List.range 9).map (fun s => inForce raw s c)
  let c1 := (List.range 9).foldl (fun c s => wrS (W.sensorT s) (ts.getD s 0) c) c
  wr W.sampleGt c.tl.gt (wrS W.tjMax ((highest ts).getD 0) c1)

/-! ### Thresholds (R423, R427–R432) -/

/-- TJ_MAX. -/
def tj (c : Chip) : Int := rdS W.tjMax c

/-- The levels' rise and fall thresholds (R429). -/
def riseAt (l : Nat) : Int := 768 + 32 * (l : Int)
def fallBelow (l : Nat) : Int := 744 + 32 * (l : Int)

/-- The level that a sample asks for at once (R427, R429). -/
def riseTo (c : Chip) : Nat :=
  if on P.thmSensorsLow c then 4 else ((List.range 5).filter (fun l => l == 0 || decide (riseAt l ≤ tj c))).foldl max 0

/-- A change of THR_LEVEL (R336, R429). -/
def setLevel (l : Nat) (c : Chip) : Chip :=
  let old := rd W.thrLevel c
  let c1 := raise 0xEB (sendVector 0 0 (wr W.thrLevel l c))
  let c2 := if old == 0 then count P.thmThrEntryCount (setFlag P.thmThrottled c1) else c1
  telemWrite 2 (setFlagIf (l == 4) P.thmTopLevel c2)

/-- Since when the fall condition of the level in force stands (R429). -/
def fallSinceNow (old : Option Nat) (c : Chip) : Option Nat :=
  let l := rd W.thrLevel c
  since (l != 0 && decide (tj c < fallBelow l)) old c

/-- The warning at a sample (R428). -/
def warnStep (c : Chip) : Chip :=
  let c1 := { c with th := { c.th with warnSince := since (decide (tj c < 736)) c.th.warnSince c } }
  if decide (760 ≤ tj c) && !on W.tjWarn c then alertSet 0 (raise 0xEA (count P.thmWarnCount (wr W.tjWarn 1 c1))) else c1

/-- The level at a sample: a rise acts at once (R427, R429). -/
def levelStep (c : Chip) : Chip :=
  let l := riseTo c
  if rd W.thrLevel c < l then
    let c1 := setLevel l c
    { c1 with th := { c1.th with fallSince := fallSinceNow none c1 } }
  else { c with th := { c.th with fallSince := fallSinceNow c.th.fallSince c } }

/-- The NV window at a sample: leaving it gives up every Cabinet write (R414, R431). -/
def nvStep (c : Chip) : Chip :=
  let inside := decide (40 ≤ tj c ∧ tj c ≤ 760)
  let c1 := { c with th := { c.th with nvSince := since inside c.th.nvSince c } }
  if inside || !on W.nvWindow c then c1 else nvAbandonAll (wr W.nvWindow 0 c1)

/-- The sampling rate at a sample (R423). -/
def rateStep (c : Chip) : Chip :=
  let mid := decide (80 < tj c ∧ tj c < 720)
  let c1 := { c with th := { c.th with midSince := since mid c.th.midSince c } }
  if mid then c1 else wr P.thmSenseFast 1 c1

/-- SHUTDOWN at a sample (R20, R432). -/
def hotStep (c : Chip) : Chip :=
  if decide (920 ≤ tj c) && c.md.mode != .shutdown then shutDown (telemWrite 0 c) else c

/-- Ticks between samples (R423). -/
def sampleSpacing (c : Chip) : Nat := if on P.thmSenseFast c then 62500 else 1000000

/-- A sample is due: the supplies are valid, and the spacing of R423 has passed. -/
def sampleDue (c : Chip) : Bool :=
  c.pw.supplies && (match c.th.sampledAt with
    | some t => decide (t + sampleSpacing c ≤ c.clk)
    | none => true)

/-- Fewer than three sensors are not failed (R427). -/
def sensorsLow (c : Chip) : Chip := if (good c).length < 3 then wr P.thmSensorsLow 1 c else c

/-- What a sample's raw readings make of the sensors (R424–R427). -/
def sensorStep (raw : List Int) (c : Chip) : Chip :=
  let fs := newFailures raw c
  let c1 := (List.range 9).foldl (fun d s => wr (P.senDisagree s) (disagreeNext raw s c) (wrS (P.senSensorRaw s) (rawOf raw s) d)) c
  sensorsLow (readings raw (failures fs c1))

/-- THERMAL_SAMPLE (R423–R432, R437): nine raw readings, each within its 12-bit field. -/
def thermalSample (raw : List Int) (c : Chip) : Chip :=
  if sampleDue c && raw.length == 9 && raw.all (fun t => satS 12 t == t) then
    let fs := newFailures raw c
    let c1 := sensorStep raw { c with th := { c.th with sampledAt := some c.clk } }
    let c2 := rateStep (nvStep (levelStep (warnStep c1)))
    hotStep (if fs.isEmpty then telemRefresh c2 else telemWrite 1 c2)
  else c

/-- TJ_WARN_CLEAR: at the first sample after 10 ms below 92 °C (R428). -/
def tjWarnClear (c : Chip) : Chip :=
  if sampleNow c && on W.tjWarn c && dwelt c.th.warnSince c then telemRefresh (wr W.tjWarn 0 c) else c

/-- The level may fall in this tick (R427, R429, R430). -/
def mayFall (c : Chip) : Bool :=
  sampleNow c && rd W.thrLevel c != 0 && !on P.thmSensorsLow c && dwelt c.th.fallSince c && decide (c.th.holdUntil ≤ c.clk)

/-- THROTTLE_FALL: by one level; a further fall dwells anew (R429). -/
def throttleFall (c : Chip) : Chip :=
  if mayFall c then
    let c1 := setLevel (rd W.thrLevel c - 1) c
    { c1 with th := { c1.th with fallSince := fallSinceNow none c1 } }
  else c

/-- THROTTLE_HOLD_END: the hold is over, and a fall that waits may take place (R430). -/
def holdEnd (c : Chip) : Chip :=
  if c.th.holdUntil != 0 && decide (c.th.holdUntil ≤ c.clk) then throttleFall { c with th := { c.th with holdUntil := 0 } } else c

/-- NV_WINDOW_SET (R431). -/
def nvWindowSet (c : Chip) : Chip := if dwelt c.th.nvSince c then wr W.nvWindow 1 c else c

/-- SENSE_RATE_RETURN (R423). -/
def rateReturn (c : Chip) : Chip := if on P.thmSenseFast c && dwelt c.th.midSince c then wr P.thmSenseFast 0 c else c

/-! ### REFCOMP and the periodic record (R436, R437) -/

/-- The factor's distance from 1 in 1/4 ppm: −12 ppm/°C × (T_B − 25 °C), T_B the mean of sensors 6 and 7. -/
def factorNow (c : Chip) : Int := -3 * (rdS (W.sensorT 6) c + rdS (W.sensorT 7) c - 400)

/-- REFCOMP_UPDATE: every 100 ms; a factor that has moved by 1 ppm or more waits for a shot boundary (R436). -/
def refcompUpdate (c : Chip) : Chip :=
  if on P.thmRefcomp c && decide (c.th.factorAt + 100000000 ≤ c.clk) then
    let f := factorNow c
    let d := f - c.th.factor
    { c with th := { c.th with factorAt := c.clk, nextFactor := if decide (4 ≤ d ∨ d ≤ -4) then some f else none } }
  else c

/-- TELEMETRY_PERIODIC: at the first sample at or after each TELEM_PERIOD (R437). -/
def telemPeriodic (c : Chip) : Chip :=
  if sampleNow c && decide (c.th.telemAt ≤ c.clk) && !inModes [.reset, .shutdown] c then
    telemWrite 3 { c with th := { c.th with telemAt := c.th.telemAt + rd P.thmTelemPeriod c * 1000000 } }
  else c

/-! ### Commands -/

/-- THERMAL_SAMPLE (R423–R432). -/
def execThermalSample (raw : List Int) (s : State) : Host.Outcome State Fault Refusal := onChip (thermalSample raw) s

/-- TJ_WARN_CLEAR (R428). -/
def execTjWarnClear (s : State) : Host.Outcome State Fault Refusal := onChip tjWarnClear s

/-- THROTTLE_FALL (R429). -/
def execThrottleFall (s : State) : Host.Outcome State Fault Refusal := onChip throttleFall s

/-- THROTTLE_HOLD_END (R430). -/
def execThrottleHoldEnd (s : State) : Host.Outcome State Fault Refusal := onChip holdEnd s

/-- NV_WINDOW_SET (R431). -/
def execNvWindowSet (s : State) : Host.Outcome State Fault Refusal := onChip nvWindowSet s

/-- SENSE_RATE_RETURN (R423). -/
def execSenseRateReturn (s : State) : Host.Outcome State Fault Refusal := onChip rateReturn s

/-- REFCOMP_UPDATE (R436). -/
def execRefcompUpdate (s : State) : Host.Outcome State Fault Refusal := onChip refcompUpdate s

/-- TELEMETRY_PERIODIC (R437). -/
def execTelemetryPeriodic (s : State) : Host.Outcome State Fault Refusal := onChip telemPeriodic s

end Sys2Proof.Machine
end

