-- ==== Sys2Proof/Machine/ModeSet.lean ====
section
/-!
DEFINITION. MODE_SET against the triggers of its own tick (R21): a trigger that stands behind it in the queue falls in the same tick,
since the clock only ticks on an empty queue.
-/

namespace Sys2Proof.Machine

/-- What a command from outside that can trigger a transition does: RESET_N, the supplies, a temperature, an error in SRAM, and what
loses or aligns GT or the clock. -/
def outsideTrigger (i : Instr) (c : Chip) : Chip :=
  match i with
  | .resetNLow => resetLow c
  | .suppliesLost aonLost => suppliesLost aonLost c
  | .thermalSample raw => thermalSample raw c
  | .eccUe r => eccUe r c
  | .clkLost x => settle (clockLoss x.src (some x.back) c)
  | .ckLoss lg => settle (ckLossOn lg.val c)
  | .epochPulse high => epochPulse high c
  | .beaconMiss lg => beaconMiss lg.val c
  | .beaconRx rx b gt f => beaconRx rx b (gt.toNat * 256 + f.toNat) c
  | _ => c

/-- The command triggers a transition that R21 puts above a MODE_SET to `target`; above one to RESET stands SHUTDOWN alone. -/
def outranks (target : Nat) (c : Chip) (i : Instr) : Bool :=
  let d := outsideTrigger i c
  (d.md.mode == .shutdown && c.md.mode != .shutdown) ||
    (target != 0 && (d.md.mode != c.md.mode || d.md.trans != c.md.trans || d.md.fault != c.md.fault))

/-- A trigger that R21 puts above the MODE_SET waits behind it in the queue, and so falls in the same tick. -/
def outranked (target : Nat) (q : List Instr) (c : Chip) : Bool := q.any (outranks target c)

/-- MODE_SET (R20, R21). -/
def execModeSet (h : Cmd) (target : BitVec 4) (gt : BitVec 64) (s : State) : Host.Outcome State Fault Refusal :=
  let late := outranked target.toNat s.pending s.chip
  onChip (fun c => take h 0x40 (if modeNames target.toNat gt.toNat c then 2 else 1) true (modeSet late target.toNat gt.toNat) c) s

end Sys2Proof.Machine
end

