-- ==== Sys2Proof/Machine/Pins.lean ====
section
/-!
DEFINITION. SMBus (R461, R462), JTAG (R463) and the bench toggle (R28).
-/

namespace Sys2Proof.Machine

/-! ### SMBus (R461, R462) -/

/-- A transfer returns data bytes, the low byte of a word first. -/
def smbAnswer (n v : Nat) (c : Chip) : Chip := emit (.smbus ((leBytes n v).map (·.toNat))) c

/-- What command 0x00 returns: MODE and PREV_MODE. -/
def smbMode (c : Chip) : Nat := modeWord c % 256

/-- What command 0x01 returns. -/
def smbBoot (c : Chip) : Nat :=
  rd P.secBootFailCause c + 16 * rd W.bootFailed c + 32 * rd W.shutdownLatched c + 64 * rd W.tjWarn c

/-- What command 0x02 returns: TJ_MAX and THR_LEVEL. -/
def smbTj (c : Chip) : Nat := rd W.tjMax c + 2 ^ 12 * rd W.thrLevel c

/-- SENSOR_FAILED. -/
def smbFailed (c : Chip) : Nat := ((List.range 9).map (fun s => 2 ^ s * rd (W.sensorFailed s) c)).sum

/-- ALERT_STAT. -/
def alertStat (c : Chip) : Nat := ((List.range 3).map (fun n => 2 ^ n * rd (W.alertStat n) c)).sum

/-- A write passes its packet check: none was sent, or it is right (R461). -/
def pecOk (pec : Option Bool) : Bool := pec != some false

/-- A write of ALERT_EN (R462). -/
def alertEnWrite (v : Nat) (pec : Option Bool) (c : Chip) : Chip := if pecOk pec then wr W.alertEn v c else c

/-- A write that clears ALERT_STAT bits; a bit set in this tick stays (R10, R462). -/
def alertClear (v : Nat) (pec : Option Bool) (c : Chip) : Chip :=
  if pecOk pec then (List.range 3).foldl (fun c n => if bitAt v n then clearFlag (W.alertStat n) c else c) c else c

/-- SMB_ALERT_N is low (R461). -/
def alertLow (c : Chip) : Bool := alertStat c &&& rd W.alertEn c != 0 && !c.pn.alertReleased

/-- The slave's address (R461). -/
def smbAddress : Nat := 0x48 + Config.smbAddr.val

/-- ALERT_RESPONSE: the slave that holds SMB_ALERT_N low answers with its address and lets the line go (R461). -/
def alertResponse (c : Chip) : Chip :=
  if alertLow c then emit (.smbus [smbAddress]) { c with pn := { c.pn with alertReleased := true } } else c

/-! ### JTAG (R463) -/

/-- The boundary cells' balls, from TDI to TDO: 12 LVDS inputs (REFCLK, EPOCH, TRIG), 16 MARK balls, 6 SPI, 3 SMBus, 2 straps and
RESET_N; a ball that drives has a control cell after its data cell. The cell at which each begins. -/
def cellTrig : Nat := 4
def cellMark : Nat := 12
def cellAlert : Nat := 12 + 32 + 12 + 4

/-- What the boundary register captures: the TRIG and MARK levels and SMB_ALERT_N are the state's; what the other balls and the
control cells show is left open. -/
def captureCells (c : Chip) : Nat × Chip :=
  let d := draw 65 c
  let pair (a k : Nat) (lo : Bool) (v : Nat) : Nat := setBits (setBits v a 1 (b2n lo)) (a + k) 1 (b2n (!lo))
  let v1 := (List.range 4).foldl (fun v p => pair (cellTrig + 2 * p) 1 (bitAt c.pn.trig p) v) d.1
  let v2 := (List.range 8).foldl (fun v p => pair (cellMark + 4 * p) 2 (bitAt c.pn.mark p) v) v1
  (setBits v2 cellAlert 1 (b2n (!alertLow c)), d.2)

/-- The instruction register holds a code, and the balls are driven as the instruction gives. -/
def jtagSelect (code : BitVec 8) (drive : JtagDrive) (c : Chip) : Chip := { c with pn := { c.pn with ir := code, drive := drive } }

/-- The bypass register's one bit, captured as 0. -/
def bypassBit (c : Chip) : Chip := emit (.jtag 0) c

/-- What a boundary scan shifts out, and the cells it latches. -/
def scanCells (cells : BitVec 65) (c : Chip) : Chip :=
  let d := captureCells c
  let c1 := emit (.jtag d.1) d.2
  { c1 with pn := { c1.pn with cells := cells } }

/-- EXTEST: only while RESET_N is low, else as BYPASS. -/
def extest (cells : BitVec 65) (c : Chip) : Chip :=
  if c.pw.resetN then bypassBit (jtagSelect 0x00 .none c) else jtagSelect 0x00 .extest (scanCells cells c)

/-- SAMPLE/PRELOAD. -/
def samplePreload (cells : BitVec 65) (c : Chip) : Chip := jtagSelect 0x01 .none (scanCells cells c)

/-- CLAMP and HIGHZ: only while RESET_N is low, else as BYPASS; either way the bypass register is shifted. -/
def held (code : BitVec 8) (drive : JtagDrive) (c : Chip) : Chip :=
  bypassBit (jtagSelect code (if c.pw.resetN then .none else drive) c)

/-- IDCODE. -/
def idcode (c : Chip) : Chip := emit (.jtag 0x00256A4B) (jtagSelect 0xFE .none c)

/-- A code that acts as BYPASS: 0xFF, and every code not listed. -/
def isBypass (code : BitVec 8) : Bool := !([0x00, 0x01, 0x02, 0x03, 0x20, 0xFE].contains code.toNat)

/-- BYPASS. -/
def bypass (code : BitVec 8) (c : Chip) : Chip := if isBypass code then bypassBit (jtagSelect code .none c) else c

/-- DBG_BULK: the debug register is shifted; outside BENCH it reads 0 and takes nothing. -/
def dbgBulk (value : BitVec 128) (c : Chip) : Chip :=
  let c1 := jtagSelect 0x20 .none c
  if c.md.mode != .bench then emit (.jtag 0) c1
  else
    let hold := bitAt value.toNat 97
    emit (.jtag c.pn.dbg.toNat)
      { c1 with pn := { c1.pn with dbg := value, dbgGo := bitAt value.toNat 98, dbgHolds := c1.pn.dbgHolds && hold } }

/-- The data of a debug read, or what a write leaves: zero data where the port refuses the access; RANGE is counted (R15, R349). -/
def dbgTransfer (c : Chip) : Chip :=
  let v := c.pn.dbg.toNat
  let a := bits v 0 32
  let refuse (e : Nat) (c : Chip) : Chip := if e == Dm.range then count P.dmaRangeCount c else c
  if bitAt v 96 then
    if !oneRegion a 8 then refuse Dm.range c
    else let r := bulkWrite a (leBytes 8 (bits v 32 64)) c; refuse r.1 r.2
  else
    let put (x : Nat) (c : Chip) : Chip := { c with pn := { c.pn with dbg := BitVec.ofNat 128 (setBits v 32 64 x) } }
    match (if oneRegion a 8 then readRefused a 8 else some Dm.range) with
    | some e => put 0 (refuse e c)
    | none => put (leNat (memGet c.mem a 8)) c

/-- DBG_BULK_GO: the debug requester is granted the port, moves its eight bytes and, with HOLD, keeps the port (R349, R362,
R364). -/
def dbgGo (c : Chip) : Chip :=
  if c.md.mode == .bench && c.pn.dbgGo && (match c.dma.burstAt with | some t => decide (t ≤ c.clk) | none => true) then
    let c1 := dbgTransfer c
    { c1 with pn := { c1.pn with dbgGo := false, dbgHolds := bitAt c.pn.dbg.toNat 97 } }
  else c

/-! ### Bench (R28) -/

/-- BENCH_PERIOD_TOGGLE: at a GT that is a multiple of BENCH_PERIOD the square output and the toggling MARK pins change. -/
def benchToggle (c : Chip) : Chip :=
  if c.md.mode == .bench && c.tl.gt % rd P.sysBenchPeriod c == 0 then
    benchMarks { c with syn := { c.syn with benchHigh := !c.syn.benchHigh } }
  else c

/-! ### Commands -/

/-- SMB_READ_MODE (R462). -/
def execSmbReadMode (s : State) : Host.Outcome State Fault Refusal := onChip (fun c => smbAnswer 1 (smbMode c) c) s

/-- SMB_READ_BOOT_STATUS (R462). -/
def execSmbReadBootStatus (s : State) : Host.Outcome State Fault Refusal := onChip (fun c => smbAnswer 1 (smbBoot c) c) s

/-- SMB_READ_TJ (R462). -/
def execSmbReadTj (s : State) : Host.Outcome State Fault Refusal := onChip (fun c => smbAnswer 2 (smbTj c) c) s

/-- SMB_READ_SENSOR_FAILED (R462). -/
def execSmbReadSensorFailed (s : State) : Host.Outcome State Fault Refusal := onChip (fun c => smbAnswer 2 (smbFailed c) c) s

/-- SMB_READ_DEVICE_SERIAL (R462). -/
def execSmbReadDeviceSerial (s : State) : Host.Outcome State Fault Refusal := onChip (smbAnswer 4 Config.deviceSerial) s

/-- SMB_READ_ALERT_EN (R462). -/
def execSmbReadAlertEn (s : State) : Host.Outcome State Fault Refusal := onChip (fun c => smbAnswer 1 (rd W.alertEn c) c) s

/-- SMB_WRITE_ALERT_EN (R461, R462). -/
def execSmbWriteAlertEn (value : BitVec 8) (pec : Option Bool) (s : State) : Host.Outcome State Fault Refusal :=
  onChip (alertEnWrite value.toNat pec) s

/-- SMB_READ_ALERT_STAT (R462). -/
def execSmbReadAlertStat (s : State) : Host.Outcome State Fault Refusal := onChip (fun c => smbAnswer 1 (alertStat c) c) s

/-- SMB_CLEAR_ALERT_STAT (R461, R462). -/
def execSmbClearAlertStat (value : BitVec 8) (pec : Option Bool) (s : State) : Host.Outcome State Fault Refusal :=
  onChip (alertClear value.toNat pec) s

/-- ALERT_RESPONSE (R461). -/
def execAlertResponse (s : State) : Host.Outcome State Fault Refusal := onChip alertResponse s

/-- EXTEST (R463). -/
def execExtest (cells : BitVec 65) (s : State) : Host.Outcome State Fault Refusal := onChip (extest cells) s

/-- SAMPLE/PRELOAD (R463). -/
def execSamplePreload (cells : BitVec 65) (s : State) : Host.Outcome State Fault Refusal := onChip (samplePreload cells) s

/-- CLAMP (R463). -/
def execClamp (s : State) : Host.Outcome State Fault Refusal := onChip (held 0x02 .clamp) s

/-- HIGHZ (R463). -/
def execHighz (s : State) : Host.Outcome State Fault Refusal := onChip (held 0x03 .highz) s

/-- DBG_BULK (R463). -/
def execDbgBulk (value : BitVec 128) (s : State) : Host.Outcome State Fault Refusal := onChip (dbgBulk value) s

/-- DBG_BULK_GO (R463). -/
def execDbgBulkGo (s : State) : Host.Outcome State Fault Refusal := onChip dbgGo s

/-- IDCODE (R463). -/
def execIdcode (s : State) : Host.Outcome State Fault Refusal := onChip idcode s

/-- BYPASS (R463). -/
def execBypass (code : BitVec 8) (s : State) : Host.Outcome State Fault Refusal := onChip (bypass code) s

/-- BENCH_PERIOD_TOGGLE (R28). -/
def execBenchPeriodToggle (s : State) : Host.Outcome State Fault Refusal := onChip benchToggle s

end Sys2Proof.Machine
end

