-- ==== Sys2Proof/Machine/Dispatch.lean ====
section
/-!
DEFINITION. The dispatch: one arm per command, each a direct call of its meaning.
-/

namespace Sys2Proof.Machine

def exec (i : Instr) (s : State) : Host.Outcome State Fault Refusal :=
  match i with
  | .suppliesValid => Sys2Proof.Machine.execSuppliesValid s
  | .suppliesLost aonLost => Sys2Proof.Machine.execSuppliesLost aonLost s
  | .biasLoader => Sys2Proof.Machine.execBiasLoader s
  | .resetNLow => Sys2Proof.Machine.execResetNLow s
  | .pePerstNLow => Sys2Proof.Machine.execPePerstNLow s
  | .bootEntry => Sys2Proof.Machine.execBootEntry s
  | .bootSequence b => Sys2Proof.Machine.execBootSequence b s
  | .clkLost src => Sys2Proof.Machine.execClkLost src s
  | .forcedZeroEnd => Sys2Proof.Machine.execForcedZeroEnd s
  | .eccUe r => Sys2Proof.Machine.execEccUe r s
  | .modeSet h target gt => Sys2Proof.Machine.execModeSet h target gt s
  | .transitionComplete => Sys2Proof.Machine.execTransitionComplete s
  | .runStart => Sys2Proof.Machine.execRunStart s
  | .calibratePassEnd => Sys2Proof.Machine.execCalibratePassEnd s
  | .syncTimeout => Sys2Proof.Machine.execSyncTimeout s
  | .epochPulse high => Sys2Proof.Machine.execEpochPulse high s
  | .epochLoad => Sys2Proof.Machine.execEpochLoad s
  | .epochArm h value => Sys2Proof.Machine.execEpochArm h value s
  | .beaconTx lg gt f => Sys2Proof.Machine.execBeaconTx lg gt f s
  | .beaconRx rx b gt f => Sys2Proof.Machine.execBeaconRx rx b gt f s
  | .beaconMiss lg => Sys2Proof.Machine.execBeaconMiss lg s
  | .snapshotAt h gt mesh id => Sys2Proof.Machine.execSnapshotAt h gt mesh id s
  | .snapshotFrameRx rx gt id issuer => Sys2Proof.Machine.execSnapshotFrameRx rx gt id issuer s
  | .snapshotLatch => Sys2Proof.Machine.execSnapshotLatch s
  | .snapshotBankCopy => Sys2Proof.Machine.execSnapshotBankCopy s
  | .drawerCommit => Sys2Proof.Machine.execDrawerCommit s
  | .groupModeChange => Sys2Proof.Machine.execGroupModeChange s
  | .calSwitch r => Sys2Proof.Machine.execCalSwitch r s
  | .sessionOpen h => Sys2Proof.Machine.execSessionOpen h s
  | .sessionClose h ses => Sys2Proof.Machine.execSessionClose h ses s
  | .info h => Sys2Proof.Machine.execInfo h s
  | .ringAlloc h ty => Sys2Proof.Machine.execRingAlloc h ty s
  | .ringFree h ring => Sys2Proof.Machine.execRingFree h ring s
  | .dmaAlloc h ring => Sys2Proof.Machine.execDmaAlloc h ring s
  | .dmaFree h ch => Sys2Proof.Machine.execDmaFree h ch s
  | .paramGet h id drawer => Sys2Proof.Machine.execParamGet h id drawer s
  | .paramSet h id value mask drawer => Sys2Proof.Machine.execParamSet h id value mask drawer s
  | .paramList h count drawer recs => Sys2Proof.Machine.execParamList h count drawer recs s
  | .drawerOpen h drawer => Sys2Proof.Machine.execDrawerOpen h drawer s
  | .drawerClose h drawer => Sys2Proof.Machine.execDrawerClose h drawer s
  | .txnCommit h drawer gt => Sys2Proof.Machine.execTxnCommit h drawer gt s
  | .groupMode h id want gt => Sys2Proof.Machine.execGroupMode h id want gt s
  | .cfgSave h => Sys2Proof.Machine.execCfgSave h s
  | .cfgLoad h host img => Sys2Proof.Machine.execCfgLoad h host img s
  | .attest h addr len flags nonce => Sys2Proof.Machine.execAttest h addr len flags nonce s
  | .auditTimeEntry => Sys2Proof.Machine.execAuditTimeEntry s
  | .auditAck h value => Sys2Proof.Machine.execAuditAck h value s
  | .play sq => Sys2Proof.Machine.execPlay sq s
  | .acq sq => Sys2Proof.Machine.execAcq sq s
  | .frm sq => Sys2Proof.Machine.execFrm sq s
  | .setf sq => Sys2Proof.Machine.execSetf sq s
  | .shot sq => Sys2Proof.Machine.execShot sq s
  | .mark sq => Sys2Proof.Machine.execMark sq s
  | .post sq => Sys2Proof.Machine.execPost sq s
  | .txc sq => Sys2Proof.Machine.execTxc sq s
  | .calw sq => Sys2Proof.Machine.execCalw sq s
  | .endProg sq => Sys2Proof.Machine.execEndProg sq s
  | .nop sq => Sys2Proof.Machine.execNop sq s
  | .waitt sq => Sys2Proof.Machine.execWaitt sq s
  | .waito sq => Sys2Proof.Machine.execWaito sq s
  | .waitoResume sq => Sys2Proof.Machine.execWaitoResume sq s
  | .waitoTimeout sq => Sys2Proof.Machine.execWaitoTimeout sq s
  | .bro sq => Sys2Proof.Machine.execBro sq s
  | .loop sq => Sys2Proof.Machine.execLoop sq s
  | .endl sq => Sys2Proof.Machine.execEndl sq s
  | .sqCall sq => Sys2Proof.Machine.execSqCall sq s
  | .sqRet sq => Sys2Proof.Machine.execSqRet sq s
  | .ldr sq => Sys2Proof.Machine.execLdr sq s
  | .addr sq => Sys2Proof.Machine.execAddr sq s
  | .getc sq => Sys2Proof.Machine.execGetc sq s
  | .slotCommit sq => Sys2Proof.Machine.execSlotCommit sq s
  | .chainLatch t => Sys2Proof.Machine.execChainLatch t s
  | .jumpLatch t => Sys2Proof.Machine.execJumpLatch t s
  | .shelfStart t => Sys2Proof.Machine.execShelfStart t s
  | .shelfRelease shelf => Sys2Proof.Machine.execShelfRelease shelf s
  | .windowOpen sq => Sys2Proof.Machine.execWindowOpen sq s
  | .frameUpdate sq => Sys2Proof.Machine.execFrameUpdate sq s
  | .frequencyChange sq => Sys2Proof.Machine.execFrequencyChange sq s
  | .shotBoundary sq => Sys2Proof.Machine.execShotBoundary sq s
  | .endBoundary sq => Sys2Proof.Machine.execEndBoundary sq s
  | .markAction sq => Sys2Proof.Machine.execMarkAction sq s
  | .markPulseEnd pin => Sys2Proof.Machine.execMarkPulseEnd pin s
  | .postRaise sq => Sys2Proof.Machine.execPostRaise sq s
  | .txcCommit sq => Sys2Proof.Machine.execTxcCommit sq s
  | .calwGap p => Sys2Proof.Machine.execCalwGap p s
  | .calwWindowEnd p pass => Sys2Proof.Machine.execCalwWindowEnd p pass s
  | .jumpShelf h t shelf => Sys2Proof.Machine.execJumpShelf h t shelf s
  | .stopLane h t => Sys2Proof.Machine.execStopLane h t s
  | .biaStringUpdate o => Sys2Proof.Machine.execBiaStringUpdate o s
  | .spanSwitch o => Sys2Proof.Machine.execSpanSwitch o s
  | .faultHold fn => Sys2Proof.Machine.execFaultHold fn s
  | .biasRecordWrite h o fault value mask => Sys2Proof.Machine.execBiasRecordWrite h o fault value mask s
  | .estimatorBlock r blk => Sys2Proof.Machine.execEstimatorBlock r blk s
  | .calSwitchAt h r gt => Sys2Proof.Machine.execCalSwitchAt h r gt s
  | .calSave h value => Sys2Proof.Machine.execCalSave h value s
  | .periodicCalSave => Sys2Proof.Machine.execPeriodicCalSave s
  | .windowEnd e c w => Sys2Proof.Machine.execWindowEnd e c w s
  | .resultEntry e => Sys2Proof.Machine.execResultEntry e s
  | .dxeRun h e value => Sys2Proof.Machine.execDxeRun h e value s
  | .dxeMsg h e value => Sys2Proof.Machine.execDxeMsg h e value s
  | .tickRequest e => Sys2Proof.Machine.execTickRequest e s
  | .serviceAccept e => Sys2Proof.Machine.execServiceAccept e s
  | .dxeNop e => Sys2Proof.Machine.execDxeNop e s
  | .ld e => Sys2Proof.Machine.execLd e s
  | .ld2 e => Sys2Proof.Machine.execLd2 e s
  | .st e => Sys2Proof.Machine.execSt e s
  | .ldi e => Sys2Proof.Machine.execLdi e s
  | .ldih e => Sys2Proof.Machine.execLdih e s
  | .mov e => Sys2Proof.Machine.execMov e s
  | .add e => Sys2Proof.Machine.execAdd e s
  | .sub e => Sys2Proof.Machine.execSub e s
  | .addi e => Sys2Proof.Machine.execAddi e s
  | .and e => Sys2Proof.Machine.execAnd e s
  | .or e => Sys2Proof.Machine.execOr e s
  | .xor e => Sys2Proof.Machine.execXor e s
  | .sha e => Sys2Proof.Machine.execSha e s
  | .mul e => Sys2Proof.Machine.execMul e s
  | .cmp e => Sys2Proof.Machine.execCmp e s
  | .cmpi e => Sys2Proof.Machine.execCmpi e s
  | .sat e => Sys2Proof.Machine.execSat e s
  | .mac e => Sys2Proof.Machine.execMac e s
  | .cmac e => Sys2Proof.Machine.execCmac e s
  | .aclr e => Sys2Proof.Machine.execAclr e s
  | .amov e => Sys2Proof.Machine.execAmov e s
  | .popr e => Sys2Proof.Machine.execPopr e s
  | .rdcur e => Sys2Proof.Machine.execRdcur e s
  | .cls e => Sys2Proof.Machine.execCls e s
  | .outc e => Sys2Proof.Machine.execOutc e s
  | .trkw e => Sys2Proof.Machine.execTrkw e s
  | .getm e => Sys2Proof.Machine.execGetm e s
  | .rdgt e => Sys2Proof.Machine.execRdgt e s
  | .setb e => Sys2Proof.Machine.execSetb e s
  | .setp e => Sys2Proof.Machine.execSetp e s
  | .getp e => Sys2Proof.Machine.execGetp e s
  | .branch e => Sys2Proof.Machine.execBranch e s
  | .dxeCall e => Sys2Proof.Machine.execDxeCall e s
  | .dxeRet e => Sys2Proof.Machine.execDxeRet e s
  | .rts e => Sys2Proof.Machine.execRts e s
  | .rpt e => Sys2Proof.Machine.execRpt e s
  | .rptr e => Sys2Proof.Machine.execRptr e s
  | .setm e => Sys2Proof.Machine.execSetm e s
  | .idle e => Sys2Proof.Machine.execIdle e s
  | .halt e => Sys2Proof.Machine.execHalt e s
  | .trackingWriteApply => Sys2Proof.Machine.execTrackingWriteApply s
  | .seedSave h e value => Sys2Proof.Machine.execSeedSave h e value s
  | .outcomeVisible e => Sys2Proof.Machine.execOutcomeVisible e s
  | .decisionRead d => Sys2Proof.Machine.execDecisionRead d s
  | .decisionVisible d => Sys2Proof.Machine.execDecisionVisible d s
  | .outcomeFrameTx lg => Sys2Proof.Machine.execOutcomeFrameTx lg s
  | .outcomeFrameRx rx recs => Sys2Proof.Machine.execOutcomeFrameRx rx recs s
  | .laneAlign l => Sys2Proof.Machine.execLaneAlign l s
  | .laneAlignLoss l => Sys2Proof.Machine.execLaneAlignLoss l s
  | .groupUp lg skew => Sys2Proof.Machine.execGroupUp lg skew s
  | .groupFail lg => Sys2Proof.Machine.execGroupFail lg s
  | .ckLoss lg => Sys2Proof.Machine.execCkLoss lg s
  | .bufSlip lg => Sys2Proof.Machine.execBufSlip lg s
  | .downHoldEnd lg => Sys2Proof.Machine.execDownHoldEnd lg s
  | .switchNow h lg value => Sys2Proof.Machine.execSwitchNow h lg value s
  | .switchFrame rx c => Sys2Proof.Machine.execSwitchFrame rx c s
  | .switchGapEnd lg healthy => Sys2Proof.Machine.execSwitchGapEnd lg healthy s
  | .joinReq rx c => Sys2Proof.Machine.execJoinReq rx c s
  | .joinAck rx c => Sys2Proof.Machine.execJoinAck rx c s
  | .joinNak rx c => Sys2Proof.Machine.execJoinNak rx c s
  | .leaveFrame rx c => Sys2Proof.Machine.execLeaveFrame rx c s
  | .trigArm rx c => Sys2Proof.Machine.execTrigArm rx c s
  | .trigFire rx c => Sys2Proof.Machine.execTrigFire rx c s
  | .join h value => Sys2Proof.Machine.execJoin h value s
  | .joinRetry => Sys2Proof.Machine.execJoinRetry s
  | .leave h value => Sys2Proof.Machine.execLeave h value s
  | .bulkFrameTx lg => Sys2Proof.Machine.execBulkFrameTx lg s
  | .bulkFrameRx rx b => Sys2Proof.Machine.execBulkFrameRx rx b s
  | .bulkAck rx chan next => Sys2Proof.Machine.execBulkAck rx chan next s
  | .bulkResend lg chan => Sys2Proof.Machine.execBulkResend lg chan s
  | .outTestRec h rec => Sys2Proof.Machine.execOutTestRec h rec s
  | .edgeStamp p falling gt f => Sys2Proof.Machine.execEdgeStamp p falling gt f s
  | .settleExpiry t => Sys2Proof.Machine.execSettleExpiry t s
  | .tuRearm t => Sys2Proof.Machine.execTuRearm t s
  | .tuArm t => Sys2Proof.Machine.execTuArm t s
  | .armAt h t gt => Sys2Proof.Machine.execArmAt h t gt s
  | .disarm h t value => Sys2Proof.Machine.execDisarm h t value s
  | .streamEn h k value => Sys2Proof.Machine.execStreamEn h k value s
  | .chanBlock => Sys2Proof.Machine.execChanBlock s
  | .rawBlock => Sys2Proof.Machine.execRawBlock s
  | .streamRecordWrite k => Sys2Proof.Machine.execStreamRecordWrite k s
  | .gapRecord k => Sys2Proof.Machine.execGapRecord k s
  | .eventDeliver c => Sys2Proof.Machine.execEventDeliver c s
  | .markEventPulseEnd pin => Sys2Proof.Machine.execMarkEventPulseEnd pin s
  | .swFire h value => Sys2Proof.Machine.execSwFire h value s
  | .lock h c value => Sys2Proof.Machine.execLock h c value s
  | .markSrcChange h pin value => Sys2Proof.Machine.execMarkSrcChange h pin value s
  | .doorbell fn ring value => Sys2Proof.Machine.execDoorbell fn ring value s
  | .ringRun fn ring value => Sys2Proof.Machine.execRingRun fn ring value s
  | .registerWrite fn off size value => Sys2Proof.Machine.execRegisterWrite fn off size value s
  | .functionLevelReset fn => Sys2Proof.Machine.execFunctionLevelReset fn s
  | .bootstrapRingRestore fn => Sys2Proof.Machine.execBootstrapRingRestore fn s
  | .descriptorFetch ch d => Sys2Proof.Machine.execDescriptorFetch ch d s
  | .descriptorStart ch => Sys2Proof.Machine.execDescriptorStart ch s
  | .dmaBurst ch => Sys2Proof.Machine.execDmaBurst ch s
  | .hostReadCompletion ch r => Sys2Proof.Machine.execHostReadCompletion ch r s
  | .descriptorComplete ch => Sys2Proof.Machine.execDescriptorComplete ch s
  | .completionRecordWrite ch => Sys2Proof.Machine.execCompletionRecordWrite ch s
  | .chResume h ch value => Sys2Proof.Machine.execChResume h ch value s
  | .chAbort h ch value => Sys2Proof.Machine.execChAbort h ch value s
  | .coalTimeExpiry ring => Sys2Proof.Machine.execCoalTimeExpiry ring s
  | .bulkPortDecision raised masked => Sys2Proof.Machine.execBulkPortDecision raised masked s
  | .eccCeTrap sq ticks => Sys2Proof.Machine.execEccCeTrap sq ticks s
  | .eccUeTrap sq => Sys2Proof.Machine.execEccUeTrap sq s
  | .peekTrap sq ticks => Sys2Proof.Machine.execPeekTrap sq ticks s
  | .storeRepair replica regionBad => Sys2Proof.Machine.execStoreRepair replica regionBad s
  | .thermalSample raw => Sys2Proof.Machine.execThermalSample raw s
  | .tjWarnClear => Sys2Proof.Machine.execTjWarnClear s
  | .throttleFall => Sys2Proof.Machine.execThrottleFall s
  | .throttleHoldEnd => Sys2Proof.Machine.execThrottleHoldEnd s
  | .nvWindowSet => Sys2Proof.Machine.execNvWindowSet s
  | .senseRateReturn => Sys2Proof.Machine.execSenseRateReturn s
  | .refcompUpdate => Sys2Proof.Machine.execRefcompUpdate s
  | .refcomp h value => Sys2Proof.Machine.execRefcomp h value s
  | .telemetryPeriodic => Sys2Proof.Machine.execTelemetryPeriodic s
  | .summaryWrite failed => Sys2Proof.Machine.execSummaryWrite failed s
  | .biasWrite failed => Sys2Proof.Machine.execBiasWrite failed s
  | .creditTick => Sys2Proof.Machine.execCreditTick s
  | .wearMove failed => Sys2Proof.Machine.execWearMove failed s
  | .boardWrite h value rec => Sys2Proof.Machine.execBoardWrite h value rec s
  | .svnAdvance h value => Sys2Proof.Machine.execSvnAdvance h value s
  | .keyRevoke h slots => Sys2Proof.Machine.execKeyRevoke h slots s
  | .smbReadMode => Sys2Proof.Machine.execSmbReadMode s
  | .smbReadBootStatus => Sys2Proof.Machine.execSmbReadBootStatus s
  | .smbReadTj => Sys2Proof.Machine.execSmbReadTj s
  | .smbReadSensorFailed => Sys2Proof.Machine.execSmbReadSensorFailed s
  | .smbReadDeviceSerial => Sys2Proof.Machine.execSmbReadDeviceSerial s
  | .smbReadAlertEn => Sys2Proof.Machine.execSmbReadAlertEn s
  | .smbWriteAlertEn value pec => Sys2Proof.Machine.execSmbWriteAlertEn value pec s
  | .smbReadAlertStat => Sys2Proof.Machine.execSmbReadAlertStat s
  | .smbClearAlertStat value pec => Sys2Proof.Machine.execSmbClearAlertStat value pec s
  | .alertResponse => Sys2Proof.Machine.execAlertResponse s
  | .extest cells => Sys2Proof.Machine.execExtest cells s
  | .samplePreload cells => Sys2Proof.Machine.execSamplePreload cells s
  | .clamp => Sys2Proof.Machine.execClamp s
  | .highz => Sys2Proof.Machine.execHighz s
  | .dbgBulk value => Sys2Proof.Machine.execDbgBulk value s
  | .dbgBulkGo => Sys2Proof.Machine.execDbgBulkGo s
  | .idcode => Sys2Proof.Machine.execIdcode s
  | .bypass code => Sys2Proof.Machine.execBypass code s
  | .benchPeriodToggle => Sys2Proof.Machine.execBenchPeriodToggle s
  | .integratorLenZero e c => Sys2Proof.Machine.execIntegratorLenZero e c s
  | .frameDiscard lg why => Sys2Proof.Machine.execFrameDiscard lg why s
  | .codeError l why => Sys2Proof.Machine.execCodeError l why s
  | .prbsError l => Sys2Proof.Machine.execPrbsError l s
  | .timingFrameTx lg => Sys2Proof.Machine.execTimingFrameTx lg s
  | .transmitterReady lane => Sys2Proof.Machine.execTransmitterReady lane s
  | .clockLaneReturn lg => Sys2Proof.Machine.execClockLaneReturn lg s
  | .barBadRead fn off size => Sys2Proof.Machine.execBarBadRead fn off size s
  | .pcieLinkChange speed width => Sys2Proof.Machine.execPcieLinkChange speed width s
  | .pePerstNHigh => Sys2Proof.Machine.execPePerstNHigh s
  | .trigPinChange p level selected => Sys2Proof.Machine.execTrigPinChange p level selected s
  | .correctableError r => Sys2Proof.Machine.execCorrectableError r s
  | .dxeIllegalOp e => Sys2Proof.Machine.execDxeIllegalOp e s
  | .sqIllegalOp sq => Sys2Proof.Machine.execSqIllegalOp sq s
  | .modeTransitionAtGt => Sys2Proof.Machine.execModeTransitionAtGt s

end Sys2Proof.Machine
end

