-- ==== Sys2Proof/Machine/Wave.lean ====
section
/-!
DEFINITION. The converters' tick: the flux correction filter (R94–R96) and the saturations that the DACs meet (R64, R94).
-/

namespace Sys2Proof.Machine

/-- A port's tick: CLIP and CLIP_COUNT (R64). DESIGN CHOICE (log): a saturated sample is counted in the tick it enters the stream, not
when it reaches the DAC. -/
def portTick (b : Nat) (c : Chip) (p : Nat) : Chip :=
  if (List.range 24).any (fun k => (portCode b p k c).2) then count (P.portClipCount b p) (setFlag (P.portClip b p) c) else c

/-! ### FLX ports (R94–R96) -/

/-- Exponential stage k: its next state and its output (R95). -/
def expStage (p k : Nat) (s u : Rat) (c : Chip) : Rat × Rat :=
  let a := rdS (P.flxExpAmp p k) c
  let co := rd (P.flxExpCoef p k) c
  if a == 0 || co == 0 then (u, u)
  else
    let s1 := s + (co : Rat) / 2 ^ 24 * (u - s)
    (s1, u + (a : Rat) / 16384 * (u - s1))

/-- The four stages in order (R94). -/
def expStages (p : Nat) (c : Chip) : (k : Nat) → List Rat → Rat → List Rat × Rat
  | _, [], u => ([], u)
  | k, s :: ss, u =>
    let r := expStage p k s u c
    let rest := expStages p c (k + 1) ss r.2
    (r.1 :: rest.1, rest.2)

/-- One sample through the filter: its next state, and y (R94, R95). -/
def filterStep (p : Nat) (f : Filter) (x : Rat) (c : Chip) : Filter × Rat :=
  let r := expStages p c 0 f.s x
  let h := (r.2 :: f.hist).take 16
  ({ s := r.1, hist := h },
   ((List.range 16).map (fun j => (rdS (P.flxFirTap p j) c : Rat) / 65536 * h.getD j 0)).sum)

/-- An FLX port's tick: two samples through the filter, into the pipeline; CLIP and CLIP_COUNT. In a taken gap the filter runs on, and
the DAC measures its sense load (R94–R97, R100). DESIGN CHOICE (log): while the DAC is not powered the filter keeps its states and
its history. -/
def flxTick (c : Chip) (p : Nat) : Chip :=
  if !dacOn 5 p c then { c with syn := { c.syn with codes := Tab.del c.syn.codes p } }
  else
    let f := Tab.get c.syn.filters p Filter.reset
    let r0 := filterStep p f (flxInput p 0 c) c
    let r1 := filterStep p r0.1 (flxInput p 1 c) c
    let code := if portLive 5 p c then (flxCode r1.2).1 else 0
    let ramp := c.md.mode == .bench && rd P.sysBenchFlx c == 2
    let clips := portLive 5 p c && !ramp && ((flxCode r0.2).2 || (flxCode r1.2).2)
    let c1 := { c with syn := { c.syn with filters := Tab.put c.syn.filters p Filter.reset r1.1,
                                           codes := Tab.ins c.syn.codes p ((code :: Tab.get c.syn.codes p []).take 115) } }
    if clips then count (P.flxClipCount p) (setFlag (P.flxClip p) c1) else c1

/-- The codes of a PRB port whose output an input samples by the internal path are kept until they arrive there, and for the RAW
block that may hold them (R141, R299). -/
def loopTick (c : Chip) (r : Nat) : Chip :=
  if on (P.rinBenchSrc r) c then
    let now := (List.range 24).map (fun k => (portCode 4 r k c).1)
    { c with syn := { c.syn with loop := Tab.ins c.syn.loop r ((now :: Tab.get c.syn.loop r []).take 512) } }
  else { c with syn := { c.syn with loop := Tab.del c.syn.loop r } }

/-- Every converter's tick (R64, R94, R141). -/
def waveTick (c : Chip) : Chip :=
  (List.range 12).foldl loopTick ((List.range 24).foldl flxTick
    (if c.pw.analog then (List.range 12).foldl (portTick 4) ((List.range 40).foldl (portTick 3) c) else c))

end Sys2Proof.Machine
end

