-- ==== Sys2Proof/Machine/Tick.lean ====
section
/-!
DEFINITION. One step on an empty queue: the block's own events that are due in this tick go into the queue, and when none is left
the fabric clock ticks and those of the new tick go there (R4). What the outside decides (a pulse, a frame, a sample, a host access, the success of a write) is
never put there.
-/

namespace Sys2Proof.Machine

/-! ### The events of a tick -/

/-- A command acts in this tick: carrying it out changes the chip. -/
def acts (c : Chip) (i : Instr) : Bool :=
  match exec i { pending := [], chip := c } with
  | .next s => decide (s.chip ≠ c)
  | _ => false

/-- The port operand of a global port number. -/
def noPort (k : Nat) : Port :=
  if k < 40 then .drv (Fin.ofNat 40 k) else if k < 52 then .prb (Fin.ofNat 12 (k - 40)) else .flx (Fin.ofNat 24 (k - 52))

/-- The command a sequencer's opcode stands for (R193); an opcode that is none is an illegal one. -/
def sqCommand (s : Fin 64) (op : Nat) : Instr :=
  match op with
  | 0x00 => .nop s | 0x01 => .play s | 0x02 => .acq s | 0x03 => .frm s | 0x04 => .setf s | 0x05 => .shot s | 0x06 => .mark s
  | 0x07 => .post s | 0x08 => .txc s | 0x09 => .calw s | 0x0A => .endProg s | 0x10 => .waitt s | 0x11 => .waito s | 0x12 => .bro s
  | 0x13 => .loop s | 0x14 => .endl s | 0x15 => .sqCall s | 0x16 => .sqRet s | 0x18 => .ldr s | 0x19 => .addr s | 0x1A => .getc s
  | _ => .sqIllegalOp s

/-- The command an engine's instruction stands for (R176). -/
def dxeCommand (e : Fin 24) (i : DxeInstr) : Instr :=
  match i with
  | .nop => .dxeNop e | .ld .. => .ld e | .ld2 .. => .ld2 e | .st .. => .st e | .ldi .. => .ldi e | .ldih .. => .ldih e
  | .mov .. => .mov e | .add .. => .add e | .sub .. => .sub e | .addi .. => .addi e | .and .. => .and e | .or .. => .or e
  | .xor .. => .xor e | .sha .. => .sha e | .mul .. => .mul e | .cmp .. => .cmp e | .cmpi .. => .cmpi e | .sat .. => .sat e
  | .mac .. => .mac e | .cmac .. => .cmac e | .aclr .. => .aclr e | .amov .. => .amov e | .popr .. => .popr e | .rdcur .. => .rdcur e
  | .cls .. => .cls e | .outc .. => .outc e | .trkw .. => .trkw e | .getm .. => .getm e | .rdgt .. => .rdgt e | .setb .. => .setb e
  | .setp .. => .setp e | .getp .. => .getp e | .branch .. => .branch e | .call .. => .dxeCall e | .ret => .dxeRet e | .rts => .rts e
  | .rpt .. => .rpt e | .rptr .. => .rptr e | .setm .. => .setm e | .idle => .idle e | .halt => .halt e

/-- The sequencers that have left their reset state. -/
def liveSqs (c : Chip) : List (Fin 64) := c.sqs.sq.map (fun p => Fin.ofNat 64 p.1)

/-- The targets whose lanes have left their reset state. -/
def liveLanes (c : Chip) : List Target := c.syn.lanes.map (fun p => keyTarget p.1)

/-- Transitions, boot, PEEK traps, each in place of the microword due, and the waits whose value was there before this tick (R20, R107,
R197, R198, R229, R248). -/
def dueFirst (c : Chip) : List Instr :=
  (if c.md.fault then [Instr.transitionComplete] else []) ++
  (if c.pw.resetN then [Instr.bootEntry] else []) ++
  (match c.md.bootWaits with
   | some b => if fabricGood c then [Instr.bootSequence b] else []
   | none => []) ++
  (if c.pw.forcedZero then [Instr.forcedZeroEnd] else []) ++
  (if c.pw.suppliesAt + 20000 ≤ c.clk then [Instr.biasLoader] else []) ++
  (liveSqs c).map (fun s => Instr.peekTrap s (1 + Config.peekTicks s.val c.clk % 8)) ++
  (liveSqs c).flatMap (fun s =>
    let x := sqOf s.val c
    let op := sqOpNow s.val c
    let wakes := match (microOf s.val c).due with
      | some u => patched c && u.wake != 0
      | none => false
    if x.waiting.isSome || wakes then [Instr.waitoResume s, Instr.waitoTimeout s]
    else if x.issuing && decide (x.pc < 8192) && (op == 0x11 || op == 0x12) then [sqCommand s op] else [])

/-- Descriptors that start, events that arrive, outcomes and decisions that become visible (R216, R222, R317, R357). -/
def dueArrivals (c : Chip) : List Instr :=
  c.dma.chans.map (fun p => Instr.descriptorStart (Fin.ofNat 64 p.1)) ++
  ((c.ev.flights.filter (fun f => f.arrive == c.clk)).map (fun f => Instr.eventDeliver (Fin.ofNat 128 f.ch))).dedup ++
  ((c.oc.bus.filter (fun o => o.due == c.clk)).map (fun o => Instr.outcomeVisible (Fin.ofNat 24 o.engine))).dedup ++
  c.oc.units.flatMap (fun p => [Instr.decisionRead (Fin.ofNat 64 p.1), Instr.decisionVisible (Fin.ofNat 64 p.1)])

/-- Scheduled actions in the order of R54, and what else the timeline brings (R33, R49, R53, R59, R201, R207, R208, R304). -/
def dueScheduled (c : Chip) : List Instr :=
  let now_ := c.tl.sched.filter (fun e => e.gt == c.tl.gt)
  [Instr.epochLoad, Instr.snapshotLatch] ++
  (if c.tl.copyAt + 1024 ≤ c.clk then [Instr.snapshotBankCopy] else []) ++
  (List.finRange 12).map Instr.calSwitch ++
  now_.filterMap (fun e => match e.act with
    | .drawer _ => some Instr.drawerCommit
    | .group _ _ => some Instr.groupModeChange
    | _ => none) ++
  (liveSqs c).map Instr.txcCommit ++
  [Instr.runStart, Instr.modeTransitionAtGt, Instr.calibratePassEnd, Instr.syncTimeout] ++
  (List.finRange 8).map Instr.tuArm ++ (List.finRange 8).map Instr.tuRearm ++ (List.finRange 8).map Instr.settleExpiry ++
  (List.finRange 4).map Instr.beaconMiss

/-- The slots that act, the pacer's boundary first; shelves, windows and pins (R66–R71, R74, R77, R97, R124, R146, R168, R200–R203). -/
def dueActions (c : Chip) : List Instr :=
  let ss := (liveSqs c).filter (fun s => (sqOf s.val c).latched.any (fun l => l.at_ == c.tl.gt))
  let pace := ss.filter (fun s => isPacer s.val c) ++ ss.filter (fun s => !isPacer s.val c)
  (if c.dx.track.isEmpty then [] else [Instr.trackingWriteApply]) ++
  pace.flatMap (fun s => [Instr.shotBoundary s, Instr.endBoundary s]) ++
  ss.map Instr.frequencyChange ++ ss.map Instr.frameUpdate ++
  ((List.range 76).filter (fun k => c.rin.gaps.any (fun g => g.port == k && g.taken && g.start + 2048 == c.tl.gt) &&
    rd (dcalDone k) c + 1 != 16)).map (fun k => Instr.calwWindowEnd (noPort k) true) ++
  (if c.rin.gaps.isEmpty && c.md.mode != .calibrate then [] else (List.range 76).map (fun k => Instr.calwGap (noPort k))) ++
  (liveLanes c).map Instr.shelfStart ++
  ss.flatMap (fun s => [Instr.windowOpen s, Instr.markAction s, Instr.postRaise s]) ++
  (List.finRange 8).map Instr.markPulseEnd ++ (List.finRange 8).map Instr.markEventPulseEnd ++
  ((c.rin.windows.filter (fun w => w.stop == c.tl.gt && w.due.isNone)).map (fun w =>
    Instr.windowEnd (Fin.ofNat 24 (w.ch / 12)) (Fin.ofNat 12 (w.ch % 12)) (Fin.ofNat 2 w.w))) ++
  ((c.rin.windows.filter (fun w => w.due == some c.tl.gt)).map (fun w => Instr.resultEntry (Fin.ofNat 24 (w.ch / 12)))).dedup

/-- Commit points, chained and jumped starts, and releases (R74, R78, R82, R187). -/
def dueCommits (c : Chip) : List Instr :=
  (liveSqs c).map Instr.slotCommit ++ (liveLanes c).map Instr.chainLatch ++ (liveLanes c).map Instr.jumpLatch ++
  ((c.syn.lanes.flatMap (fun e => (e.2.plays.filter (fun p => p.stop + 16 == c.tl.gt)).map (fun p =>
    Instr.shelfRelease (Fin.ofNat 8192 p.shelf))))).dedup ++
  c.syn.bias.flatMap (fun p => [Instr.biaStringUpdate (Fin.ofNat 32 p.1), Instr.spanSwitch (Fin.ofNat 32 p.1)])

/-- The engines: the integrator's faults, requests, and the instruction due (R155, R160, R161, R173, R176). -/
def dueEngines (c : Chip) : List Instr :=
  (c.rin.windows.map (fun w => Instr.integratorLenZero (Fin.ofNat 24 (w.ch / 12)) (Fin.ofNat 12 (w.ch % 12)))).dedup ++
  (List.finRange 24).flatMap (fun e =>
    [Instr.tickRequest e, Instr.serviceAccept e, Instr.dxeIllegalOp e] ++
    (match dxeDue e.val c with
     | some i => [dxeCommand e i]
     | none => []))

/-- Sequencers that issue (R193). -/
def dueIssue (c : Chip) : List Instr :=
  (liveSqs c).flatMap (fun s =>
    let x := sqOf s.val c
    let op := sqOpNow s.val c
    if !x.issuing || x.waiting.isSome then []
    else if 8192 ≤ x.pc then [Instr.sqIllegalOp s]
    else if op == 0x11 || op == 0x12 then [] else [sqCommand s op])

/-- Blocks, staging and the stream writer's turn (R299, R313, R314, R343). -/
def dueStreams (c : Chip) : List Instr :=
  [Instr.chanBlock, Instr.rawBlock] ++ (List.finRange 16).map Instr.gapRecord ++
  (match streamTurn c with
   | some k => [Instr.streamRecordWrite (Fin.ofNat 16 k)]
   | none => [])

/-- The links (R263, R270, R274, R276, R284, R288, R289). -/
def dueLinks (c : Chip) : List Instr :=
  (c.lk.looped.filter (fun p => p.1 == c.clk)).map (·.2) ++
  (List.finRange 4).flatMap (fun g => [Instr.downHoldEnd g, Instr.switchGapEnd g true]) ++
  ((List.range 20).filter (fun l => match Tab.find c.lk.wokenAt l with
    | some t => decide (t + 2000 ≤ c.clk)
    | none => false)).map (fun l => Instr.transmitterReady (Fin.ofNat 20 l)) ++
  [Instr.joinRetry] ++
  (List.finRange 4).flatMap (fun g => (groupOf g.val c).tx.map (fun p => Instr.bulkResend g (Fin.ofNat 64 p.1))) ++
  (List.finRange 4).flatMap (fun g =>
    [Instr.beaconTx g (BitVec.ofNat 64 c.tl.gt) 0, Instr.timingFrameTx g, Instr.outcomeFrameTx g, Instr.bulkFrameTx g])

/-- The host interface, the Cabinet, the thermal block and the bench (R28, R140, R345, R351–R360, R369, R391, R413, R423–R437,
R463). -/
def dueRest (c : Chip) : List Instr :=
  (if inModes [.reset, .boot, .shutdown] c then [] else (List.finRange 64).map Instr.bootstrapRingRestore) ++
  (c.dma.chans.flatMap (fun p => [Instr.descriptorComplete (Fin.ofNat 64 p.1), Instr.completionRecordWrite (Fin.ofNat 64 p.1)])) ++
  (match nextBurst c with
   | some (_, ch, _) => [Instr.dmaBurst (Fin.ofNat 64 ch)]
   | none => []) ++
  c.rings.map (fun p => Instr.coalTimeExpiry (Fin.ofNat 16384 p.1)) ++
  [Instr.auditTimeEntry, Instr.periodicCalSave, Instr.creditTick, Instr.tjWarnClear, Instr.throttleFall, Instr.throttleHoldEnd, Instr.nvWindowSet, Instr.senseRateReturn,
   Instr.refcompUpdate, Instr.telemetryPeriodic, Instr.benchPeriodToggle, Instr.dbgBulkGo]

/-- What may be due in this tick, in the order in which it takes effect. -/
def candidates (c : Chip) : List Instr :=
  dueFirst c ++ dueArrivals c ++ dueScheduled c ++ dueActions c ++ dueCommits c ++ dueEngines c ++ dueIssue c ++ dueStreams c ++
    dueLinks c ++ dueRest c

/-- The block's own events of this tick that have not been in the queue yet. -/
def dueEvents (c : Chip) : List Instr := (candidates c).filter (fun i => !c.now.listed.contains i && acts c i)

/-! ### The end of a tick -/

/-- A channel sample as 32 bits: I below Q (R119). -/
def sampleWord (z : Int × Int) : Nat := toField 16 z.1 + toField 16 z.2 * 2 ^ 16

/-- The samples of a frame tick join the CHAN blocks under way (R299). -/
def collectSamples (c : Chip) : Chip :=
  if c.tl.gt % 4 != 0 then c
  else if !sampling c then { c with aq := { c.aq with chanBuf := [] } }
  else
    let old := if c.tl.gt % 1024 == 0 then [] else c.aq.chanBuf
    { c with aq := { c.aq with chanBuf := (List.range 288).map (fun ch => sampleWord (chSample ch c) :: old.getD ch []) } }

/-- RX_SAT of the inputs whose channel samples of this frame tick met the limit (R119). -/
def saturations (c : Chip) : Chip :=
  if c.tl.gt % 4 != 0 then c
  else (List.range 288).foldl (fun d ch =>
    setFlagIf (chBeyond ch c) (P.rinRxSat (ch / 24)) d) c

/-- The paired word of a channel is illegal (R123). -/
def pairBad (ch : Nat) (c : Chip) : Bool := (pairOf ch c).isSome && !rxLegal (chWord ch c)

/-- Channels paired with an illegal word: RX_RANGE in the first tick, and every window open in the tick marks its shot (R123). -/
def pairRanges (c : Chip) : Chip :=
  let bad := (List.range 288).filter (fun ch => pairBad ch c)
  let c1 := bad.foldl (fun d ch => setFlagIf (!c.rin.rangeBad.contains ch) (P.rinRxRange (ch / 24)) d) c
  let live := c.rin.windows.filter (fun w => bad.contains w.ch && w.due.isNone && decide (w.start ≤ c.tl.gt ∧ c.tl.gt < w.stop))
  let c2 := live.foldl (fun d w => markShot w.sq w.shot Sf.freq d) c1
  { c2 with rin := { c2.rin with rangeBad := bad } }

/-- Channels that hold a completion record count the tick (R360). -/
def stallCounts (c : Chip) : Chip :=
  c.dma.chans.foldl (fun d p => if p.2.held.isSome then count (P.dchComplStall p.1) d else d) c

/-- A whole millisecond with THR_LEVEL above 0 is counted (R439). -/
def throttleMs (c : Chip) : Chip :=
  if rd W.thrLevel c == 0 then c
  else if c.th.thrTicks + 1 == 1000000 then count P.thmThrMs { c with th := { c.th with thrTicks := 0 } }
  else { c with th := { c.th with thrTicks := c.th.thrTicks + 1 } }

/-- What a tick does beside its events: the converters, the samples, the trigger units, and what counts ticks. -/
def tickEnd (c : Chip) : Chip :=
  throttleMs (stallCounts (pairRanges (saturations (collectSamples (tuEvalAll (adcPower (waveTick (jumpSettle c))))))))

/-! ### The start of a tick -/

/-- The clock moves on, and nothing has happened in the new tick yet. -/
def clockOn (c : Chip) : Chip :=
  { c with clk := c.clk + 1, tl := { c.tl with gt := if c.tl.counting then (c.tl.gt + 1) % 2 ^ 64 else c.tl.gt },
           now := { Now.reset with tot := c.tot }, ev := { c.ev with old := [], blocked := [] }, syn := { c.syn with shelfOld := [] },
           lk := { c.lk with looped := c.lk.looped.filter (fun p => decide (c.clk < p.1)) },
           sqs := { c.sqs with bindOld := [] }, dx := { c.dx with clsOld := [] },
           aq := { c.aq with
             edges := [], evBits := 0, fresh := [], level := c.pn.trig, fireBits := c.aq.nextFire, nextFire := 0,
             units := c.aq.units.map (fun p => (p.1, { p.2 with prev := p.2.matched, matched := false })) } }

/-- The gates as they stand at the start of the tick (R318). -/
def sampleGates (c : Chip) : Chip := { c with now := { c.now with gates := gateBits c } }

/-- Results that reach their registers, and the samples of the frame tick that has passed, with memory as it then stands (R145,
R151, R157). -/
def engineStep (before : Chip) (c : Chip) : Chip :=
  let c1 := (List.range 24).foldl (fun c e => landResults e c) c
  if before.tl.gt % 4 == 0 && before.tl.counting then
    integrateAll before.tl.gt (fun ch => chSample ch before) c1 else c1

/-- The estimates as they stand at the start of the tick (R131). -/
def estimatesNow (c : Chip) : Chip :=
  { c with rin := { c.rin with ests := c.rin.ests.map (fun p => (p.1, { p.2 with prior := p.2.latest })) } }

/-- What waits for a boundary that will not come in RUN takes effect at the next tick; a phase change of two units or more does
too, and is counted; in READY and HOLD every phase change does (R43, R130, R207, R436). -/
def waitsOver (c : Chip) : Chip :=
  let none_ := !pacerLive c
  let c1 := if none_ then refcompApply c else c
  let c2 := if none_ && c.md.mode == .run then switchAtBoundary c1 else c1
  if c.md.mode == .ready || c.md.mode == .hold || (c.md.mode == .run && none_) then phaseApply c2
  else if c.md.mode == .run && c.tl.state == 3 && 2 ≤ c.tl.phasePending.natAbs then countT P.tlMidshotStepCount 247 (phaseApply c2)
  else c2

/-- Gaps that were not taken and are over, and plays that no output needs any more, are forgotten. -/
def forget (c : Chip) : Chip :=
  { c with rin := { c.rin with gaps := c.rin.gaps.filter (fun g => g.taken || decide (c.tl.gt < g.start + 2048)) },
           syn := { c.syn with lanes := c.syn.lanes.map (fun e =>
             (e.1, { e.2 with plays := e.2.plays.filter (fun p => decide (c.tl.gt < p.stop + 256)) })) } }

/-- A DISARM takes effect (R304). -/
def disarmsDue (c : Chip) : Chip :=
  (List.range 8).foldl (fun c t => if (tuOf t c).disarmAt == some c.clk then disarmNow t c else c) c

/-- One micro-engine at the start of a tick: the writes of the microword executed in the last one, and the traps that are over (R242,
R249). Reads that await a PEEK of an engine that has stopped are served (R256). -/
def microStep (c : Chip) (e : Nat) : Chip :=
  let m := microOf e c
  let over_ (p : Nat × Option Nat) : Bool := match p.2 with
    | some t => decide (t ≤ c.clk)
    | none => false
  let r := match m.due with
    | some u => u.regs
    | none => m.regs
  let r1 := match (m.frame.filter over_).getLast? with
    | some p => frameRestore p.1 r
    | none => r
  let c1 := setMicro e { m with frame := m.frame.filter (fun p => !over_ p), regs := r1, due := none, did := false } c
  if (sqOf e c).issuing then c1 else servePeeks e c1

/-- The micro-engines, and then the sequencers' own start of the tick (R184, R197, R256). -/
def sequencerStep (c : Chip) : Chip :=
  let c1 := c.mc.micro.foldl (fun c p => if (sqOf p.1 c).issuing then c else microStep c p.1) c
  let c2 := c1.sqs.sq.foldl (fun c p => if p.2.issuing then microStep c p.1 else c) c1
  c2.sqs.sq.foldl (fun c p => sqTick p.1 c) c2

/-- The throttle's pause at the start of a period, and a REFCOMP factor that enters the strings (R433, R436). -/
def thermalStep (c : Chip) : Chip :=
  let c1 := if c.tl.gt % 1024 == 0 then { c with th := { c.th with pause := pauseOf (rd W.thrLevel c) } } else c
  match c1.th.factorDue with
  | some (t, f) => if t == c.clk then { c1 with th := { c1.th with factor := f, factorDue := none } } else c1
  | none => c1

/-- A group is downstream: a follower's uplink, or its partner (R270). -/
def downstream (g : Nat) (c : Chip) : Bool := (uplinks c).contains g

/-- The beacons that fall due at this GT on an upstream end (R270). -/
def beaconsDue (c : Chip) : Chip :=
  (List.range 4).foldl (fun c g =>
    if timingModes c && txUp g c && c.tl.gt % 4096 == rd (P.lgBeaconOfs g) c && (!downstream g c || !(portOf g c).seen) then
      setPort g { portOf g c with txDue := some c.tl.gt } c
    else c) c

/-- The start of the next tick. -/
def tickStart (before : Chip) (c : Chip) : Chip :=
  let c1 := sampleGates (biasFollowStep (pipeStep (markPinStep (clockOn c))))
  let c2 := duSampleStep (estimatesNow (adcStep (convergeStep (engineStep before (srcStep c1)))))
  portAsks (refWatch (beaconsDue (thermalStep (sequencerStep (stampsDue (disarmsDue (forget (waitsOver c2))))))))

/-- One tick of the fabric clock. -/
def nextTick (c : Chip) : Chip := tickStart c (tickEnd c)

/-- The chip with the block's events of its tick that are due put into the queue. -/
def withDue (c : Chip) : State :=
  let es := dueEvents c
  { pending := es, chip := { c with now := { c.now with listed := c.now.listed ++ es } } }

/-- A step on an empty queue: the block's events of this tick that are still due; or else the next tick, with what is due as it begins
already in the queue, so that a command which arrives in that tick comes after it (R54, R375). -/
def tick (s : State) : State := if (dueEvents s.chip).isEmpty then withDue (nextTick s.chip) else withDue s.chip

end Sys2Proof.Machine
end

