-- ==== Sys2Proof/Machine/Step.lean ====
section
/-!
DEFINITION. One step: the command at the front of the queue, or, on an empty queue, one tick of the fabric clock.
-/

namespace Sys2Proof.Machine

/-- Take the command at the front of the queue and carry it out on the queue's rest; with no command waiting, one tick
passes. -/
def step (s : State) : Host.Outcome State Fault Refusal :=
  match s.pending with
  | [] => .next (tick s)
  | i :: r => exec i { s with pending := r }

/-- The state with the command that a word spells put at the front of its queue; as it stands where the word spells none. -/
def State.withFetchWord (s : State) (nbits w : Nat) : State :=
  match Sys2Proof.decodeTableWord nbits w with
  | none => s
  | some i => { s with pending := i :: s.pending }

end Sys2Proof.Machine
end

