-- ==== Sys2Proof/Safety.lean ====
section
/-!
DEFINITION. The terms in which statements about the block are made: which parts of the chip two states share, which fields read
the same, and the invariant of a run.
-/

namespace Sys2Proof.Machine

/-- The parts of a chip, one per field of Chip. -/
inductive Part where
  | clk | free | now | pw | md | tl | ev | mb | syn | rin | dx | sqs | oc | lk | aq | mc | dma | nv | th | pn | rings | hostMsix
  | hostPba | numVfs | regs | tot | mem | out
  deriving DecidableEq, Repr

/-- Two chips agree on a part. -/
def Part.same (p : Part) (c d : Chip) : Prop :=
  match p with
  | .clk => d.clk = c.clk
  | .free => d.free = c.free
  | .now => d.now = c.now
  | .pw => d.pw = c.pw
  | .md => d.md = c.md
  | .tl => d.tl = c.tl
  | .ev => d.ev = c.ev
  | .mb => d.mb = c.mb
  | .syn => d.syn = c.syn
  | .rin => d.rin = c.rin
  | .dx => d.dx = c.dx
  | .sqs => d.sqs = c.sqs
  | .oc => d.oc = c.oc
  | .lk => d.lk = c.lk
  | .aq => d.aq = c.aq
  | .mc => d.mc = c.mc
  | .dma => d.dma = c.dma
  | .nv => d.nv = c.nv
  | .th => d.th = c.th
  | .pn => d.pn = c.pn
  | .rings => d.rings = c.rings
  | .hostMsix => d.hostMsix = c.hostMsix
  | .hostPba => d.hostPba = c.hostPba
  | .numVfs => d.numVfs = c.numVfs
  | .regs => d.regs = c.regs
  | .tot => d.tot = c.tot
  | .mem => d.mem = c.mem
  | .out => d.out = c.out

/-- The frame of an effect: every part but those listed is as before. -/
def sameBut (ps : List Part) (c d : Chip) : Prop := ∀ p : Part, p ∉ ps → p.same c d

/-- Every field but those listed reads as before. -/
def fieldsBut (fs : List Field) (c d : Chip) : Prop := ∀ g : Field, (∀ f ∈ fs, g.key ≠ f.key) → rd g d = rd g c

/-- A counter field has counted n events: it saturates at the largest value its width holds (R442). -/
def counted (f : Field) (n : Nat) (c d : Chip) : Prop := rd f d = min (2 ^ f.w - 1) (rd f c + n)

/-- Every byte of memory outside n bytes from address a reads as before. -/
def bytesBut (a n : Nat) (c d : Chip) : Prop :=
  ∀ k : Nat, k < a ∨ a + n ≤ k → Tab.get d.mem k 0 = Tab.get c.mem k 0

/-- A command answers a next state whose queue is as before and whose chip meets a condition. -/
def completes (i : Instr) (s : State) (post : Chip → Prop) : Prop :=
  ∃ t : State, exec i s = .next t ∧ t.pending = s.pending ∧ post t.chip

/-- No stream is enabled and no trigger unit is ARMED: a record or a trigger word that is offered goes nowhere (R302, R312). -/
def acqIdle (c : Chip) : Prop := (∀ k : Fin 16, on (P.stStreamEn k.val) c = false) ∧ ∀ t : Fin 8, (tuOf t.val c).state ≠ 2

/-- Engine e issues i at its program counter in this tick, and i meets no fault (R157, R173, R176). -/
abbrev dxeIssues (e : Nat) (i : DxeInstr) (c : Chip) : Prop := dxeDue e c = some i ∧ dxeFaults e i c = []

/-- What an instruction does to its engine, x being the engine as the instruction leaves it otherwise: the results rs are queued
for the ticks they name, the engine moves past the instruction, and issues next in the next tick (R157–R159). No other engine and
no other part of the chip changes. -/
def dxeMoves (e : Nat) (rs : List Late) (x : Engine) (c d : Chip) : Prop :=
  engOf e d = dxeAdvance { x with late := x.late ++ rs, issueAt := c.clk + 1 } ∧ (∀ q : Nat, q ≠ e → engOf q d = engOf q c) ∧
    sameBut [.dx] c d ∧ d.dx.track = c.dx.track ∧ d.dx.seedSaveAt = c.dx.seedSaveAt ∧ d.dx.clsOld = c.dx.clsOld

/-- What a control transfer does: two delay slots follow, then the target (R158). -/
def dxeTransfers (e : Nat) (target : Option Nat) (rts : Bool) (rs : List Late) (x : Engine) (c d : Chip) : Prop :=
  engOf e d = { x with late := x.late ++ rs, issueAt := c.clk + 1, pc := x.pc + 1,
                       xfer := some { slots := 2, target := target, rts := rts } } ∧
    (∀ q : Nat, q ≠ e → engOf q d = engOf q c) ∧ sameBut [.dx] c d

/-- Sequencer s issues i, whose opcode is op, by the base image's routine, and this is its last issue tick (R193, R239). -/
abbrev sqIssues (s op : Nat) (i : SqInstr) (c : Chip) : Prop :=
  sqBegun s op c = true ∧ sqFaults s c = [] ∧ sqLast s c = true ∧ decodeSq (sqWord s (sqOf s c).pc c) = some i ∧
    (sqOf s c).faulting = none ∧ patched c = false

/-- With a patch in force, sequencer s executes microword u of the routine of opcode op in this tick (R239, R242). -/
abbrev sqWords (s op : Nat) (u : UTick) (c : Chip) : Prop :=
  sqBegun s op c = true ∧ (sqOf s c).faulting = none ∧ patched c = true ∧ (microOf s c).due = some u ∧ (microOf s c).did = false ∧ u.wake = 0

/-- Sequencer s goes on at pc in the next tick, x being the sequencer as its instruction leaves it otherwise. No other sequencer and
no other part of the chip changes. -/
def sqMoves (s pc : Nat) (x : Sequencer) (c d : Chip) : Prop :=
  sqOf s d = { x with pc := pc, first := c.clk + 1, bindAt := none, waiting := none, staleSeen := false, seen := none,
                      sampled := none, stall := 0 } ∧
    (∀ q : Nat, q ≠ s → sqOf q d = sqOf q c) ∧ sameBut [.sqs] c d

/-- Sequencer s has posted a slot whose 128 bits are w, x being the sequencer as its instruction leaves it otherwise: it goes on at pc, and
the slot stands in its place of the slot table (R186). Nothing else changes. -/
def sqPosted (s pc w : Nat) (x : Sequencer) (c d : Chip) : Prop :=
  let a := 0x02600000 + 0x10000 * s + 16 * (x.posted % 4096)
  sqOf s d = { x with posted := x.posted + 1, pc := pc, first := c.clk + 1, bindAt := none, waiting := none, staleSeen := false,
                      seen := none, sampled := none, stall := 0 } ∧
    (∀ q : Nat, q ≠ s → sqOf q d = sqOf q c) ∧ memGet d.mem a 16 = leBytes 16 w ∧ bytesBut a 16 c d ∧ sameBut [.sqs, .mem] c d

/-- Shelf k may be latched to start at GT n on target t: it is VALID, and the rates in play on the port's enabled tones stay within
4 GS/s with it (R76, R80, R84). -/
def mayLatch (t : Target) (k n : Nat) (c : Chip) : Prop :=
  let d := shelfAt k c
  let sum := addFrac (rateSum (tgtPort t).1 (tgtPort t).2 n c) (rateOf (d.getD 2 0))
  shelfValid ≤ d.getD 6 0 ∧
    (isFlx t = true ∨ bitAt (rd (P.portToneEn (tgtPort t).1 (tgtPort t).2) c) (tgtTone t) = false ∨ sum.1 ≤ 4 * sum.2)

/-- The play of shelf k that a commit point latches for GT n: LENGTH × N ticks, and the successor of its descriptor (R73, R78). -/
def playOf (k n : Nat) (amp : Option Int) (kind : StartKind) (c : Chip) : Play :=
  let d := shelfAt k c
  { shelf := k, start := n, stop := n + shelfTicks (d.getD 1 0) (d.getD 2 0), amp := amp, silent := false, underrun := false,
    kind := kind, latched := c.tl.gt, next := if d.getD 4 0 = 1 then some (d.getD 3 0) else none, begun := false }

/-- A command of mailbox h is taken (R370, R372–R374): Llynlek runs, cr and rr are the mailbox's CMD and RSP rings, both run, an entry
waits, the RSP ring has room for the n responses the command can produce, the mailbox's last command has ended, the entry's
reserved bytes are 0, the mailbox takes this opcode, and a write command has its right. -/
abbrev taken (h : Cmd) (op n : Nat) (write : Bool) (cr rr : Nat) (c : Chip) : Prop :=
  inModes [.reset, .boot, .shutdown] c = false ∧ mboxRings h.mb c = some (cr, rr) ∧ (ringOf cr c).ty = 1 ∧ (ringOf rr c).ty = 2 ∧ (ringOf cr c).run = true ∧
    0 < ringUsed (ringOf cr c) ∧ (ringOf rr c).run = true ∧ promised h.mb c + n ≤ ringRoom (ringOf rr c) ∧
    mboxBusy h.mb c = false ∧ h.rsvd = false ∧ mboxTakes h.mb op = true ∧ (write = true → mayWrite h.mb c = true)

/-- The issuer that a command's entry names, accepted in this tick (R373, R374). -/
def entryIssuer (h : Cmd) (op : Nat) (c : Chip) : Issuer :=
  { mb := h.mb, ctag := h.ctag.toNat, opcode := op, acceptGt := c.tl.gt, res := [] }

/-- The one response of a command is written: its status, its result words, and the GT of its acceptance (R373, R374). -/
def answered (h : Cmd) (op status : Nat) (res : List Nat) (c d : Chip) : Prop :=
  .rsp h.mb op h.ctag.toNat status true false c.tl.gt c.tl.gt res ∈ d.out

/-- The first response of a command that schedules an action is written (R374). -/
def acceptedAt (h : Cmd) (op : Nat) (res : List Nat) (c d : Chip) : Prop :=
  .rsp h.mb op h.ctag.toNat St.ok false true c.tl.gt 0 res ∈ d.out

/-- The chip once a mailbox's CMD ring has given up the entry at its front. -/
def consumed (h : Cmd) (c : Chip) : Chip :=
  match mboxRings h.mb c with
  | some p => ringConsume p.1 1 c
  | none => c

/-- A write of a parameter by h's session passes every test of R464, on what the parameter would hold. -/
def passes (h : Cmd) (id value mask : Nat) (c : Chip) : Prop :=
  ∀ w : Writer, w.ses = sesOf h.mb → writeRefused w id value mask (heldBase (consumed h c)) (consumed h c) = none

/-- The write commands of R372: the mailbox and tag of a command that is one, and its opcode. Every row that is a PARAM_SET of one
parameter is among them. -/
def writeCommand : Instr → Option (Cmd × Nat)
  | .paramSet h .. | .epochArm h .. | .auditAck h .. | .jumpShelf h .. | .stopLane h .. | .biasRecordWrite h .. | .calSwitchAt h ..
  | .calSave h .. | .dxeRun h .. | .dxeMsg h .. | .seedSave h .. | .switchNow h .. | .join h .. | .leave h .. | .outTestRec h ..
  | .armAt h .. | .disarm h .. | .streamEn h .. | .swFire h .. | .lock h .. | .markSrcChange h .. | .chResume h .. | .chAbort h ..
  | .refcomp h .. | .boardWrite h .. | .svnAdvance h .. | .keyRevoke h .. => some (h, 0x21)
  | .paramList h .. => some (h, 0x22)
  | .txnCommit h .. => some (h, 0x32)
  | .groupMode h .. => some (h, 0x33)
  | .modeSet h .. => some (h, 0x40)
  | .cfgSave h .. => some (h, 0x50)
  | .cfgLoad h .. => some (h, 0x51)
  | _ => none

/-- Every part. -/
def Part.all : List Part :=
  [.clk, .free, .now, .pw, .md, .tl, .ev, .mb, .syn, .rin, .dx, .sqs, .oc, .lk, .aq, .mc, .dma, .nv, .th, .pn, .rings, .hostMsix,
   .hostPba, .numVfs, .regs, .tot, .mem, .out]

/-- The parts of the chip that a command may change, whatever the state; every part where a command reaches far (a write of a
parameter, a mode, a supply) or where the sequencers' own frame says it. -/
def mayChange : Instr → List Part
  | .tickRequest .. => [.dx]
  | .bulkResend .. | .transmitterReady .. => [.lk]
  | .correctableError .. => [.mc]
  | .decisionRead .. => [.oc]
  | .smbReadMode .. | .smbReadBootStatus .. | .smbReadTj .. | .smbReadSensorFailed .. | .smbReadDeviceSerial ..
  | .smbReadAlertEn .. | .smbReadAlertStat .. => [.out]
  | .pePerstNHigh .. => [.pn]
  | .shelfRelease .. | .nvWindowSet .. | .senseRateReturn .. | .smbWriteAlertEn .. | .smbClearAlertStat ..
  | .pcieLinkChange .. => [.regs]
  | .bootstrapRingRestore .. => [.rings]
  | .refcompUpdate .. => [.th]
  | .laneAlign .. | .joinRetry .. | .bulkAck .. | .clockLaneReturn .. => [.lk, .regs]
  | .prbsError .. => [.now, .regs]
  | .creditTick .. => [.nv, .regs]
  | .alertResponse .. | .clamp .. | .highz .. | .idcode .. | .bypass .. => [.pn, .out]
  | .snapshotBankCopy .. => [.tl, .regs]
  | .descriptorFetch .. => [.dma, .rings, .out]
  | .extest .. | .samplePreload .. => [.free, .pn, .out]
  | .bulkPortDecision .. => [.now, .dma, .regs]
  | .codeError .. => [.now, .lk, .regs]
  | .barBadRead .. => [.now, .regs, .out]
  | .calwGap .. => [.now, .rin, .regs]
  | .coalTimeExpiry .. => [.rings, .hostPba, .out]
  | .markPulseEnd .. => [.sqs, .pn, .out]
  | .biaStringUpdate .. => [.syn, .regs, .out]
  | .markEventPulseEnd .. => [.ev, .sqs, .pn, .out]
  | .info .. | .ringFree .. | .drawerOpen .. => [.mb, .rings, .hostPba, .out]
  | .decisionVisible .. => [.now, .ev, .oc, .regs]
  | .postRaise .. => [.now, .ev, .sqs, .regs]
  | .timingFrameTx .. => [.free, .now, .lk, .regs, .out]
  | .spanSwitch .. => [.now, .syn, .regs, .out]
  | .benchPeriodToggle .. => [.syn, .sqs, .pn, .out]
  | .tjWarnClear .. | .telemetryPeriodic .. => [.th, .regs, .tot, .mem]
  | .completionRecordWrite .. => [.dma, .pn, .rings, .hostPba, .out]
  | .sessionOpen .. | .ringAlloc .. | .attest .. => [.free, .mb, .rings, .hostPba, .out]
  | .gapRecord .. => [.now, .aq, .pn, .regs, .out]
  | .hostReadCompletion .. => [.now, .dma, .hostPba, .regs, .out]
  | .serviceAccept .. => [.now, .dx, .hostPba, .regs, .out]
  | .auditTimeEntry .. => [.now, .mb, .regs, .tot, .mem]
  | .calwWindowEnd .. | .windowEnd .. => [.now, .rin, .hostPba, .regs, .out]
  | .doorbell .. | .ringRun .. => [.now, .rings, .hostPba, .regs, .out]
  | .beaconTx .. => [.free, .now, .tl, .lk, .regs, .out]
  | .drawerClose .. | .txnCommit .. => [.tl, .mb, .rings, .hostPba, .out]
  | .dmaFree .. => [.mb, .dma, .rings, .hostPba, .regs, .out]
  | .bulkFrameRx .. => [.now, .lk, .rings, .hostPba, .regs, .out]
  | .wearMove .. => [.now, .nv, .hostPba, .regs, .tot, .out]
  | .outcomeFrameTx .. => [.free, .now, .oc, .lk, .regs, .tot, .out]
  | .biasLoader .. => [.now, .pw, .syn, .hostPba, .regs, .out]
  | .periodicCalSave .. => [.now, .rin, .nv, .hostPba, .regs, .out]
  | .windowOpen .. => [.now, .rin, .sqs, .hostPba, .regs, .out]
  | .markAction .. => [.now, .sqs, .pn, .hostPba, .regs, .out]
  | .faultHold .. => [.now, .syn, .rings, .hostPba, .regs, .out]
  | .registerWrite .. => [.now, .syn, .rings, .hostMsix, .hostPba, .regs, .out]
  | .chainLatch .. | .jumpLatch .. | .frameUpdate .. => [.now, .syn, .sqs, .hostPba, .regs, .out]
  | .groupUp .. => [.now, .tl, .lk, .hostPba, .regs, .out]
  | .snapshotLatch .. => [.now, .tl, .rings, .hostPba, .regs, .out]
  | .bootEntry .. => [.pw, .md, .tl, .th, .hostPba, .out]
  | .snapshotAt .. => [.tl, .mb, .lk, .rings, .hostPba, .out]
  | .calSwitch .. => [.tl, .rin, .rings, .hostPba, .regs, .out]
  | .dmaAlloc .. => [.free, .mb, .dma, .rings, .hostPba, .regs, .out]
  | .streamRecordWrite .. => [.now, .aq, .dma, .rings, .hostPba, .regs, .tot, .out]
  | .joinReq .. | .joinAck .. | .joinNak .. => [.now, .mb, .lk, .rings, .hostPba, .regs, .out]
  | .bulkFrameTx .. => [.free, .now, .mb, .lk, .rings, .hostPba, .regs, .out]
  | .dbgBulkGo .. => [.now, .mb, .oc, .pn, .regs, .tot, .mem]
  | .summaryWrite .. => [.now, .nv, .rings, .hostPba, .regs, .tot, .out]
  | .frequencyChange .. => [.now, .syn, .rin, .sqs, .hostPba, .regs, .out]
  | .shelfStart .. => [.now, .syn, .sqs, .hostPba, .regs, .tot, .out]
  | .snapshotFrameRx .. => [.now, .tl, .lk, .rings, .hostPba, .regs, .out]
  | .throttleFall .. | .throttleHoldEnd .. => [.now, .ev, .th, .hostPba, .regs, .tot, .mem, .out]
  | .trigFire .. => [.now, .mb, .lk, .aq, .rings, .hostPba, .regs, .out]
  | .dbgBulk .. => [.now, .mb, .oc, .pn, .regs, .tot, .mem, .out]
  | .estimatorBlock .. => [.now, .mb, .rin, .rings, .hostPba, .regs, .tot, .out]
  | .peekTrap .. => [.now, .mb, .sqs, .mc, .rings, .hostPba, .regs, .out]
  | .dxeNop .. | .ld .. | .ld2 .. | .st .. | .ldi .. | .ldih .. | .mov .. | .add .. | .sub .. | .addi .. | .and .. | .or ..
  | .xor .. | .sha .. | .mul .. | .cmp .. | .cmpi .. | .sat .. | .mac .. | .cmac .. | .aclr .. | .amov .. | .popr ..
  | .rdcur .. | .cls .. | .getm .. | .rdgt .. | .setb .. | .setp .. | .getp .. | .branch .. | .dxeCall .. | .dxeRet ..
  | .rts .. | .rpt .. | .rptr .. | .setm .. | .idle .. | .halt .. | .integratorLenZero .. | .dxeIllegalOp .. =>
    [.now, .md, .ev, .syn, .rin, .dx, .sqs, .rings, .hostPba, .regs, .out]
  | .chanBlock .. | .rawBlock .. => [.now, .sqs, .aq, .pn, .hostPba, .regs, .tot, .out]
  | .laneAlignLoss .. | .groupFail .. | .bufSlip .. | .downHoldEnd .. | .frameDiscard .. =>
    [.now, .ev, .oc, .lk, .dma, .hostPba, .regs, .tot, .out]
  | .settleExpiry .. => [.now, .ev, .sqs, .aq, .pn, .hostPba, .regs, .tot, .out]
  | .dmaBurst .. => [.now, .mb, .oc, .lk, .dma, .regs, .tot, .mem, .out]
  | .leaveFrame .. => [.now, .mb, .oc, .lk, .rings, .hostPba, .regs, .tot, .out]
  | .descriptorComplete .. => [.now, .syn, .dma, .pn, .rings, .hostPba, .regs, .tot, .out]
  | .outc .. => [.now, .md, .ev, .syn, .rin, .dx, .sqs, .oc, .rings, .hostPba, .regs, .tot, .out]
  | .trkw .. => [.now, .md, .ev, .syn, .rin, .dx, .sqs, .rings, .hostPba, .regs, .tot, .out]
  | .suppliesValid .. | .suppliesLost .. | .resetNLow .. | .pePerstNLow .. | .bootSequence .. | .clkLost ..
  | .forcedZeroEnd .. | .eccUe .. | .modeSet .. | .transitionComplete .. | .runStart .. | .calibratePassEnd ..
  | .syncTimeout .. | .epochPulse .. | .epochLoad .. | .epochArm .. | .beaconRx .. | .beaconMiss .. | .drawerCommit ..
  | .groupModeChange .. | .sessionClose .. | .paramGet .. | .paramSet .. | .paramList .. | .groupMode .. | .cfgSave ..
  | .cfgLoad .. | .auditAck .. | .slotCommit .. | .shotBoundary .. | .endBoundary .. | .txcCommit .. | .jumpShelf ..
  | .stopLane .. | .biasRecordWrite .. | .calSwitchAt .. | .calSave .. | .resultEntry .. | .dxeRun .. | .dxeMsg ..
  | .trackingWriteApply .. | .seedSave .. | .outcomeVisible .. | .outcomeFrameRx .. | .ckLoss .. | .switchNow ..
  | .switchFrame .. | .switchGapEnd .. | .trigArm .. | .join .. | .leave .. | .outTestRec .. | .edgeStamp .. | .tuRearm ..
  | .tuArm .. | .armAt .. | .disarm .. | .streamEn .. | .eventDeliver .. | .swFire .. | .lock .. | .markSrcChange ..
  | .functionLevelReset .. | .descriptorStart .. | .chResume .. | .chAbort .. | .eccUeTrap .. | .storeRepair ..
  | .thermalSample .. | .refcomp .. | .biasWrite .. | .boardWrite .. | .svnAdvance .. | .keyRevoke .. | .trigPinChange ..
  | .modeTransitionAtGt .. | .play .. | .acq .. | .frm .. | .setf .. | .shot .. | .mark .. | .post .. | .txc .. | .calw ..
  | .endProg .. | .nop .. | .waitt .. | .waito .. | .bro .. | .loop .. | .endl .. | .sqCall .. | .sqRet .. | .ldr ..
  | .addr .. | .getc .. | .eccCeTrap .. | .sqIllegalOp .. | .waitoResume .. | .waitoTimeout .. => Part.all

/-- On-chip memory is in its canonical form: keys rising, no byte listed that an unlisted one reads as. -/
def Chip.memOk (c : Chip) : Prop := Tab.wf c.mem 0 = true

end Sys2Proof.Machine
end

