-- ==== Sys2Proof/Certificates/Slice0/Obligations.lean ====
section
/-!
DEFINITION. The statements for the provers. Each docstring names the rules of spec/ that its statement rests on; where a value or an
order is the model's own choice, it names the log entry.
-/

open Sys2Proof Sys2Proof.Machine

set_option linter.unusedVariables false

/-- O1: the moves, constants and readers of R176 complete: each queues exactly its result, for the tick its latency gives. -/
def Obligations.DxeMovesComplete : Prop :=
  ∀ (s : State) (e : Fin 24) (d r b : BitVec 4) (v : BitVec 32) (m : BitVec 3),
    let c := s.chip
    let x := engOf e.val c
    (dxeIssues e.val .nop c → completes (.dxeNop e) s (dxeMoves e.val [] x c)) ∧
    (dxeIssues e.val (.ldi d v) c →
      completes (.ldi e) s (dxeMoves e.val [{ due := c.clk + 1, dest := .g d.toNat (v.signExtend 64) }] x c)) ∧
    (dxeIssues e.val (.ldih d v) c →
      completes (.ldih e) s (dxeMoves e.val [{ due := c.clk + 1, dest := .g d.toNat (v ++ (gReg x d).extractLsb' 0 32) }] x c)) ∧
    (dxeIssues e.val (.mov d r) c → completes (.mov e) s (dxeMoves e.val [{ due := c.clk + 1, dest := .g d.toNat (gReg x r) }] x c)) ∧
    (dxeIssues e.val (.getm d) c → completes (.getm e) s (dxeMoves e.val [{ due := c.clk + 1, dest := .g d.toNat x.msg }] x c)) ∧
    (dxeIssues e.val (.rdgt d) c →
      completes (.rdgt e) s (dxeMoves e.val [{ due := c.clk + 1, dest := .g d.toNat (BitVec.ofNat 64 c.tl.gt) }] x c)) ∧
    (dxeIssues e.val (.getp d b) c →
      completes (.getp e) s (dxeMoves e.val [{ due := c.clk + 1, dest := .g d.toNat (BitVec.ofNat 64 (pReg x b)) }] x c)) ∧
    (dxeIssues e.val (.setp b r) c →
      completes (.setp e) s (dxeMoves e.val [{ due := c.clk + 1, dest := .ptr b.toNat (bits (gReg x r).toNat 0 16) }] x c)) ∧
    (dxeIssues e.val (.setb b r) c →
      completes (.setb e) s (dxeMoves e.val
        [{ due := c.clk + 2, dest := .cb b.toNat (bits (gReg x r).toNat 0 15) (bits (gReg x r).toNat 16 16) }] x c)) ∧
    (dxeIssues e.val (.setm m) c → completes (.setm e) s (dxeMoves e.val [{ due := c.clk + 1, dest := .srm m.toNat }] x c))

/-- O2: the arithmetic of R176 completes: each queues its value and its flags for the next tick, MUL its product for the tick after
that. -/
def Obligations.DxeArithmeticCompletes : Prop :=
  ∀ (s : State) (e : Fin 24) (d p q : BitVec 4) (v : BitVec 32),
    let c := s.chip
    let x := engOf e.val c
    let a := gReg x p
    let b := gReg x q
    let two (r : Word) (f : Flags) : List Late :=
      [{ due := c.clk + 1, dest := .g d.toNat r }, { due := c.clk + 1, dest := .flags f.z f.n f.c f.v }]
    let clamp (w : Word) (n : Nat) : Word :=
      BitVec.ofInt 64 (if w.toInt < -(n : Int) then -(n : Int) else if (n : Int) < w.toInt then n else w.toInt)
    let prod (w u : Word) : Word := BitVec.ofInt 64 ((w.extractLsb' 0 32).toInt * (u.extractLsb' 0 32).toInt)
    let flags (f : Flags) : List Late := [{ due := c.clk + 1, dest := .flags f.z f.n f.c f.v }]
    (dxeIssues e.val (.add d p q) c → completes (.add e) s (dxeMoves e.val (two (a + b) (addFlags a b)) x c)) ∧
    (dxeIssues e.val (.sub d p q) c → completes (.sub e) s (dxeMoves e.val (two (a - b) (subFlags a b)) x c)) ∧
    (dxeIssues e.val (.addi d p v) c →
      completes (.addi e) s (dxeMoves e.val (two (a + v.signExtend 64) (addFlags a (v.signExtend 64))) x c)) ∧
    (dxeIssues e.val (.and d p q) c → completes (.and e) s (dxeMoves e.val (two (a &&& b) (logicFlags (a &&& b))) x c)) ∧
    (dxeIssues e.val (.or d p q) c → completes (.or e) s (dxeMoves e.val (two (a ||| b) (logicFlags (a ||| b))) x c)) ∧
    (dxeIssues e.val (.xor d p q) c → completes (.xor e) s (dxeMoves e.val (two (a ^^^ b) (logicFlags (a ^^^ b))) x c)) ∧
    (dxeIssues e.val (.sha d p v) c → v.msb = false →
      completes (.sha e) s (dxeMoves e.val (two (a <<< v.toNat) (logicFlags (a <<< v.toNat))) x c)) ∧
    (dxeIssues e.val (.sha d p v) c → v.msb = true →
      completes (.sha e) s (dxeMoves e.val
        (two (a.sshiftRight (2 ^ 32 - v.toNat)) (logicFlags (a.sshiftRight (2 ^ 32 - v.toNat)))) x c)) ∧
    (dxeIssues e.val (.cmp p q) c → completes (.cmp e) s (dxeMoves e.val (flags (subFlags a b)) x c)) ∧
    (dxeIssues e.val (.cmpi p v) c → completes (.cmpi e) s (dxeMoves e.val (flags (subFlags a (v.signExtend 64))) x c)) ∧
    (dxeIssues e.val (.sat d p v) c →
      completes (.sat e) s (dxeMoves e.val [{ due := c.clk + 1, dest := .g d.toNat (clamp a v.toNat) }] x c)) ∧
    (dxeIssues e.val (.mul d p q) c →
      completes (.mul e) s (dxeMoves e.val [{ due := c.clk + 2, dest := .g d.toNat (prod a b) }] x c))

/-- O3: loads and stores through a circular buffer complete (R153, R176): the word at (BASE + pointer) modulo 32,768, the pointer
first reduced modulo LEN; the pointer then steps and stays in 0 to LEN − 1. -/
def Obligations.DxeMemoryCompletes : Prop :=
  ∀ (s : State) (e : Fin 24) (d b : BitVec 4) (p : BitVec 8),
    let c := s.chip
    let x := engOf e.val c
    let len := rd (P.dxeCbLen e.val b.toNat) c
    let base := rd (P.dxeCbBase e.val b.toNat) c
    let off := pReg x b % len
    let step : Late := { due := c.clk + 1, dest := .ptr b.toNat (((off : Int) + p.toInt) % (len : Int)).toNat }
    (dxeIssues e.val (.ld d b p) c →
      completes (.ld e) s (dxeMoves e.val
        [{ due := c.clk + 2, dest := .g d.toNat ((BitVec.ofNat 32 (dataWord e.val ((base + off) % 32768) c)).signExtend 64) }, step]
        x c)) ∧
    (dxeIssues e.val (.ld2 d b p) c →
      completes (.ld2 e) s (dxeMoves e.val
        [{ due := c.clk + 2, dest := .g d.toNat (BitVec.ofNat 64 (dataWord e.val ((base + off) % 32768) c +
            dataWord e.val ((base + (off + 1) % len) % 32768) c * 2 ^ 32)) }, step] x c)) ∧
    (dxeIssues e.val (.st b d p) c →
      completes (.st e) s (dxeMoves e.val
        [{ due := c.clk + 1, dest := .mem (dataAddr e.val ((base + off) % 32768)) (bits (gReg x d).toNat 0 32) }, step] x c))

/-- O4: the accumulators complete (R157, R176): a product is added to what the accumulator reads in the issue tick, and the sum lands in
three ticks, ACLR clears in one, AMOV shifts right with the sign. -/
def Obligations.DxeAccumulateCompletes : Prop :=
  ∀ (s : State) (e : Fin 24) (d p q : BitVec 4) (k : BitVec 2) (v : BitVec 6),
    let c := s.chip
    let x := engOf e.val c
    let a := gReg x p
    let b := gReg x q
    let re (w : Word) : Int := (w.extractLsb' 0 32).toInt
    let im (w : Word) : Int := (w.extractLsb' 32 32).toInt
    let lo (w : Word) : Int := (w.extractLsb' 0 16).toInt
    let hi (w : Word) : Int := (w.extractLsb' 16 16).toInt
    (dxeIssues e.val (.mac k p q) c →
      completes (.mac e) s (dxeMoves e.val [{ due := c.clk + 3, dest := .a k.toNat (aReg x k + BitVec.ofInt 56 (re a * lo b)) }] x c)) ∧
    (dxeIssues e.val (.cmac k p q) c →
      completes (.cmac e) s (dxeMoves e.val
        [{ due := c.clk + 3, dest := .a k.toNat (aReg x k + BitVec.ofInt 56 (re a * lo b - im a * hi b)) },
         { due := c.clk + 3, dest := .a (k.toNat + 1) (aReg x (k + 1) + BitVec.ofInt 56 (re a * hi b + im a * lo b)) }] x c)) ∧
    (dxeIssues e.val (.aclr k 0) c → completes (.aclr e) s (dxeMoves e.val [{ due := c.clk + 1, dest := .a k.toNat 0 }] x c)) ∧
    (dxeIssues e.val (.aclr k 1) c →
      completes (.aclr e) s (dxeMoves e.val
        [{ due := c.clk + 1, dest := .a 0 0 }, { due := c.clk + 1, dest := .a 1 0 }, { due := c.clk + 1, dest := .a 2 0 },
         { due := c.clk + 1, dest := .a 3 0 }] x c)) ∧
    (dxeIssues e.val (.amov d k v) c →
      completes (.amov e) s (dxeMoves e.val
        [{ due := c.clk + 1, dest := .g d.toNat (((aReg x k).sshiftRight v.toNat).signExtend 64) }] x c))

/-- O5: results and outcomes complete (R164, R167): POPR takes the oldest result as CUR, or none with Z set; RDCUR describes CUR; OUTC
posts CUR's outcome once, five ticks from now, and counts what it may not post. -/
def Obligations.DxeResultsComplete : Prop :=
  ∀ (s : State) (e : Fin 24) (d : BitVec 4) (r : Result) (q : List Result),
    let c := s.chip
    let x := engOf e.val c
    (dxeIssues e.val (.popr d) c → x.queue = [] →
      completes (.popr e) s (dxeMoves e.val [{ due := c.clk + 1, dest := .zero true }] { x with cur := none, posted := false } c)) ∧
    (dxeIssues e.val (.popr d) c → x.queue = r :: q →
      completes (.popr e) s (dxeMoves e.val
        [{ due := c.clk + 1, dest := .g d.toNat (BitVec.ofNat 64 (toField 32 r.i + toField 32 r.q * 2 ^ 32)) },
         { due := c.clk + 1, dest := .zero false }] { x with queue := q, cur := some r, posted := false } c)) ∧
    (dxeIssues e.val (.rdcur d) c → x.cur = none →
      completes (.rdcur e) s (dxeMoves e.val [{ due := c.clk + 1, dest := .g d.toNat 0 }] x c)) ∧
    (dxeIssues e.val (.rdcur d) c → x.cur = some r →
      completes (.rdcur e) s (dxeMoves e.val [{ due := c.clk + 1, dest := .g d.toNat (curWord r) }] x c)) ∧
    (dxeIssues e.val (.outc d) c → x.cur = some r → x.posted = false → r.aborted = false → c.md.mode = .run →
      completes (.outc e) s (fun t => engOf e.val t = dxeAdvance { x with posted := true, issueAt := c.clk + 1 } ∧
        t.oc.bus = c.oc.bus ++ [{ engine := e.val, ch := 12 * e.val + r.c, val := bits (gReg x d).toNat 0 2,
                                  flags := b2n r.kchg + 2 * b2n r.split + 4 * b2n r.conv + 8 * b2n r.sat, endGt := r.endGt,
                                  due := c.clk + 5 }] ∧
        counted P.outOutcPosted 1 c t ∧
        sameBut [.dx, .oc, .regs, .now, .tot] c t)) ∧
    (dxeIssues e.val (.outc d) c → (x.cur = none ∨ x.posted = true) →
      completes (.outc e) s (fun t => t.oc = c.oc ∧ counted (P.dxeOutcDropCount e.val) 1 c t))

/-- O6: control transfers complete (R158, R177): two delay slots, then the target, or the address after the slots where a branch's
condition does not hold. CALL notes its return address, RTS also restores the flags and ends the handler. -/
def Obligations.DxeTransfersComplete : Prop :=
  ∀ (s : State) (e : Fin 24) (k : BitVec 4) (a : BitVec 12) (l : Nat),
    let c := s.chip
    let x := engOf e.val c
    (dxeIssues e.val (.branch k a) c → condHolds k.toNat (flagsOf x) = some true →
      completes (.branch e) s (dxeTransfers e.val (some a.toNat) false [] x c)) ∧
    (dxeIssues e.val (.branch k a) c → condHolds k.toNat (flagsOf x) = some false →
      completes (.branch e) s (dxeTransfers e.val none false [] x c)) ∧
    (dxeIssues e.val (.call a) c →
      completes (.dxeCall e) s (dxeTransfers e.val (some a.toNat) false [] { x with lk := some ((x.pc + 3) % 4096) } c)) ∧
    (dxeIssues e.val .ret c → x.lk = some l → completes (.dxeRet e) s (dxeTransfers e.val (some l) false [] x c)) ∧
    (dxeIssues e.val .rts c →
      completes (.rts e) s (dxeTransfers e.val (some x.spc) true
        [{ due := c.clk + 3, dest := .flags (x.sfl.testBit 0) (x.sfl.testBit 1) (x.sfl.testBit 2) (x.sfl.testBit 3) }] x c))

/-- O7: repeats, IDLE and HALT complete (R159, R161, R174): n passes over the next LEN instructions, LEN 0 meaning 256; no pass
skips them. IDLE stops issue; HALT stops the engine with HALTED set. -/
def Obligations.DxeRepeatsComplete : Prop :=
  ∀ (s : State) (e : Fin 24) (n : BitVec 16) (l : BitVec 8) (r : BitVec 4),
    let c := s.chip
    let x := engOf e.val c
    let len := if l = 0 then 256 else l.toNat
    let begins (k : Nat) (t : Chip) : Prop :=
      engOf e.val t = { x with issueAt := c.clk + 1, pc := x.pc + 1,
                               reps := { first := x.pc + 1, last := x.pc + len, left := k } :: x.reps } ∧ sameBut [.dx] c t
    let skips (t : Chip) : Prop :=
      engOf e.val t = { x with issueAt := c.clk + 1, pc := (repNext (x.pc + len) x.reps).1, reps := (repNext (x.pc + len) x.reps).2 } ∧
        sameBut [.dx] c t
    (dxeIssues e.val (.rpt n l) c → n ≠ 0 → completes (.rpt e) s (begins n.toNat)) ∧
    (dxeIssues e.val (.rpt n l) c → n = 0 → completes (.rpt e) s skips) ∧
    (dxeIssues e.val (.rptr r l) c → bits (gReg x r).toNat 0 16 ≠ 0 → completes (.rptr e) s (begins (bits (gReg x r).toNat 0 16))) ∧
    (dxeIssues e.val (.rptr r l) c → bits (gReg x r).toNat 0 16 = 0 → completes (.rptr e) s skips) ∧
    (dxeIssues e.val .idle c → completes (.idle e) s (dxeMoves e.val [] { x with idle := true } c)) ∧
    (dxeIssues e.val .halt c →
      completes (.halt e) s (fun t => rd (P.dxeDxeRun e.val) t = 0 ∧ rd (P.dxeHalted e.val) t = 1 ∧
        engOf e.val t = dxeAdvance { x with issueAt := c.clk + 1 } ∧ sameBut [.dx, .regs] c t ∧
        fieldsBut [P.dxeDxeRun e.val, P.dxeHalted e.val] c t))

/-- O8: CLS completes (R165): the products d_k of the point with the entry's axes reach the accumulators, and the class the bits
b_k choose reaches the register, in three ticks. -/
def Obligations.DxeClassifies : Prop :=
  ∀ (s : State) (e : Fin 24) (d p : BitVec 4) (v : BitVec 8) (n : Nat),
    let c := s.chip
    let x := engOf e.val c
    let g := gReg x p
    let t := (v.toNat + (match x.cur with | some r => r.c | none => 0)) % 256
    let dot (k : Nat) : Int :=
      (g.extractLsb' 0 32).toInt * sgn 16 (bits (clsAt e.val t k c) 0 16) +
        (g.extractLsb' 32 32).toInt * sgn 16 (bits (clsAt e.val t k c) 16 16)
    let b (k : Nat) : Nat := if k < n ∧ sgn 32 (clsAt e.val t (3 + k) c) * 65536 ≤ dot k then 1 else 0
    dxeIssues e.val (.cls d p v) c → clsAt e.val t 7 c % 4 = n →
      completes (.cls e) s (dxeMoves e.val
        (((List.range 3).filter (· < n)).map (fun k => { due := c.clk + 3, dest := .a k (BitVec.ofInt 56 (dot k)) }) ++
         [{ due := c.clk + 3,
            dest := .g d.toNat (BitVec.ofNat 64 (bits (clsAt e.val t 6 c) (2 * (b 0 + 2 * b 1 + 4 * b 2)) 2)) }]) x c)

/-- O9: tracking writes complete (R168–R170): in RUN, on a legal target in ADAPT, within its slot's step limit, TRKW's value waits to be
applied with the slot's timing; otherwise the write is refused and counted; one that is due takes effect on its target, here a flux
offset, and leaves the list. -/
def Obligations.TrackingWritesComplete : Prop :=
  ∀ (s : State) (e : Fin 24) (p t k : BitVec 4) (i : Fin 24) (y : Track),
    let c := s.chip
    let x := engOf e.val c
    let id := bits (gReg x t).toNat 0 32
    let v := (gReg x p).toNat % 2 ^ (trkShape id).1
    (dxeIssues e.val (.trkw p t k) c → c.md.mode = .run → inAdapt id c = true → trkTarget e.val id = true → trkPending id c = none →
      rd (P.dxeTrkMaxStep e.val k.toNat) c ≠ 0 → (trkStep id (storedValue id c) v).natAbs ≤ rd (P.dxeTrkMaxStep e.val k.toNat) c →
      completes (.trkw e) s (fun d => d.regs = c.regs ∧ d.mem = c.mem ∧
        engOf e.val d = dxeAdvance { x with issueAt := c.clk + 1 } ∧
        d.dx.track = c.dx.track ++ [{ engine := e.val, slot := k.toNat, id := id, value := v,
                                      at_ := if on (P.dxeTrkApply e.val k.toNat) c then some (c.tl.gt + 4) else none,
                                      sq := rd (P.dxeTrkSq e.val k.toNat) c, after := c.tl.gt + 16, issued := c.clk }])) ∧
    (dxeIssues e.val (.trkw p t k) c → (c.md.mode ≠ .run ∨ inAdapt id c = false ∨ trkTarget e.val id = false) →
      completes (.trkw e) s (fun d => d.dx.track = c.dx.track ∧ counted (P.dxeTrkRefusedCount e.val) 1 c d)) ∧
    (c.dx.track = [y] → y.at_ = some c.tl.gt → y.id = (P.flxFlxOffset i.val).id → c.md.mode = .run → inAdapt y.id c = true →
      completes .trackingWriteApply s (fun d => d.dx.track = [] ∧ rd (P.flxFlxOffset i.val) d = y.value % 2 ^ 16 ∧ d.md = c.md ∧
        d.sqs = c.sqs))

/-- O10: a request is served (R160–R162): TICK becomes pending at a multiple of its period; a request that is accepted saves the
program counter and the flags, enters its handler, and issues two ticks later. -/
def Obligations.DxeRequestsServed : Prop :=
  ∀ (s : State) (e : Fin 24) (k : Nat),
    let c := s.chip
    let x := engOf e.val c
    let period := rd (P.dxeTickPeriod e.val) c * 1000
    (dxeMode c = true → period ≠ 0 → c.tl.gt % period = 0 → x.periodAt < c.clk → x.tickSince = none →
      completes (.tickRequest e) s (fun d => engOf e.val d = { x with tickSince := some c.clk } ∧ sameBut [.dx] c d)) ∧
    (accepts e.val c = some k →
      completes (.serviceAccept e) s (fun d => (engOf e.val d).pc = 8 * (k + 1) ∧ (engOf e.val d).spc = x.pc ∧
        (engOf e.val d).sfl = (flagsOf x).code ∧ (engOf e.val d).handler = true ∧ (engOf e.val d).issueAt = c.clk + 2 ∧
        (engOf e.val d).queue = x.queue ∧ sameBut [.dx, .regs, .now, .out, .hostPba] c d))

/-- O11: a DXE fault stops its engine (R173): DXE_RUN is 0, FAULT_PC and FAULT_CODE say where and why, and in RUN a transition to HOLD
begins. A program that runs past address 4,095, a word that is no instruction, an instruction that meets faults, of which the lowest code
counts, and a window's sample that finds LEN 0 meet it. -/
def Obligations.DxeFaultStops : Prop :=
  ∀ (s : State) (e : Fin 24) (ch : Fin 12) (w : Window) (i : DxeInstr) (k : Nat),
    let c := s.chip
    let x := engOf e.val c
    let stops (code : Nat) (d : Chip) : Prop :=
      on (P.dxeDxeRun e.val) d = false ∧ rd (P.dxeFaultPc e.val) d = x.pc % 2 ^ 12 ∧ rd (P.dxeFaultCode e.val) d = code % 2 ^ (P.dxeFaultCode e.val).w ∧
        on (P.dxeDxeFault e.val) d = true ∧ (c.md.mode = .run → d.md.trans = some .hold ∧ d.md.fault = true)
    x.faultAt ≠ some c.clk → (c.md.mode = .run → c.md.fault = false) →
      (dxeReady e.val c = true → 4096 ≤ x.pc → completes (.dxeIllegalOp e) s (stops 0x0B)) ∧
      (dxeReady e.val c = true → x.pc < 4096 → decodeDxe (progWord e.val x.pc c) = none →
        completes (.dxeIllegalOp e) s (stops 0x01)) ∧
      (dxeDue e.val c = some i → (dxeFaults e.val i c).min? = some k → completes (dxeCommand e i) s (stops k)) ∧
      (dxeRuns e.val c = true → (c.tl.gt - 1) % 4 = 0 → rd (P.dxeCbLen e.val ch.val) c = 0 → w ∈ c.rin.windows →
        w.ch = 12 * e.val + ch.val → w.takes (c.tl.gt - 1) = true → completes (.integratorLenZero e ch) s (stops ((dueFaults e.val c).foldl min 0x07)))

/-- O12: time, flow and registers of a sequencer complete (R196, R199): WAITT moves the time cursor to T unless T lies before it; LOOP,
ENDL, CALL and RET keep their stacks; LDR, ADDR and GETC write their register. -/
def Obligations.SequencerFlowCompletes : Prop :=
  ∀ (s : State) (q : Fin 64) (f : BitVec 2) (r : BitVec 3) (v : BitVec 32) (a : BitVec 13) (m k : Nat) (ls : List (Nat × Nat))
      (as : List Nat),
    let c := s.chip
    let x := sqOf q.val c
    let sets (w : Word) : Sequencer := { x with s := Tab.put x.s r.toNat 0 w }
    let reg : Word := Tab.get x.s r.toNat 0
    let base := ((if f = 0 then x.lastShot.getD c.md.runGt else if f = 1 then c.md.runGt else reg.toNat) + v.toNat) % 2 ^ 64
    (sqIssues q.val 0x00 .nop c → completes (.nop q) s (sqMoves q.val (x.pc + 1) x c)) ∧
    (sqIssues q.val 0x10 (.waitt f r v) c → x.cursor ≤ base →
      completes (.waitt q) s (sqMoves q.val (x.pc + 1) { x with cursor := base } c)) ∧
    (sqIssues q.val 0x10 (.waitt f r v) c → base < x.cursor →
      completes (.waitt q) s (fun d => (sqOf q.val d).cursor = x.cursor ∧ (sqOf q.val d).pc = x.pc + 1 ∧
        on (P.sqWaittPast q.val) d = true ∧ counted (P.sqWaittPastCount q.val) 1 c d)) ∧
    (sqIssues q.val 0x13 (.loop a v) c → v.toNat ≠ 0 →
      completes (.loop q) s (sqMoves q.val (x.pc + 1) { x with loops := (v.toNat, x.pc + 1) :: x.loops } c)) ∧
    (sqIssues q.val 0x13 (.loop a v) c → v.toNat = 0 → completes (.loop q) s (sqMoves q.val (a.toNat + 1) x c)) ∧
    (sqIssues q.val 0x13 (.loopr r a) c → reg.toNat ≠ 0 →
      completes (.loop q) s (sqMoves q.val (x.pc + 1) { x with loops := (reg.toNat, x.pc + 1) :: x.loops } c)) ∧
    (sqIssues q.val 0x13 (.loopr r a) c → reg.toNat = 0 → completes (.loop q) s (sqMoves q.val (a.toNat + 1) x c)) ∧
    (sqIssues q.val 0x14 .endl c → x.loops = (m, k) :: ls → 1 < m →
      completes (.endl q) s (sqMoves q.val k { x with loops := (m - 1, k) :: ls } c)) ∧
    (sqIssues q.val 0x14 .endl c → x.loops = (m, k) :: ls → m ≤ 1 →
      completes (.endl q) s (sqMoves q.val (x.pc + 1) { x with loops := ls } c)) ∧
    (sqIssues q.val 0x15 (.call a) c →
      completes (.sqCall q) s (sqMoves q.val a.toNat { x with calls := (x.pc + 1) :: x.calls } c)) ∧
    (sqIssues q.val 0x16 .ret c → x.calls = k :: as → completes (.sqRet q) s (sqMoves q.val k { x with calls := as } c)) ∧
    (sqIssues q.val 0x18 (.ldr 0 r v) c → completes (.ldr q) s (sqMoves q.val (x.pc + 1) (sets (v.zeroExtend 64)) c)) ∧
    (sqIssues q.val 0x18 (.ldr 1 r v) c →
      completes (.ldr q) s (sqMoves q.val (x.pc + 1) (sets (v ++ reg.extractLsb' 0 32)) c)) ∧
    (sqIssues q.val 0x19 (.addr r v) c → completes (.addr q) s (sqMoves q.val (x.pc + 1) (sets (reg + v.signExtend 64)) c)) ∧
    (sqIssues q.val 0x1A (.getc r) c → completes (.getc q) s (sqMoves q.val (x.pc + 1) (sets (BitVec.ofNat 64 x.cursor)) c))

/-- O13: the instructions that post a slot complete (R183, R186, R187, R193–R196, R203): 17 ticks or more ahead, each slot enters the
table at the time cursor with its kind, its lane and its operands, laid out as 128 bits in its place of the slot table, the cursor advances
by ADV, and nothing but the sequencer and those 16 bytes changes. A late-bound PLAY or FRM takes its selector and its other operand from
the EXT after it. SHOT notes a checkpoint and the slot time; END stops issue. -/
def Obligations.SequencerPostsSlots : Prop :=
  ∀ (s : State) (q : Fin 64) (l : BitVec 4) (adv : BitVec 16) (v : BitVec 32) (n : BitVec 23) (fw : BitVec 48) (rep : BitVec 1)
      (pin : BitVec 3) (act : BitVec 2) (wid : BitVec 24) (p : BitVec 1) (d : BitVec 16) (j : BitVec 4),
    let c := s.chip
    let x := sqOf q.val c
    let ext := sqWord q.val (x.pc + 1) c
    let slot (kind lane : Nat) (r lb : Bool) (sel op1 op0 : Nat) : Slot :=
      { time := x.cursor, kind := kind, lane := lane, rep := r, lb := lb, sel := sel, op1 := op1, op0 := op0,
        shot := max 1 x.shotsPosted, posted := c.clk, boundary := x.lastShot.getD c.md.runGt }
    let word (y : Slot) : Nat := y.op0 + y.op1 * 2 ^ 32 + y.sel * 2 ^ 64 + (if y.lb then 2 ^ 83 else 0) + y.lane * 2 ^ 84 + y.kind * 2 ^ 88 +
      y.time % 2 ^ 32 * 2 ^ 96
    let later (a : Nat) : Nat := (x.cursor + a) % 2 ^ 64
    let posts (k : Nat) (y : Slot) (a : Nat) : Chip → Prop :=
      sqPosted q.val (x.pc + k) (word y) { x with slots := x.slots ++ [y], cursor := later a } c
    let plain (kind lane op1 op0 : Nat) : Slot := slot kind lane false false 0 op1 op0
    let shot : Slot := { plain 5 0 0 0 with shot := max 1 (x.shotsPosted + 1), boundary := x.cursor }
    let choice (kind : Nat) (r : Bool) : Slot := slot kind l.toNat r true (sqX ext).toNat (sqImm ext).toNat v.toNat
    c.tl.gt + 17 ≤ x.cursor →
      (sqIssues q.val 0x01 (.play 0 l adv v) c → completes (.play q) s (posts 1 (plain 1 l.toNat 0 v.toNat) adv.toNat)) ∧
      (sqIssues q.val 0x01 (.play 1 l adv v) c → completes (.play q) s (posts 2 (choice 1 false) adv.toNat)) ∧
      (sqIssues q.val 0x02 (.acq l adv n) c → completes (.acq q) s (posts 1 (plain 2 l.toNat 0 n.toNat) adv.toNat)) ∧
      (sqIssues q.val 0x03 (.frm 0 rep l adv v) c →
        completes (.frm q) s (posts 1 (slot 3 l.toNat (rep == 1) false 0 0 v.toNat) adv.toNat)) ∧
      (sqIssues q.val 0x03 (.frm 1 rep l adv v) c → completes (.frm q) s (posts 2 (choice 3 (rep == 1)) adv.toNat)) ∧
      (sqIssues q.val 0x04 (.setf l fw) c →
        completes (.setf q) s (posts 1 (plain 4 l.toNat (fw.extractLsb' 32 16).toNat (fw.extractLsb' 0 32).toNat) 0)) ∧
      (sqIssues q.val 0x05 (.shot adv) c →
        completes (.shot q) s (sqPosted q.val (x.pc + 1) (word shot)
          { x with slots := x.slots ++ [shot], cursor := later adv.toNat, shotsPosted := x.shotsPosted + 1, lastShot := some x.cursor,
                   checks := x.checks ++ [some { pc := x.pc, loops := x.loops, calls := x.calls, s := x.s }] } c)) ∧
      (sqIssues q.val 0x06 (.mark adv pin act wid) c →
        completes (.mark q) s (posts 1 (plain 6 0 0 (pin.toNat + 16 * act.toNat + 256 * wid.toNat)) adv.toNat)) ∧
      (sqIssues q.val 0x07 (.post adv p) c → completes (.post q) s (posts 1 (plain 7 0 0 p.toNat) adv.toNat)) ∧
      (sqIssues q.val 0x08 (.txc adv d) c → completes (.txc q) s (posts 1 (plain 8 0 0 d.toNat) adv.toNat)) ∧
      (sqIssues q.val 0x09 (.calw adv j) c → completes (.calw q) s (posts 1 (plain 9 0 0 j.toNat) adv.toNat)) ∧
      (sqIssues q.val 0x0A .stop c →
        completes (.endProg q) s (sqPosted q.val (x.pc + 1) (word (plain 10 0 0 0))
          { x with slots := x.slots ++ [plain 10 0 0 0], checks := x.checks ++ [none], issuing := false, cursor := later 0 } c))

/-- O14: waiting on outcomes completes (R193, R197–R199, R229): a WAITO or BRO whose value is fresh goes on at once, the cursor not
below the GT before this tick plus WAITO_GAP, a BRO to its target where its test or its table entry says so; one whose value is not ready
stalls, and a stale one goes on where STALE_POLICY lets it; a stalled one resumes in the tick after its value became visible, or after
WAITO_LIMIT ticks without it. -/
def Obligations.SequencerWaitsComplete : Prop :=
  ∀ (s : State) (q : Fin 64) (sel : BitVec 16) (f : BitVec 2) (a : BitVec 13) (val : BitVec 2) (v : Sel) (i t : Nat) (w : SqInstr),
    let c := s.chip
    let x := sqOf q.val c
    let gap := rd (P.sqWaitoGap q.val) c
    let lim := rd (P.sqWaitoLimit q.val) c
    let goes (bound pc ticks : Nat) (d : Chip) : Prop :=
      (sqOf q.val d).pc = pc ∧ (sqOf q.val d).first = c.clk + ticks ∧ (sqOf q.val d).waiting = none ∧
        (sqOf q.val d).cursor = max x.cursor (bound + gap) % 2 ^ 64 ∧ (sqOf q.val d).issuing = x.issuing
    let waits (d : Chip) : Prop := sqOf q.val d = { x with waiting := some c.clk, stall := 4 } ∧ sameBut [.sqs] c d
    let target : Option Nat :=
      if f = 0 then (if v.value = val.toNat then some a.toNat else none)
      else if f = 1 then (if v.value ≠ val.toNat then some a.toNat else none)
      else match v.entry with
        | some e => if bitAt e 13 then some (bits e 0 13) else none
        | none => if v.alt then some a.toNat else none
    let stale (d : Chip) : Prop := on (P.osqBroStale q.val) d = true ∧ (x.staleSeen = false → counted (P.osqBroStaleCount q.val) 1 c d)
    let asks : Prop := sqIssues q.val 0x11 (.waito sel) c
    let branches : Prop := sqIssues q.val 0x12 (.bro f a sel val) c
    (x.sampled = some v →
      (v.ready = .fresh →
        (asks → completes (.waito q) s (fun d => goes (c.tl.gt - 1) (x.pc + 1) 1 d ∧ sameBut [.sqs] c d)) ∧
        (branches → target = some t → completes (.bro q) s (fun d => goes (c.tl.gt - 1) t 4 d ∧ sameBut [.sqs] c d)) ∧
        (branches → target = none → completes (.bro q) s (fun d => goes (c.tl.gt - 1) (x.pc + 1) 2 d ∧ sameBut [.sqs] c d))) ∧
      (v.ready = .notReady → (asks → completes (.waito q) s waits) ∧ (branches → completes (.bro q) s waits)) ∧
      (v.ready = .stale → x.staleSeen = false → rd (P.osqStalePolicy q.val) c ≠ 0 →
        (asks → completes (.waito q) s (fun d => goes c.tl.gt (x.pc + 1) 2 d ∧ stale d)) ∧
        (branches → completes (.bro q) s (fun d => goes c.tl.gt (x.pc + 1) 3 d ∧ stale d)))) ∧
    (waitingOn q.val c = some (w, i, v) → inTrap q.val c = false → (microOf q.val c).stopped = false →
      (i < c.clk → v.ready = .fresh → (seenBy q.val i c).2 = true →
        completes (.waitoResume q) s (fun d => goes (x.seen.getD (c.tl.gt - 1)) ((broTarget w v).getD (x.pc + 1))
          (waitTicks w (broTarget w v).isSome) d ∧ sameBut [.sqs] c d)) ∧
      (lim ≠ 0 → i + lim < c.clk → (v.ready = .fresh → (seenBy q.val i c).2 = false) →
        completes (.waitoTimeout q) s (fun d => goes (c.tl.gt - (c.clk - i) + lim) (x.pc + 1) (waitTicks w false) d ∧
          on (P.sqWaitoTimeout q.val) d = true ∧ counted (P.sqWaitoTimeoutCount q.val) 1 c d ∧
          Tab.get (sqOf q.val d).flags (max 1 x.shotsPosted) 0 =
            Tab.get x.flags (max 1 x.shotsPosted) 0 ||| 2 ^ Sf.waitoTimeout)))

/-- O15: late slots and faults (R187, R188, R199, R211, R248): a slot posted with less than 17 ticks left is LATE: the flag, the count, its
time and lane, and its shot, and it does not enter the table. An instruction that meets faults raises the one of the lowest code, as does a
sequencer whose program counter has left its program; in the next tick the sequencer stops with SQ_FAULT, PC and code, and in RUN a
transition to HOLD begins, in READY the pending RUN is cancelled. That the first tick's microword raises it is the model's choice (log). -/
def Obligations.SequencerLateAndFaults : Prop :=
  ∀ (s : State) (q : Fin 64) (l : BitVec 4) (adv : BitVec 16) (v : BitVec 32) (op k code t : Nat) (ks : List Nat),
    let c := s.chip
    let x := sqOf q.val c
    let raises (n : Nat) (d : Chip) : Prop := sqOf q.val d = { x with faulting := some (c.clk + 1, n) } ∧ sameBut [.sqs] c d
    let stops (d : Chip) : Prop :=
      (sqOf q.val d).issuing = false ∧ on (P.sqSqFault q.val) d = true ∧ rd (P.sqFaultPc q.val) d = x.pc % 2 ^ (P.sqFaultPc q.val).w ∧
        rd (P.sqFaultCode q.val) d = code % 2 ^ (P.sqFaultCode q.val).w ∧
        (c.md.mode = .run → c.md.fault = false → d.md.trans = some .hold ∧ d.md.fault = true) ∧
        (c.md.mode = .ready → c.md.trans = some .run → d.md.trans = none)
    let free : Prop := x.issuing = true ∧ x.first ≤ c.clk ∧ (microOf q.val c).stopped = false ∧ inTrap q.val c = false
    (sqIssues q.val 0x01 (.play 0 l adv v) c → x.cursor < c.tl.gt + 17 →
      completes (.play q) s (fun d => (sqOf q.val d).slots = x.slots ∧ (sqOf q.val d).cursor = (x.cursor + adv.toNat) % 2 ^ 64 ∧
        on (P.sqLate q.val) d = true ∧ counted (P.sqLateCount q.val) 1 c d ∧
        rd (P.sqLastLateGt q.val) d = x.cursor % 2 ^ (P.sqLastLateGt q.val).w ∧
        rd (P.sqLastLateLane q.val) d = l.toNat % 2 ^ (P.sqLastLateLane q.val).w ∧
        Tab.get (sqOf q.val d).flags (max 1 x.shotsPosted) 0 = Tab.get x.flags (max 1 x.shotsPosted) 0 ||| 2 ^ Sf.late)) ∧
    (patched c = false → x.faulting = none →
      (sqBegun q.val op c = true → sqFaults q.val c = k :: ks → completes (sqCommand q op) s (raises (ks.foldl min k))) ∧
      (free → 8192 ≤ x.pc → completes (.sqIllegalOp q) s (raises 0x09))) ∧
    (x.faulting = some (t, code) → t ≤ c.clk →
      (sqBegun q.val op c = true → completes (sqCommand q op) s stops) ∧
      (free → 8192 ≤ x.pc → completes (.sqIllegalOp q) s stops))

/-- O16: a commit point latches (R182, R185, R187): a slot 16 ticks ahead leaves its table; one of a pin waits for its time with its
operand and binding, and a PLAY of a VALID shelf on a lane idle at the slot's time is latched to start then, its shelf ACTIVE (R74,
R77). -/
def Obligations.SlotsCommit : Prop :=
  ∀ (s : State) (q : Fin 64) (sl : Slot) (tt : Target),
    let c := s.chip
    let x := sqOf q.val c
    let shelf := sl.op0 % 2 ^ 13
    let rest := x.slots.filter (fun y => y.time != c.tl.gt + 16)
    let ln := laneOf tt c
    x.slots.filter (fun y => y.time == c.tl.gt + 16) = [sl] → sl.lb = false →
      (sl.kind = 6 →
        completes (.slotCommit q) s (fun t => (sqOf q.val t).slots = rest ∧ (sqOf q.val t).latched =
          x.latched ++ [{ slot := sl, op := sl.op0, bind := bindOf q.val sl.lane c, lateOnly := false, at_ := sl.time }] ∧
          sameBut [.sqs] c t)) ∧
      (sl.kind = 1 → bitAt sl.op0 13 = false → (bindOf q.val sl.lane c).tone = some tt → mayLatch tt shelf sl.time c →
        (∀ y ∈ ln.plays, y.start < sl.time ∧ y.stop ≤ sl.time) →
        completes (.slotCommit q) s (fun t => (sqOf q.val t).slots = rest ∧ rd (P.shelfState shelf) t = shelfActive ∧
          (laneOf tt t).plays = ln.plays ++ [playOf shelf sl.time (some (sgn 16 (bits sl.op0 16 16))) .play c]))

/-- O17: latched slots act at their times (R68, R70, R98, R122, R124, R200): SETF changes the word of its tone, and of its channel,
phase-continuously, FRM adds to or replaces the tone's frame, either is only counted on a flux port, ACQ opens a window of its length,
MARK drives its pin, and a pin's pulse ends. -/
def Obligations.SlotsAct : Prop :=
  ∀ (s : State) (q : Fin 64) (l : Latched) (tt : Target) (p : Fin 24) (ch : Fin 288) (pin : Fin 8),
    let c := s.chip
    let x := sqOf q.val c
    let tone := toneOf tt c
    let osc := oscOf ch.val c
    let fw := l.slot.op0 + l.slot.op1 % 2 ^ 16 * 2 ^ 32
    let due (kind : Nat) : Prop := actNow q.val kind c = [l]
    let popped (kind : Nat) (d : Chip) : Prop :=
      (sqOf q.val d).latched = x.latched.filter (fun y => !(y.slot.kind == kind && y.at_ == c.tl.gt))
    let live := (openOn ch.val c).filter (fun w => decide (c.tl.gt < w.stop))
    let code := bits l.op 4 2
    let old := Tab.get c.sqs.markHigh pin.val false
    let level : Bool := if code = 0 then false else if code = 3 then !old else true
    (due 4 → l.bind.tone = some tt → isFlx tt = false → bandOk (rd (P.portBand (tgtPort tt).1 (tgtPort tt).2) c) fw = true →
      completes (.frequencyChange q) s (fun d => popped 4 d ∧
        toneOf tt d = { fw := fw, acc := (tone.acc + 24 * tone.fw * (c.clk - tone.at_)) % 2 ^ 48, at_ := c.clk, frame := tone.frame,
                        past := pastOf tone.fw tone.acc tone.at_ c.clk tone.past })) ∧
    (due 4 → l.bind.tone = none → l.bind.chan = some ch.val → pairOf ch.val c = none → rxLegal fw = true →
      completes (.frequencyChange q) s (fun d => popped 4 d ∧
        oscOf ch.val d = { fw := fw, acc := (osc.acc + 24 * osc.fw * (c.clk - osc.at_)) % 2 ^ 48, at_ := c.clk,
                           past := pastOf osc.fw osc.acc osc.at_ c.clk osc.past } ∧ sameBut [.sqs, .rin] c d)) ∧
    (due 3 → l.bind.tone = some tt → isFlx tt = false →
      completes (.frameUpdate q) s (fun d => popped 3 d ∧
        toneOf tt d = { tone with frame := if l.slot.rep then l.op % 2 ^ 32 else (tone.frame + l.op) % 2 ^ 32 })) ∧
    (l.bind.tone = some (.flx p) → l.bind.chan = none →
      (due 4 → completes (.frequencyChange q) s (fun d => popped 4 d ∧ on (P.flxToneless p.val) d = true ∧
        counted (P.flxTonelessCount p.val) 1 c d ∧ d.syn = c.syn)) ∧
      (due 3 → completes (.frameUpdate q) s (fun d => popped 3 d ∧ on (P.flxToneless p.val) d = true ∧
        counted (P.flxTonelessCount p.val) 1 c d ∧ d.syn = c.syn))) ∧
    (due 2 → l.bind.chan = some ch.val → live.length < 2 →
      completes (.windowOpen q) s (fun d => popped 2 d ∧ ∃ w ∈ d.rin.windows, w.ch = ch.val ∧
        w.w = (if live.any (fun y => y.w == 0) then 1 else 0) ∧ w.start = c.tl.gt ∧ w.stop = c.tl.gt + l.op % 2 ^ 23 ∧ w.sq = q.val ∧
        w.shot = l.slot.shot ∧ w.accI = 0 ∧ w.accQ = 0 ∧ w.due = none)) ∧
    (due 2 → l.bind.chan = some ch.val → 2 ≤ live.length →
      completes (.windowOpen q) s (fun d => popped 2 d ∧ d.rin = c.rin ∧ on (P.rinAcqOver (ch.val / 24)) d = true ∧
        counted (P.rinAcqOverCount (ch.val / 24)) 1 c d)) ∧
    (due 6 → l.op % 8 = pin.val → rd (P.sqMarkOwner pin.val) c = q.val → markSrcNow pin.val c = false →
      completes (.markAction q) s (fun d => popped 6 d ∧ Tab.get d.sqs.markHigh pin.val false = level ∧
        Tab.find d.sqs.markEnd pin.val = (if code = 2 then some (c.tl.gt + bits l.op 8 24) else none) ∧
        (level ≠ old → d.out = c.out ++ [.mark pin.val level (markTime c.tl.gt c)] ∧
          d.pn.markDue = c.pn.markDue ++ [(c.clk + 60, pin.val, level)]) ∧
        (level = old → d.out = c.out ∧ d.pn = c.pn) ∧ sameBut [.sqs, .pn, .out] c d)) ∧
    (Tab.find c.sqs.markEnd pin.val = some c.tl.gt → old = true →
      completes (.markPulseEnd pin) s (fun d => Tab.get d.sqs.markHigh pin.val false = false ∧ Tab.find d.sqs.markEnd pin.val = none ∧
        d.out = c.out ++ [.mark pin.val false (markTime c.tl.gt c)] ∧ d.pn.markDue = c.pn.markDue ++ [(c.clk + 60, pin.val, false)]))

/-- O18: a POST slot raises its sequencer's producer (R201, R317, R322): an enabled channel whose row selects it and whose gate admits
it sends one event, which arrives RESYNC + 1 ticks later. -/
def Obligations.PostRaisesItsProducer : Prop :=
  ∀ (s : State) (q : Fin 64) (l : Latched) (ch : Fin 128),
    let c := s.chip
    let p := 2 * q.val + l.op % 2
    let k (n : Nat) : Nat := (chanCfg ch.val c).getD n 0
    actNow q.val 7 c = [l] → (c.md.mode = .run ∨ c.md.mode = .hold) → k 0 = 1 → k 4 ≠ 0x7F →
      bitAt (k (6 + p / 64)) (p % 64) = true → bitAt c.now.gates (k 3) ≠ (k 2 == 1) →
      (∀ f ∈ c.ev.flights, ¬(f.ch = ch.val ∧ f.raised = c.clk)) →
      completes (.postRaise q) s (fun d =>
        (sqOf q.val d).latched = (sqOf q.val c).latched.filter (fun y => !(y.slot.kind == 7 && y.at_ == c.tl.gt)) ∧
        { ch := ch.val, cons := k 4, watch := k 5 == 1, raised := c.clk, arrive := c.clk + 1 + k 1 } ∈ d.ev.flights)

/-- O19: shot boundaries complete (R203, R205, R209): a SHOT slot closes the shot in progress, stepping SHOT_COUNT and showing its flags,
its own shot is in progress and BOUNDARY_GT is its tick; an END slot ends the sequencer, with SQ_DONE set. A boundary at which a
commanded HOLD or READY takes effect is the other case (R207). -/
def Obligations.ShotBoundariesExecute : Prop :=
  ∀ (s : State) (q : Fin 64) (l : Latched) (k : Nat),
    let c := s.chip
    let x := sqOf q.val c
    let closed (d : Chip) : Prop := x.progress = some k → isPacer q.val c = false →
      rd (P.sqShotCount q.val) d = (rd (P.sqShotCount q.val) c + 1) % 2 ^ (P.sqShotCount q.val).w ∧
      rd (P.sqShotFlagsLast q.val) d = Tab.get x.flags k 0 % 2 ^ (P.sqShotFlagsLast q.val).w
    boundaryMode q.val c = none →
      (actNow q.val 5 c = [l] →
        completes (.shotBoundary q) s (fun d => (sqOf q.val d).progress = some l.slot.shot ∧ (sqOf q.val d).latched = x.latched.erase l ∧
          (sqOf q.val d).opening = false ∧ (sqOf q.val d).checks = x.checks.drop 1 ∧
          rd (P.sqBoundaryGt q.val) d = c.tl.gt % 2 ^ (P.sqBoundaryGt q.val).w ∧ closed d)) ∧
      (actNow q.val 10 c = [l] →
        completes (.endBoundary q) s (fun d => (sqOf q.val d).progress = none ∧ (sqOf q.val d).latched = x.latched.erase l ∧
          (sqOf q.val d).issuing = false ∧ (sqOf q.val d).checks = x.checks.drop 1 ∧ on (P.sqSqDone q.val) d = true ∧ closed d))

/-- O20: shelves start, chain, jump and are released, on every tone and every flux port (R72, R74, R77, R78, R82–R84, R135): the successor
of the shelf that ends 16 ticks from now is latched for its end; a jump is latched 16 ticks before its boundary in place of every PLAY
latched for it before the request, gives way to a later one, and a STOP ends the chain; a shelf's first sample enters the pipeline
unless a taken window covers the port, a missed start is told by its underrun flag, and a refused one passes in silence; and a shelf
that no lane holds any more is free 16 ticks after its last play. -/
def Obligations.ShelvesPlay : Prop :=
  ∀ (s : State) (t : Target) (y : Play) (n sh : Fin 8192) (o : Option Nat) (req key : Nat) (owner : Lane),
    let c := s.chip
    let ln := laneOf t c
    let b := c.tl.gt + 16
    let rival (p : Play) : Bool := p.start == b && p.kind == .play
    let kept := ln.plays.filter (fun p => !rival p)
    let port := tgtPort t
    let started (p : Play) : Lane :=
      { ln with plays := ln.plays.map (fun r => if r = p then { p with begun := true } else r), amp := p.amp.getD ln.amp }
    (lastPlay ln = some y → y.stop = b → y.next = some n.val → jumpDue t c = false → mayLatch t n.val b c →
      completes (.chainLatch t) s (fun u => (laneOf t u).plays = ln.plays ++ [playOf n.val b none .chain c] ∧
        rd (P.shelfState n.val) u = shelfActive)) ∧
    (lastPlay ln = some y → y.stop = b → y.next = some n.val → jumpDue t c = false → (shelfAt n.val c).getD 6 0 < shelfValid →
      completes (.chainLatch t) s (fun u => (laneOf t u).plays =
        ln.plays ++ [{ playOf n.val b none .chain c with silent := true, underrun := true }])) ∧
    (ln.jump = some { shelf := some n.val, boundary := b, req := req } → (∀ p ∈ ln.plays, rival p = true → p.latched < req ∧ p.shelf < 8192) →
      mayLatch t n.val b (setLane t { ln with plays := kept } c) →
      completes (.jumpLatch t) s (fun u => (laneOf t u).plays = kept ++ [playOf n.val b none .jump c] ∧ (laneOf t u).jump = none ∧
        rd (P.shelfState n.val) u = shelfActive)) ∧
    (ln.jump = some { shelf := none, boundary := b, req := req } → (∀ p ∈ ln.plays, rival p = true → p.latched < req ∧ p.shelf < 8192) →
      completes (.jumpLatch t) s (fun u => (laneOf t u).jump = none ∧
        (laneOf t u).plays = kept.map (fun p => if p.stop == b then { p with next := none } else p))) ∧
    (ln.jump = some { shelf := o, boundary := b, req := req } → y ∈ ln.plays → rival y = true → req ≤ y.latched →
      completes (.jumpLatch t) s (fun u => laneOf t u = { ln with jump := none } ∧ sameBut [.syn] c u)) ∧
    (startDue ln c.tl.gt = some y → y.silent = false →
      completes (.shelfStart t) s (fun u => laneOf t u = started y ∧
        u.syn.pipe = (if gapped port.1 port.2 c.tl.gt c then c.syn.pipe else c.syn.pipe ++
          [{ due := c.clk + 60 + rd (portDelay port.1 port.2) c, t := t, shelf := y.shelf, gt := c.tl.gt,
             at256 := pinTime port.1 port.2 c.tl.gt c }]) ∧
        (c.rin.gaps = [] → sameBut [.syn] c u))) ∧
    (startDue ln c.tl.gt = some y → y.silent = true →
      completes (.shelfStart t) s (fun u => laneOf t u = started y ∧ u.syn.pipe = c.syn.pipe ∧
        (y.underrun = true → isFlx t = true → on (P.flxUnderrun port.2) u = true ∧ counted (P.flxUnderrunCount port.2) 1 c u ∧
          rd (P.flxLastUnderrunShelf port.2) u = y.shelf % 2 ^ (P.flxLastUnderrunShelf port.2).w) ∧
        (y.underrun = true → isFlx t = false → on (P.portUnderrun port.1 port.2) u = true ∧
          counted (P.portUnderrunCount port.1 port.2) 1 c u ∧
          rd (P.portLastUnderrunShelf port.1 port.2) u = y.shelf % 2 ^ (P.portLastUnderrunShelf port.1 port.2).w) ∧
        (y.underrun = false → sameBut [.syn] c u))) ∧
    (rd (P.shelfState sh.val) c = shelfActive → shelfRefs sh.val c = 0 → (key, owner) ∈ c.syn.lanes → y ∈ owner.plays →
      y.holds sh.val = true → y.stop + 16 = c.tl.gt →
      completes (.shelfRelease sh) s (fun u => rd (P.shelfState sh.val) u =
        (if on (P.shelfStream sh.val) c then shelfFilling else shelfValid) ∧ sameBut [.regs] c u ∧
        fieldsBut [P.shelfState sh.val] c u))

/-- O21: the bias strings complete (R104, R105): a code that is due enters its string, and a span switch ends with the pending code and
span. -/
def Obligations.BiasStringsUpdate : Prop :=
  ∀ (s : State) (o : Fin 32) (code : Nat),
    let c := s.chip
    let x := biasOf o.val c
    let span := rd (P.biaSpanNow o.val) c
    (x.updates.filter (fun u => u.1 == c.clk) = [(c.clk, code)] →
      completes (.biaStringUpdate o) s (fun d => rd (P.biaCodeNow o.val) d = code % 2 ^ (P.biaCodeNow o.val).w ∧
        biasOf o.val d = { x with updates := x.updates.filter (fun u => u.1 != c.clk) } ∧
        d.out = c.out ++ [.bias o.val code span (biasVoltage span code) c.tl.gt] ∧ fieldsBut [P.biaCodeNow o.val] c d)) ∧
    (x.switchAt = some c.clk →
      completes (.spanSwitch o) s (fun d => rd (P.biaCodeNow o.val) d = x.pendCode % 2 ^ (P.biaCodeNow o.val).w ∧
        rd (P.biaSpanNow o.val) d = x.pendSpan % 2 ^ (P.biaSpanNow o.val).w ∧ rd (P.biaSpanBusy o.val) d = 0 ∧
        biasOf o.val d = { x with switchAt := none } ∧ counted (P.biaSpanChangeCount o.val) 1 c d ∧
        d.out = c.out ++ [.bias o.val x.pendCode x.pendSpan (biasVoltage x.pendSpan x.pendCode) c.tl.gt]))

/-- O22: scheduled commits complete (R19, R53, R201, R382, R383, R387, R388): the drawer's writes come into force, in HOLD they are held, with
the audit entry counted, and the drawer is empty; a TXC slot does the same at its time; a group's mode changes at its tick, unless a
drawer holds a write to it. The write here is one of a flux offset; an action that no longer keeps its time changes nothing. -/
def Obligations.ScheduledCommitsApply : Prop :=
  ∀ (s : State) (i : Fin 24) (v dr n id : Nat) (b : Bool) (g : GroupKind × Nat) (e : Sched) (q : Fin 64) (l : Latched),
    let c := s.chip
    let f := P.flxFlxOffset i.val
    let full : Drawer := { owner := n, entries := [{ id := f.id, value := v, mask := 2 ^ 16 - 1 }] }
    let audits (d : Chip) : Prop := rd P.sysAuditTotal d = (rd P.sysAuditTotal c + 1) % 2 ^ P.sysAuditTotal.w
    let emptied (d : Chip) : Prop := Tab.find d.mb.drawers dr = some { owner := n, entries := [] } ∧ d.md = c.md
    let applied (d : Chip) : Prop := rd f d = v % 2 ^ 16 ∧ emptied d ∧ audits d
    let heldBack (txc : Bool) (d : Chip) : Prop := rd f d = rd f c ∧ emptied d ∧ d.mb.held = c.mb.held ++
      [{ id := f.id, value := v, mask := 2 ^ 16 - 1, who := (Origin.session n).bits, commit := true, txc := txc }]
    let drawerDue : Prop := schedDue isDrawerAct c = some e ∧ e.act = .drawer dr ∧ Tab.find c.mb.drawers dr = some full
    let slotDue : Prop := actNow q.val 0x08 c = [l] ∧ l.op % 2 ^ 16 = dr ∧ Tab.find c.mb.drawers dr = some full
    let groupDue : Prop := schedDue isGroupAct c = some e ∧ e.act = .group id b ∧ groupOfId id = some g ∧ schedKeeps e c = true
    (modeAdmitsSh c = true → drawerDue → schedKeeps e c = true → completes .drawerCommit s (fun d =>
      (c.md.mode ≠ .hold → applied d) ∧ (c.md.mode = .hold → heldBack false d) ∧ d.tl = (schedPop isDrawerAct c).tl)) ∧
    (drawerDue → schedKeeps e c = false → completes .drawerCommit s (fun d =>
      d.mb.drawers = c.mb.drawers ∧ (∀ f : Field, rd f d = rd f c) ∧ d.tl = (schedPop isDrawerAct c).tl)) ∧
    (modeAdmitsSh c = true → slotDue → completes (.txcCommit q) s (fun d =>
      (c.md.mode ≠ .hold → applied d) ∧ (c.md.mode = .hold → heldBack true d) ∧ (sqOf q.val d).latched = (sqOf q.val (popNow q.val 0x08 c)).latched)) ∧
    (groupDue → (b = false ∨ drawerHolds g c = false) → completes .groupModeChange s (fun d =>
      inAdapt id d = b ∧ audits d ∧ d.tl = (schedPop isGroupAct c).tl)) ∧
    (groupDue → b = true → drawerHolds g c = true → completes .groupModeChange s (fun d =>
      d.mb.adapt = c.mb.adapt ∧ d.tl = (schedPop isGroupAct c).tl))

/-- O23: windows and results complete (R132, R145–R149): a window that ends frees its slot, its entry falls due six ticks after its last frame
tick, and CAL_SPLIT tells of one that held a mixed stretch; a due entry holds its accumulators shifted by RSHIFT and saturated to 32
bits, and joins its engine's queue, or is lost to a full one. -/
def Obligations.WindowsGiveResults : Prop :=
  ∀ (s : State) (e : Fin 24) (k : Fin 12) (j : Fin 2) (w : Window),
    let c := s.chip
    let x := engOf e.val c
    let sh := rd (P.dxeRshift e.val k.val) c
    let i := satS 32 (w.accI / (2 ^ sh : Nat))
    let q := satS 32 (w.accQ / (2 ^ sh : Nat))
    let r := (12 * e.val + k.val) / 24
    w ∈ c.rin.windows → w.ch = 12 * e.val + k.val → w.w = j.val →
      (w.due = none → w.stop = c.tl.gt →
        (∀ y ∈ c.rin.windows, y.ch = w.ch → y.w = w.w → y.due = none → y.stop = c.tl.gt → y = w) →
        completes (.windowEnd e k j) s (fun d =>
          d.rin.windows = c.rin.windows.map (fun y => if y = w then { w with due := some ((w.stop - 1) / 4 * 4 + 6) } else y) ∧
          (w.split = true → on (P.rinCalSplit r) d = true ∧ counted (P.rinCalSplitCount r) 1 c d) ∧
          (w.split = false → sameBut [.rin] c d))) ∧
      (dueResults e.val c = [w] → x.queue.length < 32 →
        completes (.resultEntry e) s (fun d => d.rin.windows = c.rin.windows.filter (fun y => y != w) ∧
          (engOf e.val d).queue = x.queue ++
            [{ c := k.val, w := j.val, i := i, q := q, aborted := w.aborted, kchg := w.kchg, split := w.split, conv := w.conv,
               sat := decide (i ≠ w.accI / (2 ^ sh : Nat) ∨ q ≠ w.accQ / (2 ^ sh : Nat)), endGt := w.stop, sq := w.sq,
               entered := c.clk }])) ∧
      (dueResults e.val c = [w] → 32 ≤ x.queue.length →
        completes (.resultEntry e) s (fun d => d.rin.windows = c.rin.windows.filter (fun y => y != w) ∧ engOf e.val d = x ∧
          on (P.dxeResqOver e.val) d = true ∧ counted (P.dxeResqOverCount e.val) 1 c d))

/-- O24: the read-out correction completes (R127–R131): a block that ends with its level under EST_MIN or with an overrange code is rejected
and counted, one without skew too after it has updated offset and gain, and any other counts toward convergence; a due switch puts the
latest complete estimate into force and notes its GT. A block with a sample in a throttle pause is discarded (R433). -/
def Obligations.ReadoutCorrects : Prop :=
  ∀ (s : State) (r : Fin 12) (b : EstBlock) (over_ : Bool) (e : Sched) (es : List (Int × Int × Int)) (j : Fin 8) (set : Int × Int × Int),
    let c := s.chip
    let x := estOf r.val c
    let hist := (b.est.map (fun k => (k.1, k.2.1)) :: x.hist).take 4096
    let mine (k : Sched) : Bool := k.act == .calSwitch r.val && k.gt == c.tl.gt
    let rejected : Bool := decide (b.rms < rd (P.rinEstMin r.val) c) || over_
    (x.ended = some over_ →
      (blockPaused r.val c = true → completes (.estimatorBlock r b) s (fun d => estOf r.val d = { x with ended := none } ∧ sameBut [.rin] c d)) ∧
      (blockPaused r.val c = false → rejected = true →
        completes (.estimatorBlock r b) s (fun d => counted (P.rinEstReject r.val) 1 c d ∧ estOf r.val d = { x with ended := none } ∧
          sameBut [.rin, .regs, .now] c d)) ∧
      (blockPaused r.val c = false → rejected = false → b.skewBlind = true →
        completes (.estimatorBlock r b) s (fun d => counted (P.rinEstReject r.val) 1 c d ∧ on (P.rinSkewBlind r.val) d = true ∧
          (estOf r.val d).hist = hist ∧ (estOf r.val d).skews = x.skews)) ∧
      (blockPaused r.val c = false → rejected = false → b.skewBlind = false →
        completes (.estimatorBlock r b) s (fun d => counted (P.rinEstBlocks r.val) 1 c d ∧ (estOf r.val d).hist = hist ∧
          (estOf r.val d).skews = (b.est.map (·.2.2) :: x.skews).take 4096 ∧
          rd (P.rinConvSamples r.val) d = min 1048576 (rd (P.rinConvSamples r.val) c + 4096)))) ∧
    (c.tl.sched.filter mine = [e] → schedKeeps e c = true → sampling c = true →
      x.lastAt ≠ some c.clk → x.prior = some es → es[j.val]? = some set →
      completes (.calSwitch r) s (fun d => rd (P.rinAppSet r.val j.val) d = setWord set ∧
        rd (P.rinLastSwitchGt r.val) d = c.tl.gt % 2 ^ (P.rinLastSwitchGt r.val).w ∧ d.tl.sched = c.tl.sched.filter (fun k => !mine k)))

/-- O25: calibration windows complete (R133, R134, R136, R137): a taken gap that begins is counted, and so is one that CALIBRATE opens
itself; one that ends advances its port's pass unless it was spoiled, and the sixteenth ends the pass: passed, its set is in use; failed,
DCAL_BAD is set. -/
def Obligations.CalibrationWindowsComplete : Prop :=
  ∀ (s : State) (p : Port) (g : Gap) (pass : Bool),
    let c := s.chip
    let k := portOp p
    let begins (d : Chip) : Prop := counted P.calWindowsTaken 1 c d ∧ fieldsBut [P.calWindowsTaken, dcalDone k] c d ∧
      rd (dcalDone k) d = (if rd (dcalDone k) c = 16 then 0 else rd (dcalDone k) c)
    let ends (y : Gap) : Prop := y.port = k ∧ y.taken = true ∧ y.start + 2048 = c.tl.gt
    let gone (d : Chip) : Prop := d.rin.gaps = c.rin.gaps.filter (fun y => y != g)
    (g ∈ c.rin.gaps → g.port = k → g.taken = true → g.start = c.tl.gt →
      completes (.calwGap p) s (fun d => begins d ∧ d.rin = c.rin)) ∧
    (c.md.mode = .calibrate → c.md.trans = none → k ∈ c.rin.calTodo.take 4 → rd W.thrLevel c ≠ 4 → c.pw.forcedZero = false →
      (∀ y ∈ c.rin.gaps, y.port = k → y.start + 2048 ≤ c.tl.gt) →
      completes (.calwGap p) s (fun d => begins d ∧ d.rin =
        { c.rin with gaps := c.rin.gaps ++ [{ port := k, start := c.tl.gt, taken := true, sq := none, spoiled := false }] })) ∧
    (g ∈ c.rin.gaps → ends g → (∀ y ∈ c.rin.gaps, ends y → y = g) →
      (g.spoiled = true → completes (.calwWindowEnd p pass) s (fun d => gone d ∧ sameBut [.rin] c d)) ∧
      (g.spoiled = false → rd (dcalDone k) c < 15 →
        completes (.calwWindowEnd p pass) s (fun d => gone d ∧ rd (dcalDone k) d = rd (dcalDone k) c + 1 ∧ fieldsBut [dcalDone k] c d)) ∧
      (g.spoiled = false → rd (dcalDone k) c = 15 → pass = true →
        completes (.calwWindowEnd p pass) s (fun d => gone d ∧ rd (dcalDone k) d = 16 ∧ rd (P.calpDcalSrc (calInst k)) d = 1 ∧
          Tab.find d.rin.passAt k = some c.clk)) ∧
      (g.spoiled = false → rd (dcalDone k) c = 15 → pass = false →
        completes (.calwWindowEnd p pass) s (fun d => gone d ∧ rd (dcalDone k) d = 0 ∧ on (P.calpDcalBad (calInst k)) d = true ∧
          (c.md.mode = .calibrate → on W.calFailed d = true) ∧ d.rin.passAt = c.rin.passAt)))

/-- O26: outcomes and decisions complete (R216, R217, R220–R225, R237): a local record becomes visible in its register; a decision unit that
reads forms its entry, which becomes visible with its index, unless a commit of the last six ticks made it out of date. -/
def Obligations.OutcomesBecomeVisible : Prop :=
  ∀ (s : State) (e : Fin 24) (o : OutRec) (ch : Fin 288) (u : Fin 64) (y : Decision),
    let c := s.chip
    let x := duOf u.val c
    let formed : DecUnit := { x with
      reads := x.reads.filter (fun t => c.clk < t), forming := x.forming ++ [y], lastEntry := some y.index, sample := none }
    let shown : DecUnit := { x with
      forming := x.forming.filter (fun s => c.clk < s.visible), now := if x.notBefore ≤ c.clk then some y else none }
    let mine (o : OutRec) : Bool := o.engine == e.val && o.due == c.clk
    (c.oc.bus.filter mine = [o] → o.ch = ch.val → completes (.outcomeVisible e) s (fun d =>
      d.oc.bus = c.oc.bus.filter (fun o => !mine o) ∧ rd (P.chOregVal ch.val) d = o.val % 4 ∧
      on (P.chOregValid ch.val) d = true ∧ rd (P.chOregFlags ch.val) d = o.flags % 2 ^ (P.chOregFlags ch.val).w ∧
      rd (P.chOregEndGt ch.val) d = o.endGt % 2 ^ (P.chOregEndGt ch.val).w)) ∧
    (decModes c = true → x.reads.contains c.clk = true → x.sample = some y →
      completes (.decisionRead u) s (fun d => duOf u.val d = formed ∧ sameBut [.oc] c d)) ∧
    (decModes c = false → completes (.decisionRead u) s (fun d => (duOf u.val d).reads = [] ∧ sameBut [.oc] c d)) ∧
    (decModes c = true → x.forming.find? (fun s => s.visible == c.clk) = some y → completes (.decisionVisible u) s (fun d =>
      duOf u.val d = shown ∧
      rd (P.duIndexNow u.val) d = y.index % 2 ^ (P.duIndexNow u.val).w ∧ rd (P.duEntryNow u.val) d = y.entry % 2 ^ (P.duEntryNow u.val).w ∧
      on (P.duDecStale u.val) d = y.stale ∧ (bitAt y.entry 15 = false → sameBut [.oc, .regs] c d)))

/-- O27: TRIG edges and pin levels are taken in (R300, R301): a selected edge four ticks after the last one stamped is stamped in common
time; in tick ⌊T⌋ + 4 it is counted and part of the trigger word, one further ahead waits for that tick, and one too near is counted as
missed; a change of level without a stamp is only the pin's level, which the word samples. -/
def Obligations.TriggerInputsTaken : Prop :=
  ∀ (s : State) (p : Fin 4) (falling high : Bool) (gt : BitVec 64) (f : BitVec 8),
    let c := s.chip
    let pinAt : Int := (gt.toNat : Int) * 256 + (f.toNat : Int)
    let t := edgeTime p.val pinAt c
    let stamped : Prop := (Tab.find c.aq.lastEdge p.val).all (fun l => decide (l + 1024 ≤ pinAt)) = true
    let level (b : Bool) (d : Chip) : Prop := d.pn = { c.pn with trig := setBits c.pn.trig p.val 1 (b2n b) }
    (edgeSelected p.val falling c = true → inModes [.reset, .boot, .shutdown] c = false →
      (stamped → t / 256 + 4 = (c.tl.gt : Int) →
        completes (.edgeStamp p falling gt f) s (fun d => counted (P.pinEdgeCount p.val) 1 c d ∧ level (!falling) d ∧
          rd (P.pinLastEdge p.val) d = shortFine t % 2 ^ (P.pinLastEdge p.val).w ∧ Tab.find d.aq.edges p.val = some t ∧
          Tab.find d.aq.lastEdge p.val = some pinAt)) ∧
      (stamped → (c.tl.gt : Int) < t / 256 + 4 →
        completes (.edgeStamp p falling gt f) s (fun d => level (!falling) d ∧ Tab.find d.aq.lastEdge p.val = some pinAt ∧
          d.aq.stamps = c.aq.stamps ++ [(c.clk + (t / 256 + 4 - (c.tl.gt : Int)).toNat, p.val, falling, t)] ∧ sameBut [.aq, .pn] c d)) ∧
      (¬ stamped → (c.tl.gt : Int) ≤ t / 256 + 4 →
        completes (.edgeStamp p falling gt f) s (fun d => counted (P.pinEdgeMissCount p.val) 1 c d ∧ level (!falling) d ∧ d.aq = c.aq))) ∧
    completes (.trigPinChange p high false) s (fun d => level high d ∧ sameBut [.pn] c d) ∧
    (edgeSelected p.val (!high) c = true → inModes [.reset, .boot, .shutdown] c = false →
      completes (.trigPinChange p high true) s (fun d => level high d ∧ counted (P.pinEdgeMissCount p.val) 1 c d ∧
        fieldsBut [P.pinEdgeMissCount p.val] c d))

/-- O28: trigger units arm and decide (R53, R302, R304, R305, R307): an arm that is due leaves its unit ARMED, or IDLE where GT is no longer
vouched for, an AUTO unit arms again after its holdoff, and a settled unit decides its earliest candidate, with FIRE_GT, FIRE_NODE and
its count. -/
def Obligations.TriggerUnitsArmAndDecide : Prop :=
  ∀ (s : State) (t : Fin 8) (e : Sched) (y : Cand),
    let c := s.chip
    let x := tuOf t.val c
    let armed : TrigUnit := { x with state := 2, prev := false, matched := false, cands := [] }
    (schedDue (· == .arm t.val) c = some e → schedKeeps e c = true →
      completes (.tuArm t) s (fun d => tuOf t.val d = armed ∧ d.tl = (schedPop (· == .arm t.val) c).tl ∧
        (e.issuer = none → sameBut [.tl, .aq] c d))) ∧
    (schedDue (· == .arm t.val) c = some e → schedKeeps e c = false → x.state = 1 →
      completes (.tuArm t) s (fun d => tuOf t.val d = { x with state := 0 } ∧ d.tl = (schedPop (· == .arm t.val) c).tl)) ∧
    (x.state = 4 → x.rearmAt ≤ c.clk →
      completes (.tuRearm t) s (fun d => tuOf t.val d = armed ∧ sameBut [.aq] c d)) ∧
    (x.state = 3 → tuRuns t.val c = true → x.settleAt ≤ c.clk → y ∈ x.cands →
      (∀ z ∈ x.cands, y.f < z.f ∨ (y.f = z.f ∧ y.node < z.node) ∨ y = z) →
      completes (.settleExpiry t) s (fun d => (tuOf t.val d).state = (if on (P.tuAuto t.val) c then 4 else 0) ∧
        (tuOf t.val d).cands = [] ∧ on (P.tuFired t.val) d = true ∧ counted (P.tuFireCount t.val) 1 c d ∧
        rd (P.tuFireGt t.val) d = shortFine y.f % 2 ^ (P.tuFireGt t.val).w ∧
        rd (P.tuFireNode t.val) d = y.node % 2 ^ (P.tuFireNode t.val).w ∧ bitAt d.aq.nextFire t.val = true))

/-- O29: blocks, records and gaps reach their streams (R297, R299, R310, R313, R314, R343): a channel's block is staged, an input's block is
held for a trigger, a burst of at most 64 words of the oldest staged record goes to the ring of the stream whose turn it is, PIDX moving
on with the record's last word, and lost records are told by a GAP record. -/
def Obligations.StreamsCarryRecords : Prop :=
  ∀ (s : State) (k : Fin 16) (ch : Fin 288) (l : List Nat) (q : Rec) (rest : List Rec),
    let c := s.chip
    let x := streamOf k.val c
    let r := rd (P.stRing k.val) c
    let ring := ringOf r c
    let input := bits (rd (P.stSrcSel k.val) c) 0 4
    let all := recHeader q x.seq :: q.words
    let ws := (all.drop x.sent).take 64
    let at_ := ring.pidx + x.sent
    let told (d : Chip) : Prop := d.dma.burstAt = some (c.clk + (8 * ws.length + 63) / 64) ∧ d.dma.lastStream = k.val ∧
      (at_ % 2 ^ ring.log2 + ws.length ≤ 2 ^ ring.log2 → .hostWrite ring.fn (ringAddr ring 8 at_) (ws.flatMap (leBytes 8)) ∈ d.out)
    (on (P.stStreamEn k.val) c = true → rd (P.stKind k.val) c = 1 → on (P.stTriggered k.val) c = false → modeTakes 7 c = true →
      chanMask k.val c = [ch.val] → c.tl.gt % 1024 = 0 → c.aq.chanBuf.getD ch.val [] = l → l.length = 256 →
      x.lost = 0 → roomFor k.val 1040 c = true → (∀ y ∈ x.staged, y.offered ≠ c.clk) →
      completes .chanBlock s (fun d => (streamOf k.val d).staged = x.staged ++ [chanRec ch.val l.reverse c] ∧ d.aq.chanBuf = [])) ∧
    (on (P.stStreamEn k.val) c = true → rd (P.stKind k.val) c = 2 → on (P.stTriggered k.val) c = true → modeTakes 8 c = true →
      input < 12 → on (P.rinRinEn input) c = true → sampling c = true → c.tl.gt % 256 = 0 → 256 ≤ c.tl.gt → 256 ≤ c.clk → x.win = none →
      recBytes x.staged + recBytes (x.held ++ [rawRec input (on (P.stRawCorr k.val) c) c]) ≤ partBytes k.val c →
      completes .rawBlock s (fun d => (streamOf k.val d).held = x.held ++ [rawRec input (on (P.stRawCorr k.val) c) c] ∧
        (streamOf k.val d).staged = x.staged)) ∧
    (x.staged = q :: rest → x.sent < all.length → portFree c = true → streamTurn c = some k.val → streamWins c = true →
      (x.sent + ws.length < all.length → completes (.streamRecordWrite k) s (fun d =>
        streamOf k.val d = { x with sent := x.sent + ws.length } ∧ told d ∧ sameBut [.aq, .dma, .out] c d)) ∧
      (x.sent + ws.length = all.length → completes (.streamRecordWrite k) s (fun d =>
        streamOf k.val d = { x with staged := rest, sent := 0, seq := (x.seq + 1) % 2 ^ 32 } ∧ told d ∧
        counted (P.stRecords k.val) 1 c d ∧ (ringOf r d).pidx = (ring.pidx + all.length) % 2 ^ (ring.log2 + 1)))) ∧
    (x.lost ≠ 0 → roomFor k.val 24 c = true →
      completes (.gapRecord k) s (fun d => (streamOf k.val d).lost = 0 ∧ (streamOf k.val d).staged = x.staged ++ [gapRec x c.clk] ∧
        counted (P.stGapCount k.val) 1 c d))

/-- O30: every SMBus transfer completes (R461, R462): a read returns what its command names and changes nothing; a write without a packet
check, or with a good one, takes effect; one with a bad packet check leaves the chip as it was; the alert response answers with the
address and lets the line go. -/
def Obligations.SmbusTransfersComplete : Prop :=
  ∀ (s : State) (v : BitVec 8) (pec : Option Bool),
    let c := s.chip
    let tells (n x : Nat) (d : Chip) : Prop := d.out = c.out ++ [.smbus ((leBytes n x).map (·.toNat))] ∧ sameBut [.out] c d
    completes .smbReadMode s (tells 1 (modeCode c.md.mode + 16 * modeCode c.md.prev)) ∧
    completes .smbReadBootStatus s (tells 1 (rd P.secBootFailCause c + 16 * rd W.bootFailed c + 32 * rd W.shutdownLatched c + 64 * rd W.tjWarn c)) ∧
    completes .smbReadTj s (tells 2 (rd W.tjMax c + 2 ^ 12 * rd W.thrLevel c)) ∧
    completes .smbReadSensorFailed s (tells 2 ((List.range 9).map (fun k => 2 ^ k * rd (W.sensorFailed k) c)).sum) ∧
    completes .smbReadDeviceSerial s (tells 4 Config.deviceSerial) ∧
    completes .smbReadAlertEn s (tells 1 (rd W.alertEn c)) ∧
    completes .smbReadAlertStat s (tells 1 ((List.range 3).map (fun k => 2 ^ k * rd (W.alertStat k) c)).sum) ∧
    (pec ≠ some false → completes (.smbWriteAlertEn v pec) s (fun d =>
      rd W.alertEn d = v.toNat % 2 ^ W.alertEn.w ∧ fieldsBut [W.alertEn] c d ∧ sameBut [.regs] c d)) ∧
    (pec ≠ some false → c.now.set = [] → completes (.smbClearAlertStat v pec) s (fun d =>
      (∀ k : Fin 3, rd (W.alertStat k.val) d = if bitAt v.toNat k.val then 0 else rd (W.alertStat k.val) c) ∧
        fieldsBut [W.alertStat 0, W.alertStat 1, W.alertStat 2] c d ∧ sameBut [.regs] c d)) ∧
    (pec = some false → completes (.smbWriteAlertEn v pec) s (· = c) ∧ completes (.smbClearAlertStat v pec) s (· = c)) ∧
    (alertLow c = true → completes .alertResponse s (fun d =>
      d.out = c.out ++ [.smbus [smbAddress]] ∧ alertLow d = false ∧ sameBut [.out, .pn] c d))

/-- O31: every JTAG instruction completes (R463): the boundary scans, CLAMP and HIGHZ while RESET_N is low, IDCODE, BYPASS, and the
debug register with its access to SRAM in BENCH. While RESET_N is high EXTEST, CLAMP and HIGHZ act as BYPASS. -/
def Obligations.JtagInstructionsComplete : Prop :=
  ∀ (s : State) (cells : BitVec 65) (code : BitVec 8) (value : BitVec 128),
    let c := s.chip
    let a := bits c.pn.dbg.toNat 0 32
    let selects (ir : BitVec 8) (drive : JtagDrive) (d : Chip) : Prop := d.pn.ir = ir ∧ d.pn.drive = drive
    let scans (d : Chip) : Prop := d.pn.cells = cells ∧ sameBut [.pn, .out, .free] c d ∧
      ∃ x : Nat, d.out = c.out ++ [.jtag x] ∧ ∀ p : Fin 4, bitAt x (4 + 2 * p.val) = bitAt c.pn.trig p.val
    let shifts (x : Nat) (d : Chip) : Prop := d.out = c.out ++ [.jtag x] ∧ sameBut [.pn, .out] c d
    let ready : Prop := c.md.mode = .bench ∧ c.pn.dbgGo = true ∧ portFree c = true
    (c.pw.resetN = false → completes (.extest cells) s (fun d => selects 0x00 .extest d ∧ scans d) ∧
      completes .clamp s (fun d => selects 0x02 .clamp d ∧ shifts 0 d) ∧ completes .highz s (fun d => selects 0x03 .highz d ∧ shifts 0 d)) ∧
    (c.pw.resetN = true → completes (.extest cells) s (fun d => selects 0x00 .none d ∧ shifts 0 d) ∧
      completes .clamp s (fun d => selects 0x02 .none d ∧ shifts 0 d) ∧ completes .highz s (fun d => selects 0x03 .none d ∧ shifts 0 d)) ∧
    completes (.samplePreload cells) s (fun d => selects 0x01 .none d ∧ scans d) ∧
    completes .idcode s (fun d => selects 0xFE .none d ∧ shifts 0x00256A4B d) ∧
    (code.toNat ∉ [0x00, 0x01, 0x02, 0x03, 0x20, 0xFE] → completes (.bypass code) s (fun d => selects code .none d ∧ shifts 0 d)) ∧
    (c.md.mode = .bench → completes (.dbgBulk value) s (fun d => selects 0x20 .none d ∧ shifts c.pn.dbg.toNat d ∧ d.pn.dbg = value)) ∧
    (ready → bitAt c.pn.dbg.toNat 96 = false → oneRegion a 8 = true → readRefused a 8 = none → completes .dbgBulkGo s (fun d =>
      bits d.pn.dbg.toNat 32 64 = leNat (memGet c.mem a 8) ∧ d.pn.dbgGo = false ∧ d.pn.dbgHolds = bitAt c.pn.dbg.toNat 97 ∧
        sameBut [.pn] c d)) ∧
    (ready → bitAt c.pn.dbg.toNat 96 = true → oneRegion a 8 = true → regionOf a = some .shelves → inActiveShelf a 8 c = false →
      completes .dbgBulkGo s (fun d => leNat (memGet d.mem a 8) = bits c.pn.dbg.toNat 32 64 ∧ bytesBut a 8 c d ∧ d.pn.dbgGo = false ∧
        sameBut [.pn, .mem] c d))

/-- O32: a thermal sample that finds nothing out of range (R423–R426): nine readings of sensors that have not failed become the readings in force, the
highest is TJ_MAX, and the sample's GT is noted. Here every reading lies below the warning. -/
def Obligations.ThermalSamplesComplete : Prop :=
  ∀ (s : State) (raw : List Int),
    let c := s.chip
    sampleDue c = true → raw.length = 9 → (∀ t ∈ raw, 40 ≤ t ∧ t < 736) → (∀ k : Fin 9, on (W.sensorFailed k.val) c = false) → on P.thmSensorsLow c = false →
      newFailures raw c = [] →
      completes (.thermalSample raw) s (fun d => d.th.sampledAt = some c.clk ∧ (∀ k : Fin 9, rdS (W.sensorT k.val) d = rawOf raw k.val) ∧
        highest raw = some (rdS W.tjMax d) ∧ rd W.sampleGt d = c.tl.gt % 2 ^ W.sampleGt.w ∧ rd W.tjWarn d = rd W.tjWarn c ∧
        rd W.thrLevel d = rd W.thrLevel c ∧ d.md = c.md)

/-- O33: what follows a sample once its conditions stand (R423, R428–R431, R436, R437): the warning clears, the throttle falls by one level,
its hold ends, the NV window opens, the sampling rate returns, the REFCOMP factor is computed, and a periodic record is written. -/
def Obligations.ThermalDwellsComplete : Prop :=
  ∀ s : State,
    let c := s.chip
    let k := rd P.thmTelemCount c
    let moved := factorNow c - c.th.factor
    (c.th.sampledAt = some c.clk → on W.tjWarn c = true → dwelt c.th.warnSince c = true →
      completes .tjWarnClear s (fun d => on W.tjWarn d = false ∧ fieldsBut [W.tjWarn] c d ∧ sameBut [.regs, .mem, .th] c d)) ∧
    (mayFall c = true → rd W.thrLevel c < 8 → completes .throttleFall s (fun d => rd W.thrLevel d = rd W.thrLevel c - 1 ∧ d.md = c.md)) ∧
    (c.th.holdUntil ≠ 0 → c.th.holdUntil ≤ c.clk → completes .throttleHoldEnd s (fun d => d.th.holdUntil = 0 ∧ d.md = c.md)) ∧
    (dwelt c.th.nvSince c = true → completes .nvWindowSet s (fun d => on W.nvWindow d = true ∧ fieldsBut [W.nvWindow] c d ∧ sameBut [.regs] c d)) ∧
    (on P.thmSenseFast c = true → dwelt c.th.midSince c = true →
      completes .senseRateReturn s (fun d => on P.thmSenseFast d = false ∧ fieldsBut [P.thmSenseFast] c d ∧ sameBut [.regs] c d)) ∧
    (on P.thmRefcomp c = true → c.th.factorAt + 100000000 ≤ c.clk →
      completes .refcompUpdate s (fun d => d.th.factorAt = c.clk ∧
        d.th.nextFactor = (if 4 ≤ moved ∨ moved ≤ -4 then some (factorNow c) else none) ∧ sameBut [.th] c d)) ∧
    (c.th.sampledAt = some c.clk → c.th.telemAt ≤ c.clk → inModes [.reset, .shutdown] c = false → c.th.telemLast = none →
      completes .telemetryPeriodic s (fun d => memGet d.mem (telemAddr k) 32 = telemBytes 3 c ∧ bytesBut (telemAddr k) 32 c d ∧
        rd P.thmTelemCount d = (k + 1) % 2 ^ P.thmTelemCount.w ∧ d.th.telemAt = c.th.telemAt + rd P.thmTelemPeriod c * 1000000))

/-- O34: microwords and micro-traps complete (R239, R242–R245, R248–R251, R256): with a patch in force a sequencer's command carries out the
microword of the tick, whose result its destination takes; ECC_CE rewrites its word, and ECC_CE and PEEK resume their engine later and are
counted, with an entry in the trap frame, or overflow it; ECC_UE stops the engine and holds every engine of its replica; the repair
rewrites the bad words and lets them go, or finds the store bad. -/
def Obligations.MicrotrapsComplete : Prop :=
  ∀ (s : State) (e : Fin 64) (r : Fin 4) (n op : Nat) (u : UTick),
    let c := s.chip
    let m := microOf e.val c
    let x := sqOf e.val c
    let runs : Prop := engineRuns e.val c = true
    let kept (q w : Nat) (d : Chip) : Prop := Tab.get (Tab.get d.mc.replicas q []) w 0 = BitVec.ofNat 128 (storeWord w c)
    let pushed (d : Chip) : Prop := (microOf e.val d).frame.length = m.frame.length + 1 ∧ counted (P.mceTrapTicks e.val) n c d ∧
      (sqOf e.val d).issuing = true ∧ (sqOf e.val d).pc = x.pc ∧
      (sqOf e.val d).first = x.first + (if x.stall = 0 ∨ x.waiting.isSome then n else n - 1)
    let faulted (q : Fin 64) (code : Nat) (d : Chip) : Prop := (sqOf q.val d).issuing = false ∧ on (P.mceMcFault q.val) d = true ∧
      rd (P.mceMcFaultCode q.val) d = code
    (sqWords e.val op u c →
      completes (sqCommand e op) s (fun d => (microOf e.val d).did = true) ∧
      (uRaise u.word = false → uSeq u.word = 0 → uSlot u.word = 0 →
        (uDest u.word = 0 → completes (sqCommand e op) s (fun d => sqOf e.val d = x ∧ sameBut [.mc] c d)) ∧
        (uDest u.word = 2 → completes (sqCommand e op) s (fun d => sqOf e.val d = { x with cursor := u.res } ∧ sameBut [.sqs, .mc] c d)) ∧
        (uDest u.word = 3 → completes (sqCommand e op) s (fun d => sameBut [.sqs, .mc] c d ∧
          sqOf e.val d = { x with s := Tab.put x.s ((sqLn m.regs.ir).extractLsb' 0 3).toNat 0 (BitVec.ofNat 64 u.res) }))) ∧
      (uRaise u.word = false → uSeq u.word = 4 → uSlot u.word = 0 → uDest u.word = 0 →
        completes (sqCommand e op) s (fun d => sqOf e.val d = { x with pc := m.regs.nirPc, stall := 0 } ∧ sameBut [.sqs, .mc] c d))) ∧
    (patched c = true → waitingOn e.val c = none → m.due = some u → m.did = false →
      (u.wake = 1 → completes (.waitoResume e) s (fun d => (microOf e.val d).did = true)) ∧
      (u.wake = 2 → completes (.waitoTimeout e) s (fun d => (microOf e.val d).did = true))) ∧
    (runs → 1 ≤ n → n ≤ 6 →
      (m.frame.length < 8 → completes (.eccCeTrap e n) s (fun d => pushed d ∧ counted (P.mceCeTraps e.val) 1 c d ∧
        rd (P.mceLastTrapCause e.val) d = 3 ∧ kept (e.val / 16) (wordDue e.val c) d)) ∧
      (8 ≤ m.frame.length → completes (.eccCeTrap e n) s (fun d => faulted e 1 d ∧ counted (P.mceCeTraps e.val) 1 c d))) ∧
    (runs → m.frame = [] → m.peek ≠ [] → uTrapm (uWordAt e.val (wordDue e.val c) c) = false → 1 ≤ n → n ≤ 8 →
      completes (.peekTrap e n) s (fun d => pushed d ∧ counted (P.mcePeekTraps e.val) 1 c d ∧ rd (P.mceLastTrapCause e.val) d = 4 ∧
        (microOf e.val d).copy = microNow e.val (setURegs e.val (regsNow e.val c) c) ∧ (microOf e.val d).peek = [])) ∧
    (runs → c.md.mode ≠ .reset →
      completes (.eccUeTrap e) s (fun d => (sqOf e.val d).issuing = false ∧ on W.eccUe d = true ∧
        ∀ q : Fin 64, q.val / 16 = e.val / 16 → (microOf q.val d).stopped = true)) ∧
    ((∃ q : Fin 64, q.val / 16 = r.val ∧ (microOf q.val c).stopped = true) →
      completes (.storeRepair r false) s (fun d => (∀ q : Fin 64, (microOf q.val d).stopped =
        if q.val / 16 = r.val then false else (microOf q.val c).stopped) ∧ (∀ w ∈ Tab.get c.mc.bad r.val [], kept r.val w d) ∧
        Tab.get d.mc.bad r.val [] = [] ∧ sameBut [.mc] c d) ∧
      completes (.storeRepair r true) s (fun d => rd P.mcMcStoreBad d = 1 ∧ ∀ q : Fin 64, q.val / 16 = r.val → faulted q 3 d))

/-- O35: the Cabinet's work completes (R138, R140, R412, R413, R415): a summary write stores the record that waits and spends its credit, a
bias write puts the bias record in force, a credit accrues, a worn block changes places, and the calibration sets are saved
periodically. Here no block written has worn out. -/
def Obligations.CabinetWorkCompletes : Prop :=
  ∀ (s : State) (q : NvReq) (rest : List NvReq) (b : BoardRec) (rs : List BiasRec) (j k : Nat),
    let c := s.chip
    let ws := (List.range 1776).map (fun i => wearOf (i + 272) c)
    (c.nv.queue = q :: rest → q.data = .board b → q.blocks = 1 → nvModes c = true → c.nv.sumAt = none →
      1 ≤ rd P.secCredit c → on W.nvWindow c = true → firstBy (fun i => wearOf i c) (freeBlocks c) = some k → wearOf k c + 1 < 100000 →
      completes (.summaryWrite []) s (fun d => d.nv.queue = rest ∧ d.nv.sumAt = some c.clk ∧ wearOf k d = wearOf k c + 1 ∧
        (d.nv.recs.find? (fun r => r.1 == .board)).map (fun r => (r.2.data, r.2.blocks.head?)) = some (.board b, some [k]) ∧
        rd P.secCredit d = (rd P.secCredit c - 1) % 2 ^ P.secCredit.w ∧ rd P.secBoardStatus d = 2)) ∧
    (c.nv.biasPend = some rs → c.nv.biasAt = none → nvModes c = true → biasBlock c = some k → wearOf k c + 1 < 100000 →
      completes (.biasWrite false) s (fun d => d.nv.bias = some rs ∧ d.nv.biasPend = none ∧ d.nv.biasAt = some c.clk ∧
        d.nv.biasSeq = c.nv.biasSeq + 1 ∧ wearOf k d = wearOf k c + 1 ∧ ∀ o : Fin 32,
          rd (P.biaPuCode o.val) d = (rs.getD o.val BiasRec.zero).pu % 2 ^ (P.biaPuCode o.val).w ∧
          rd (P.biaFaultCode o.val) d = (rs.getD o.val BiasRec.zero).fault % 2 ^ (P.biaFaultCode o.val).w)) ∧
    (c.pw.supplies = true → c.nv.creditAt + 10000000000 ≤ c.clk → completes .creditTick s (fun d =>
      rd P.secCredit d = min 1024 (rd P.secCredit c + 1) ∧ d.nv = { c.nv with creditAt := c.clk } ∧ fieldsBut [P.secCredit] c d ∧
        sameBut [.nv, .regs] c d)) ∧
    (wearModes c = true → rd P.secCredit c = 1024 → ws.sum + 1024 * 1776 < ws.foldl max 0 * 1776 →
      firstBy (fun i => wearOf i c) (usedBlocks c) = some k → firstBy (fun i => 1000000 - wearOf i c) (freeBlocks c) = some j →
      wearOf j c + 1 < 100000 → completes (.wearMove false) s (fun d => rd P.secCredit d = 1023 ∧ wearOf j d = wearOf j c + 1 ∧
        d.nv.recs = c.nv.recs.map (fun r =>
          (r.1, { r.2 with blocks := r.2.blocks.map (fun l => l.map (fun i => if i == k then j else i)) })))) ∧
    (nvModes c = true → rd P.calSavePeriod c ≠ 0 → c.rin.saveAt + rd P.calSavePeriod c * 1000000000 ≤ c.clk → tjInWindow c = true →
      c.nv.queue.all (fun q => q.data.kind != .cal) = true → completes .periodicCalSave s (fun d => d.rin.saveAt = c.clk ∧ sameBut [.nv, .rin] c d ∧
        d.nv.queue = c.nv.queue ++ [{ data := .cal (calSets c), blocks := 5, issuers := [], periodic := true, board := false }])) ∧
    (nvModes c = true → rd P.calSavePeriod c ≠ 0 → c.rin.saveAt + rd P.calSavePeriod c * 1000000000 ≤ c.clk → tjInWindow c = false →
      completes .periodicCalSave s (fun d => d.rin.saveAt = c.clk ∧ on P.calSaveFailed d = true ∧ d.nv = c.nv))

/-- O36: what the supplies, the reset pin and the PCI Express reset do (R20, R107, R334, R419–R421, R459): RESET with the supplies, loss of
all that is not kept, the bias power-up values, RESET by the pin, and the end of every function's rings. -/
def Obligations.SuppliesAndResetsComplete : Prop :=
  ∀ (s : State) (aonLost : Bool) (rs : List BiasRec) (fn : Fin 64),
    let c := s.chip
    (c.pw.supplies = false → c.pw.aonLatch = false → completes .suppliesValid s (fun d =>
      d.md.mode = .reset ∧ d.pw.supplies = true ∧ d.pw.suppliesAt = c.clk ∧ d.pw.biasLoaded = false ∧ d.tl.counting = false)) ∧
    (c.pw.supplies = false → c.pw.aonLatch = true → completes .suppliesValid s (fun d =>
      d.pw = { c.pw with supplies := true, suppliesAt := c.clk, biasLoaded := false } ∧ sameBut [.pw] c d)) ∧
    (c.pw.supplies = true → completes (.suppliesLost aonLost) s (fun d => d.pw.supplies = false ∧ d.mem = [] ∧ d.nv.recs = c.nv.recs ∧
      d.md.mode = if c.pw.aonLatch && !aonLost then .shutdown else .reset)) ∧
    (c.pw.supplies = true → c.pw.biasLoaded = false → c.pw.suppliesAt + 16000 ≤ c.clk → c.nv.bias = some rs → c.md.mode ≠ .shutdown →
      completes .biasLoader s (fun d => d.pw.biasLoaded = true ∧ d.md = c.md ∧ ∀ o : Fin 32,
        rd (P.biaCodeNow o.val) d = (rs.getD o.val BiasRec.zero).pu % 2 ^ (P.biaPuCode o.val).w ∧
        rd (P.biaPuCode o.val) d = (rs.getD o.val BiasRec.zero).pu % 2 ^ (P.biaPuCode o.val).w ∧ on (P.biaFaultDrive o.val) d = false)) ∧
    (c.pw.supplies = true → c.md.mode ≠ .reset → c.md.mode ≠ .shutdown → completes .resetNLow s (fun d =>
      d.md.mode = .reset ∧ d.md.prev = c.md.mode ∧ d.md.trans = none ∧ d.pw.resetN = false ∧ d.pw.analog = false ∧
        d.tl.counting = false ∧ d.mb.sessions = [] ∧ d.rings = [] ∧ d.nv.recs = c.nv.recs)) ∧
    completes .pePerstNLow s (fun d => d.pn.perstN = false ∧ d.rings = [] ∧ d.hostMsix = [] ∧ d.hostPba = []) ∧
    completes .pePerstNHigh s (fun d => d.pn = { c.pn with perstN := true } ∧ sameBut [.pn] c d) ∧
    completes (.functionLevelReset fn) s (fun d => (∀ p ∈ d.rings, fn.val ≠ 0 ∧ p.2.fn ≠ fn.val) ∧
      (∀ p ∈ d.hostMsix, fn.val ≠ 0 ∧ p.1 / 2048 ≠ fn.val) ∧ ∀ p ∈ d.hostPba, fn.val ≠ 0 ∧ p.1 ≠ fn.val)

/-- O37: boot, clocks and memory errors (R14, R16, R20, R24, R26, R29, R48, R400–R406): entry to BOOT starts GT at 0; the boot sequence
waits for the clocks; a boot that fails has read the flash as far as it came and says why, one that does not leads to STANDBY or FALLBACK;
a monitored loss forces zero until the clocks have been good for 10 µs, any other only counts as a loss. -/
def Obligations.BootAndClocksComplete : Prop :=
  ∀ (s : State) (b : BootInput) (src : ClockSource) (back : Nat) (r : Region),
    let c := s.chip
    let boots : Prop := c.md.mode = .boot ∧ c.md.bootStopped = false ∧ fabricGood c = true
    let lost : Power := { c.pw with goodAt := c.pw.goodAt.set (srcNo src) (some (c.clk + back)) }
    (c.md.mode = .reset → c.pw.supplies = true → fabricGood c = true → c.pw.suppliesAt + 20000 ≤ c.clk →
      completes .bootEntry s (fun d => d.md.mode = .boot ∧ d.md.prev = .reset ∧ d.tl.gt = 0 ∧ d.tl.counting = true ∧ d.tl.state = 1 ∧
        d.pw = { c.pw with resetN := true })) ∧
    (c.md.mode = .boot → c.md.bootStopped = false → fabricGood c = false → completes (.bootSequence b) s (fun d =>
      d.md = { c.md with bootWaits := some b } ∧ sameBut [.md] c d)) ∧
    (boots → bootFailure b c ≠ 0 → completes (.bootSequence b) s (fun d => d.md = { c.md with bootWaits := none, bootStopped := true } ∧
      on W.bootFailed d = true ∧ rd P.secBootFailCause d = bootFailure b c % 2 ^ P.secBootFailCause.w ∧
      ∃ l : List Output, d.out = c.out ++ bootReads b (bootFailure b c) c ++ l)) ∧
    (boots → bootFailure b c = 0 → completes (.bootSequence b) s (fun d =>
      (d.md.mode = .standby ∨ d.md.mode = .fallback) ∧ d.md.prev = .boot)) ∧
    (clockPowered (srcNo src) c = true → monitored src c = true → completes (.clkLost ⟨src, back⟩) s (fun d =>
      d.pw.forcedZero = true ∧ on W.clkLost d = true ∧ on W.gtLost d = true ∧
      (c.md.mode ≠ .ready → d.pw = { lost with forcedZero := true }))) ∧
    (clockPowered (srcNo src) c = true → monitored src c = false → completes (.clkLost ⟨src, back⟩) s (fun d => d.pw = lost ∧ sameBut [.pw] c d)) ∧
    (c.pw.forcedZero = true → clocksGood c = true → completes .forcedZeroEnd s (fun d => d.pw.forcedZero = false)) ∧
    (c.md.mode ≠ .reset → completes (.eccUe r) s (fun d => on W.eccUe d = true ∧
      (haltRegion r = true → c.md.mode = .run → c.md.fault = false → d.md.trans = some .hold ∧ d.md.fault = true ∧ d.md.transAt = c.clk + 1))) ∧
    (c.pw.supplies = true → completes (.correctableError r) s (fun d =>
      d.mc = { c.mc with corrected := c.mc.corrected + 1 } ∧ sameBut [.mc] c d))

/-- O38: mode transitions take place (R20, R28, R35, R110, R137, R207, R208): MODE_SET begins or schedules the transition that R20 allows,
and those that wait complete at their event. MODE_SET has no trigger of a higher rank behind it in the queue, which is the
same tick (R21). -/
def Obligations.ModeTransitionsComplete : Prop :=
  ∀ (s : State) (h : Cmd) (cr rr : Nat) (m : Mode) (gt : BitVec 64),
    let c := s.chip
    let settled (m : Mode) (d : Chip) : Prop := d.md.mode = m ∧ d.md.prev = c.md.mode ∧ d.md.trans = none
    (taken h 0x40 1 true cr rr c → c.md.trans = none → c.now.moved = false → c.md.mode = .standby →
      outranked 0x4 s.pending c = false → completes (.modeSet h 0x4 gt) s (fun d => answered h 0x40 St.ok [] c d ∧ d.md.mode = .standby ∧ d.md.trans = some .configure)) ∧
    (taken h 0x40 2 true cr rr c → c.md.trans = none → c.now.moved = false → c.md.mode = .ready → runRefused gt.toNat c = false →
      schedRoom c = true → outranked 0x8 s.pending c = false → completes (.modeSet h 0x8 gt) s (fun d => acceptedAt h 0x40 [] c d ∧ d.md.mode = .ready ∧
        d.md.trans = some .run ∧ d.md.transGt = gt.toNat ∧ d.md.runGt = gt.toNat)) ∧
    (taken h 0x40 1 true cr rr c → c.md.trans = none → outranked 0x0 s.pending c = false →
      completes (.modeSet h 0x0 gt) s (fun d => answered h 0x40 St.ok [] c d ∧ settled .reset d)) ∧
    (c.md.fault = true → c.md.mode = .run → c.md.transAt ≤ c.clk →
      completes .transitionComplete s (fun d => settled .hold d ∧ on W.faultHold d = true)) ∧
    (c.md.fault = false → waitsAnalog c = some m → m ∈ [Mode.configure, .standby, .bench, .fallback] →
      completes .transitionComplete s (settled m)) ∧
    (c.md.trans = some .run → c.md.transGt = c.tl.gt → vouched c = true → c.md.mode = .ready → completes .runStart s (settled .run)) ∧
    (modeWaits c = some m → m ∈ [Mode.hold, .ready] → pacerLive c = false → vouched c = true →
      completes .modeTransitionAtGt s (settled m)) ∧
    (c.md.mode = .calibrate → calWindow c = false → (c.rin.calTodo = [] ∨ c.md.trans = some .configure) →
      completes .calibratePassEnd s (settled .configure)) ∧
    (c.md.mode = .syncing → c.tl.syncAt + 1000 * rd P.tlSyncTimeout c ≤ c.clk →
      completes .syncTimeout s (fun d => settled .configure d ∧ on W.syncTimeout d = true)) ∧
    (c.md.mode ≠ .reset → c.now.set = [] → completes (.faultHold 0) s (fun d => on W.faultHold d = false ∧ d.md = c.md)) ∧
    (c.md.mode = .bench → c.tl.gt % rd P.sysBenchPeriod c = 0 →
      completes .benchPeriodToggle s (fun d => d.syn = { c.syn with benchHigh := !c.syn.benchHigh } ∧ d.md = c.md))

/-- O39: events reach their inputs and MARK pulses end (R317, R320, R323, R324, R326, R357): a delivered event is counted, stamped, and acts
at its consumer input, here a trigger word's bit or a DMA channel; a 65th event within 128 ticks stops its channel. -/
def Obligations.EventsAreDelivered : Prop :=
  ∀ (s : State) (ch : Fin 128) (k : Fin 16) (pin : Fin 8) (f : Flight) (a : Nat),
    let c := s.chip
    let past := (Tab.get c.ev.history ch.val []).filter (fun t => c.clk < t + 128)
    let due : Prop := c.ev.flights.filter (fun g => g.ch == ch.val && g.arrive == c.clk) = [f] ∧ matrixRuns c = true
    let alone : Prop := (Tab.find c.ev.arrivals f.cons).all (fun p => p.1 != c.clk) = true
    let delivered (d : Chip) : Prop := d.ev.flights = c.ev.flights.erase f ∧ counted (P.ecEvCount ch.val) 1 c d ∧
      rd (P.ecLastEvGt ch.val) d = c.tl.gt % 2 ^ (P.ecLastEvGt ch.val).w ∧ (f.watch = true → on (P.ecEvSeen ch.val) d = true) ∧
      Tab.find d.ev.history ch.val = some (past ++ [c.clk])
    (due → past.length < 64 → alone → f.cons = 0x18 + k.val → completes (.eventDeliver ch) s (fun d =>
      delivered d ∧ counted (P.ciArrivals f.cons) 1 c d ∧ on (P.dchEvPending k.val) d = true)) ∧
    (due → past.length < 64 → alone → f.cons = k.val → completes (.eventDeliver ch) s (fun d =>
      delivered d ∧ counted (P.ciArrivals f.cons) 1 c d ∧ d.aq = { c.aq with evBits := c.aq.evBits ||| 2 ^ k.val })) ∧
    (due → 64 ≤ past.length → completes (.eventDeliver ch) s (fun d =>
      d.ev.flights = c.ev.flights.filter (fun g => g.ch != ch.val) ∧ on (P.ecStorm ch.val) d = true ∧ on (P.ecChEn ch.val) d = false ∧
        counted P.evmStormCount 1 c d)) ∧
    (Tab.find c.ev.pulses pin.val = some (a, c.clk) → Tab.get c.sqs.markHigh pin.val false = true → eventsDrive c = true →
      completes (.markEventPulseEnd pin) s (fun d => Tab.find d.ev.pulses pin.val = none ∧ Tab.get d.sqs.markHigh pin.val false = false ∧
        d.out = c.out ++ [.mark pin.val false (markTime c.tl.gt c)] ∧ d.pn.markDue = c.pn.markDue ++ [(c.clk + 60, pin.val, false)] ∧
        sameBut [.ev, .sqs, .pn, .out] c d))

/-- O40: the timeline takes its epoch, its beacons and its snapshots (R33–R36, R38, R39, R48, R49, R57–R60, R270): a sampled pulse loads GT
eight ticks later, beacons are sent, noted and missed, and a snapshot is queued, latched and copied to its bank. -/
def Obligations.TimelineEventsComplete : Prop :=
  ∀ (s : State) (g : Fin 4) (gt : BitVec 64) (f : BitVec 8) (rx : Rx) (b : Beacon) (id : BitVec 16) (node : Fin 64) (x : Snap) (l : Latch)
      (k : Fin 2) (j : Fin 254),
    let c := s.chip
    let raw : Int := ((gt.toNat * 256 + f.toNat : Nat) : Int)
    let p := portOf g.val c
    let ws := beaconWords (stamp72 (commonTime raw c)) p c.tl.state (depthOf c)
    let sound : Prop := g.val < c.tl.beacon.length
    let comes (i : Instr) : Prop := timingHeard rx c = true ∧ hears rx.lg.val i c = true
    let loads : Prop := c.tl.epochAt = some c.clk ∧ c.pw.forcedZero = false ∧ c.tl.counting = true
    let idle : Prop := c.tl.sched = [] ∧ c.tl.snaps = [] ∧ c.md.trans = none
    let uncopied := c.tl.latches.filter (fun y => !y.missed)
    let due : Prop := c.tl.snaps.filter (fun y => y.gt == c.tl.gt) = [x] ∧ x.issuers = []
    let given (missed : Bool) : Latch :=
      { gt := x.gt, id := x.id, mesh := x.mesh, unaligned := !vouched c && !missed, missed := missed, bank := c.tl.nextBank,
        totals := if missed then [] else c.now.tot }
    let latched (missed : Bool) : Timeline := { c.tl with
      snaps := c.tl.snaps.filter (fun y => y.gt != c.tl.gt), latches := c.tl.latches ++ [given missed], nextBank := 1 - c.tl.nextBank }
    (c.tl.counting = true → c.pw.forcedZero = false → on P.tlEpochArmed c = true → c.tl.epochAt = none →
      completes (.epochPulse true) s (fun d => d.tl = { c.tl with epochHigh := true, epochAt := some (c.clk + 8) } ∧ sameBut [.tl] c d)) ∧
    (loads → idle → c.md.mode = .configure → completes .epochLoad s (fun d =>
      d.tl = { c.tl with gt := rd P.tlEpochGt c % 2 ^ 64, epochAt := none, epochLoaded := true } ∧ on P.tlEpochArmed d = false ∧
        fieldsBut [P.tlEpochArmed] c d ∧ sameBut [.tl, .regs] c d)) ∧
    (loads → c.md.mode = .configure → completes .epochLoad s (fun d => d.tl.gt = rd P.tlEpochGt c % 2 ^ 64 ∧ d.tl.sched = [] ∧
      d.tl.snaps = [] ∧ d.tl.epochAt = none ∧ d.tl.epochLoaded = true ∧ on P.tlEpochArmed d = false)) ∧
    (loads → c.md.mode = .syncing → c.tl.align = .waitEpoch → completes .epochLoad s (fun d =>
      d.tl.gt = rd P.tlEpochGt c % 2 ^ 64 ∧ d.tl.state = 3 ∧ d.md.mode = .ready ∧ d.md.prev = .syncing)) ∧
    (beaconDue g.val c = true → timingMay g.val c = true → completes (.beaconTx g gt f) s (fun d =>
      d.out = c.out ++ [.frame g.val ((List.range 4).map (fun k =>
        lanePins g.val k (laneChars k (startBytes 1 (asStandby g.val c) 3 c) ws) c))] ∧ beaconDue g.val d = false ∧
        counted (P.lgTimingFramesTx g.val) 1 c d ∧ (groupOf g.val d).lastTiming = some c.clk)) ∧
    (comes (.beaconRx rx b gt f) → rx.lg = g → sound → (uplinks c).contains g.val = false → completes (.beaconRx rx b gt f) s (fun d =>
      portOf g.val d = { p with seen := true, lastTx := b.txGt.toNat * 256 + b.txF.toNat, lastRx := stamp72 (commonTime raw c),
                                lastClk := some c.clk, missed := 0 } ∧
        counted (P.tlgBeaconRx g.val) 1 c d ∧ counted (P.lgTimingFramesRx g.val) 1 c d ∧ rd (P.lgPeerId g.val) d = rx.src.val)) ∧
    (comes (.beaconRx rx b gt f) → rx.lg = g → (uplinks c).contains g.val = true → uplinkActive c = g.val → c.tl.state = 4 →
      c.md.mode = .run → b.echoValid = false → b.gtState ≠ 5 → completes (.beaconRx rx b gt f) s (fun d =>
        d.tl.state = 3 ∧ rd P.tlTlDepth d = min 7 (b.depth.toNat + 1) ∧ counted (P.tlgBeaconRx g.val) 1 c d)) ∧
    (beaconMissed g.val c = true → sound → p.missed + 1 ≠ 8 → completes (.beaconMiss g) s (fun d =>
      (portOf g.val d).missed = p.missed + 1 ∧ counted (P.tlgBeaconMiss g.val) 1 c d ∧
        ((uplinks c).contains g.val = true → uplinkActive c = g.val → c.tl.state = 3 → d.tl.state = 4))) ∧
    (comes (.snapshotFrameRx rx gt id node) → c.tl.snapSeen.contains (node.val, id.toNat) = false → c.tl.gt < gt.toNat → c.tl.snaps.length < 8 →
      schedRoom c = true → completes (.snapshotFrameRx rx gt id node) s (fun d =>
        d.tl = { c.tl with snaps := c.tl.snaps ++ [{ gt := gt.toNat, id := id.toNat, mesh := true, node := node.val, issuers := [] }],
                           snapSeen := (node.val, id.toNat) :: c.tl.snapSeen } ∧ sameBut [.tl, .lk, .regs, .now] c d)) ∧
    (due → uncopied.length < 8 → c.tl.latches ≠ [] → completes .snapshotLatch s (fun d => d.tl = latched false ∧ sameBut [.tl] c d)) ∧
    (due → c.tl.latches = [] → completes .snapshotLatch s (fun d => d.tl = { latched false with copyAt := c.clk } ∧
      on (W.snapValid c.tl.nextBank) d = false ∧ fieldsBut [W.snapValid c.tl.nextBank] c d ∧ sameBut [.tl, .regs] c d)) ∧
    (due → 8 ≤ uncopied.length → completes .snapshotLatch s (fun d => d.tl = latched true ∧ counted P.tlSnapMissedCount 1 c d)) ∧
    (c.tl.latches = [l] → l.bank = k.val → completes .snapshotBankCopy s (fun d => d.tl = { c.tl with latches := [] } ∧
      on (W.snapValid k.val) d = true ∧ rd (W.snapSeq k.val) d = (banksDone c + 1) % 2 ^ (W.snapSeq k.val).w ∧
        rd (W.snapId k.val) d = l.id % 2 ^ (W.snapId k.val).w ∧ rd (W.snapGtLo k.val) d = l.gt % 2 ^ (W.snapGtLo k.val).w ∧
        rd (W.snapSlot k.val j.val) d = Tab.get l.totals j.val 0 % 2 ^ (W.snapSlot k.val j.val).w ∧ sameBut [.tl, .regs] c d))

/-- O41: lanes and clocks of the links change state (R259, R262–R264, R289, R291): alignment and its loss, code and test-pattern errors,
the transmitter, and the clock lane. A group that is up and not switching goes DOWN with its lane or its clock. -/
def Obligations.LaneEventsComplete : Prop :=
  ∀ (s : State) (l : Fin 16) (t : Fin 20) (g : Fin 4) (sig : Bool),
    let c := s.chip
    let n := rd (P.laneLaneState l.val) c
    let falls (k : Nat) (d : Chip) : Prop := lgState k c ∈ [lgActive, lgStandby] → lgState k d = lgDown
    (n = laneAligning → completes (.laneAlign l) s (fun d =>
      rd (P.laneLaneState l.val) d = laneAligned ∧ on (P.laneSigDetect l.val) d = true ∧ sameBut [.lk, .regs] c d)) ∧
    (n = laneAligned → completes (.laneAlignLoss ⟨l, sig⟩) s (fun d => rd (P.laneLaneState l.val) d = laneAligning ∧
      on (P.laneSigDetect l.val) d = sig ∧ counted (P.laneAlignLossCount l.val) 1 c d ∧ falls (l.val / 4) d)) ∧
    (laneAligning ≤ n → rd (P.lanePattern l.val) c = 0 →
      completes (.codeError l .invalid) s (fun d => counted (P.laneCodeErrCount l.val) 1 c d ∧ sameBut [.lk, .regs, .now] c d) ∧
      completes (.codeError l .disparity) s (fun d => counted (P.laneDispErrCount l.val) 1 c d ∧ sameBut [.lk, .regs, .now] c d)) ∧
    (rd (P.lanePattern l.val) c ≠ 0 → c.md.mode = .bench → completes (.prbsError l) s (fun d =>
      counted (P.lanePrbsErrCount l.val) 1 c d ∧ fieldsBut [P.lanePrbsErrCount l.val] c d ∧ sameBut [.regs, .now] c d)) ∧
    ((Tab.find c.lk.wokenAt t.val).isSome = true → c.lk.txReady.contains t.val = false → completes (.transmitterReady t) s (fun d =>
      d.lk = { c.lk with txReady := c.lk.txReady ++ [t.val] } ∧ sameBut [.lk] c d)) ∧
    (laneAligning ≤ rd (P.ckLaneState g.val) c → completes (.clockLaneReturn g) s (fun d => on (P.ckCkPresent g.val) d = true ∧
      rd (P.ckLaneState g.val) d = laneAligned ∧ on (P.ckSigDetect g.val) d = true ∧ sameBut [.lk, .regs] c d)) ∧
    (on (P.ckCkPresent g.val) c = true → c.md.mode = .run → completes (.ckLoss g) s (fun d =>
      on (P.ckCkPresent g.val) d = false ∧ rd (P.ckLaneState g.val) d = laneAligning ∧ counted (P.ckCkLossCount g.val) 1 c d ∧
        falls g.val d))

/-- O42: groups come up, fail, train again and switch over (R260, R263, R264, R268, R281, R283, R284, R288): a group good for 1,024 ticks
becomes ACTIVE, or STANDBY beside a member of its pair that carries the traffic; a cause of failure brings it DOWN, its standby partner
taking over; 1,024 ticks later it trains; a switch-over's gap ends with the group ACTIVE, or DOWN at g + 400; discarded frames are counted. -/
def Obligations.GroupEventsComplete : Prop :=
  ∀ (s : State) (g : Fin 4) (skew t u : Nat) (same healthy : Bool) (why : FrameBad),
    let c := s.chip
    let x := groupOf g.val c
    let p := partner g.val
    let st (k : Nat) := lgState k c
    let comesUp : Prop := x.goodSince = some t ∧ st g = lgTraining ∧ t + 1024 ≤ c.clk ∧ skew ≤ 16 ∧
      groupGood g.val (wr (P.lgSkewMax g.val) skew c) = true
    let beside : Prop := paired g.val c = true ∧ st p ∈ [lgActive, lgSwitching]
    let tie : Prop := g.val < p ∧ st p = lgActive ∧ (groupOf p c).upAt = some c.clk
    let fails : Prop := failCause g.val c = true ∧ st g ∈ [lgActive, lgStandby]
    let takesOver : Prop := st g = lgActive ∧ paired g.val c = true ∧ st p = lgStandby ∧ inGap g.val c = false
    let took (d : Chip) : Prop := lgState g d = lgDown ∧ lgState p d = lgSwitching ∧ (groupOf p d).gapAt = some c.clk ∧
      counted (P.lgSwitchCount g.val) 1 c d ∧ on (P.lgSwitched g.val) d = true
    let down (d : Chip) : Prop := lgState g d = lgDown ∧ on (P.lgWentDown g.val) d = true ∧ counted (P.lgDownCount g.val) 1 c d ∧
      (groupOf g.val d).downAt = c.clk
    let crcs := x.crcFails.filter (fun t => c.clk < t + 1024) ++ [c.clk]
    let active (d : Chip) : Prop := lgState g d = lgActive ∧ (groupOf g.val d).upAt = some c.clk ∧
      portOf g.val d = { BeaconPort.reset with lastClk := (portOf g.val c).lastClk, missed := (portOf g.val c).missed }
    (comesUp → ¬ beside → completes (.groupUp g ⟨skew, same⟩) s (fun d => active d ∧ rd (P.lgSkewMax g.val) d = skew)) ∧
    (comesUp → beside → tie → completes (.groupUp g ⟨skew, true⟩) s (fun d => active d ∧ lgState p d = lgStandby)) ∧
    (comesUp → beside → ¬ tie → completes (.groupUp g ⟨skew, true⟩) s (fun d => lgState g d = lgStandby ∧ lgState p d = st p)) ∧
    (comesUp → beside → completes (.groupUp g ⟨skew, false⟩) s (fun d => lgState g d = lgTraining ∧ lgState p d = st p)) ∧
    (st g = lgTraining → 16 < skew → completes (.groupUp g ⟨skew, same⟩) s (fun d =>
      lgState g d = lgTraining ∧ on (P.lgDeskewFail g.val) d = true ∧ (groupOf g.val d).goodSince = none)) ∧
    (fails → takesOver → completes (.groupFail g) s took) ∧
    (fails → ¬ takesOver → completes (.groupFail g) s down) ∧
    (lgTraining ≤ st g → completes (.bufSlip g) s (fun d => on (P.lgBufSlip g.val) d = true ∧ (takesOver → took d) ∧
      (st g ∈ [lgActive, lgStandby] → ¬ takesOver → down d))) ∧
    (st g = lgDown → x.downAt + 1024 ≤ c.clk → completes (.downHoldEnd g) s (fun d =>
      lgState g d ∈ [lgOff, lgSleep, lgTraining] ∧ (on (P.lgLgEn g.val) c = false → lgState g d = lgOff) ∧
      (lanesAwake c = true → on (P.lgLgEn g.val) c = true → on (P.ckRxSleep g.val) c = false → rd (P.ckLaneState g.val) c < 4 →
        (∀ k : Fin 4, on (P.laneRxSleep (4 * g + k.val)) c = false ∧ rd (P.laneLaneState (4 * g + k.val)) c < 4) →
        lgState g d = lgTraining))) ∧
    (x.gapAt = some t → t + 64 ≤ c.clk → c.clk ≤ t + 400 → x.goodSince = some u → u + 64 ≤ c.clk →
      completes (.switchGapEnd g true) s (fun d => lgState g d = lgActive ∧ (groupOf g.val d).gapAt = none)) ∧
    (x.gapAt = some t → t + 400 ≤ c.clk → (healthy = false ∨ x.goodSince = none) →
      completes (.switchGapEnd g healthy) s (fun d => down d ∧ (groupOf g.val d).gapAt = none)) ∧
    (timingModes c = true → recvUp g.val c = true → hears g.val (.frameDiscard g why) c = true →
      (why = .badCrc → completes (.frameDiscard g why) s (fun d => counted (P.lgCrcErrCount g.val) 1 c d ∧
        (crcs.length < 4 → (groupOf g.val d).crcFails = crcs) ∧
        (4 ≤ crcs.length → (groupOf g.val d).crcFails = [] ∧ (st g ≠ lgSwitching → lgState g d = lgDown)))) ∧
      (why = .badSubtype → completes (.frameDiscard g why) s (fun d => counted (P.lgFrameBadCount g.val) 1 c d ∧
        counted (P.lgTimingFramesRx g.val) 1 c d ∧ sameBut [.regs, .now] c d)) ∧
      (why ≠ .badCrc → why ≠ .badSubtype → completes (.frameDiscard g why) s (fun d => counted (P.lgFrameBadCount g.val) 1 c d ∧
        on (P.lgFrameErr g.val) d = true ∧ sameBut [.regs, .now] c d)))

/-- O43: control frames act on a node that has not seen them (R273, R276, R277, R279, R283, R306, R307): switch-over, the answers to a join,
a leave, arms and fires of MESH trigger units; and a pending join is asked again. -/
def Obligations.ControlFramesAct : Prop :=
  ∀ (s : State) (rx : Rx) (k : Ctl) (t : Fin 8) (since : Nat),
    let c := s.chip
    let g := rx.lg.val
    let id := k.node.val
    let x := tuOf t.val c
    let gt := nearGt k.arg.toNat c.tl.gt
    let fresh (i : Instr) : Prop := timingHeard rx c = true ∧ hears g i c = true ∧ k.originSerial.toNat ≠ ownSerial ∧
      c.lk.seen.contains (k.originSerial.toNat, k.cseq.toNat) = false
    let mine : Prop := k.subjectSerial.toNat = ownSerial
    let unit (i : Instr) : Prop := fresh i ∧ bits k.arg.toNat 56 3 = t.val ∧ tuMesh t.val c = true
    (fresh (.switchFrame rx k) → lgState g c = lgStandby → paired g c = true → lgState (partner g) c = lgActive → inGap g c = false →
      completes (.switchFrame rx k) s (fun d => lgState g d = lgSwitching ∧ (groupOf g d).gapAt = some c.clk ∧
        lgState (partner g) d = (if bitAt k.arg.toNat 0 then lgStandby else lgDown) ∧ counted (P.lgSwitchCount (partner g)) 1 c d)) ∧
    (fresh (.joinReq rx k) → isAuthority c = true → (c.lk.holders.find? (fun p => p.2 == k.subjectSerial.toNat)) = none →
      k.nodeValid = true → Tab.find c.lk.holders id = none → completes (.joinReq rx k) s (fun d =>
        Tab.find d.lk.holders id = some k.subjectSerial.toNat ∧ bitAt (rd P.lnkNodeMap d) id = true ∧ d.lk.cseq = (c.lk.cseq + 1) % 256)) ∧
    (fresh (.joinAck rx k) → mine → completes (.joinAck rx k) s (fun d => rd P.lnkNodeId d = id ∧ on P.lnkNodeValid d = true ∧
      rd P.lnkJoinStatus d = 2 ∧ d.lk.joinFirst = none ∧ d.lk.joinBarred = false)) ∧
    (fresh (.joinNak rx k) → mine → completes (.joinNak rx k) s (fun d => rd P.lnkJoinStatus d = (if k.status = 1 then 3 else 4) ∧
      d.lk.joinFirst = none ∧ d.lk.joinBarred = true)) ∧
    (fresh (.leaveFrame rx k) → (on P.lnkNodeValid c = false ∨ rd P.lnkNodeId c ≠ id) → completes (.leaveFrame rx k) s (fun d =>
      bitAt (rd P.lnkNodeMap d) id = false ∧ counted P.lnkLeaveSeenCount 1 c d)) ∧
    (fresh (.leaveFrame rx k) → on P.lnkNodeValid c = true → rd P.lnkNodeId c = id → completes (.leaveFrame rx k) s (fun d =>
      on P.lnkNodeValid d = false ∧ d.lk.joinFirst = some c.clk ∧ rd P.lnkJoinStatus d = 1 ∧ counted P.lnkLeaveSeenCount 1 c d)) ∧
    (unit (.trigArm rx k) → bitAt k.arg.toNat 60 = false → c.tl.gt ≤ gt → x.state = 0 → schedRoom c = true →
      completes (.trigArm rx k) s (fun d => (tuOf t.val d).state = 1 ∧ d.tl.sched = c.tl.sched ++
        [{ act := .arm t.val, gt := gt, gt0 := false, vouched := vouched c, issuer := none }])) ∧
    (unit (.trigArm rx k) → bitAt k.arg.toNat 60 = false → (gt < c.tl.gt ∨ x.state ≠ 0 ∨ schedRoom c = false) →
      completes (.trigArm rx k) s (fun d => on (P.tuArmLate t.val) d = true ∧ d.aq = c.aq ∧ d.tl = c.tl)) ∧
    (unit (.trigArm rx k) → bitAt k.arg.toNat 60 = true →
      completes (.trigArm rx k) s (fun d => (tuOf t.val d).disarmAt = some (c.clk + max 1 (gt - c.tl.gt)))) ∧
    (unit (.trigFire rx k) → (x.state = 2 ∧ x.cands = [] ∨ x.state = 3 ∧ x.cands ≠ []) →
      completes (.trigFire rx k) s (fun d => (tuOf t.val d).state = 3 ∧
        (tuOf t.val d).cands = x.cands ++ [{ f := fireArg k.arg.toNat c.tl.gt, node := id, remote := true, word := 0 }])) ∧
    (unit (.trigFire rx k) → x.state < 2 → completes (.trigFire rx k) s (fun d =>
      counted (P.tuFireLateCount t.val) 1 c d ∧ d.aq = c.aq)) ∧
    (c.lk.joinFirst = some since → on P.lnkNodeValid c = false → since < c.clk → (c.clk - since) % 100000 = 0 →
      completes .joinRetry s (fun d => d.lk.joinLast = c.clk ∧ d.lk.joinFirst = some since ∧ d.lk.cseq = (c.lk.cseq + 1) % 256 ∧
        rd P.lnkJoinStatus d = if since + 1000000 ≤ c.clk then 5 else rd P.lnkJoinStatus c))

/-- O44: frames go out and come in (R230, R231, R265, R266, R271, R274, R282, R286–R288, R356): timing, outcome and bulk frames leave when
their turn comes, an outcome frame then also on the other member of its pair; received outcome records are applied, or held in a gap; an
expected bulk frame becomes a ring entry, another one is counted and acknowledged; acknowledgements and resends move the channel on. -/
def Obligations.FramesAreCarried : Prop :=
  ∀ (s : State) (g : Fin 4) (rx : Rx) (ch : Fin 64) (next : BitVec 16) (recs : List (BitVec 64)) (w : BitVec 64) (r : Fin 256) (b : Bulk)
      (t : Timing) (f : BulkFrame) (fs : List BulkFrame) (out : List Nat) (rest : List (List Nat)),
    let c := s.chip
    let y := groupOf g.val c
    let q := outQueue g.val c
    let up : Prop := trafficModes c = true ∧ (recvUp g.val c = true ∨ inGap g.val c = true)
    let comes (i : Instr) : Prop := rx.lg = g ∧ up ∧ hears g.val i c = true
    let frames (ty : Nat) (mirror : Bool) (ws : List Nat) (d : Chip) : Prop := d.out = c.out ++
      [.frame g.val ((List.range 4).map (fun k => lanePins g.val k (laneChars k (startBytes ty mirror ws.length c) ws) c))]
    let starts (d : Chip) : Prop := (groupOf g.val d).period = some (c.tl.gt / 8)
    let idle : Prop := trafficModes c = true ∧ sendMember g.val c = g.val ∧ txUp g.val c = true ∧ c.tl.gt % 8 = 0 ∧
      lineFree g.val c = true ∧ y.period ≠ some (c.tl.gt / 8) ∧ q = [] ∧ y.mirror = [] ∧ nextTiming g.val c = none ∧
      beaconDue g.val c = false
    let quiet : Prop := nextAck g.val c = none ∧ paused c = false
    let x := txOf g.val ch.val c
    let others (p : BulkTx → Prop) : Prop := ∀ j : Fin 64, j ≠ ch → p (txOf g.val j.val c)
    let done (f : BulkFrame) : Bool := let d := (next.toNat + 2 ^ 16 - f.bseq) % 2 ^ 16; decide (1 ≤ d ∧ d ≤ 2 ^ 15)
    let z := rxOf g.val b.chan.val c
    let n := rd (P.rxRxRing g.val b.chan.val) c
    let ring := ringOf n c
    let whole : Prop := 1 ≤ b.dataLen ∧ b.dataLen ≤ 56 ∧ b.data.length = b.dataLen
    (timingMay g.val c = true → beaconDue g.val c = false → nextTiming g.val c = some t →
      completes (.timingFrameTx g) s (fun d => frames (if t.kind == .snapshot then 3 else 4) (asStandby g.val c) t.words d ∧
        (groupOf g.val d).timing = y.timing.erase t ∧ (groupOf g.val d).lastTiming = some c.clk ∧
        counted (P.lgTimingFramesTx g.val) 1 c d ∧ sameBut [.free, .lk, .regs, .now, .out] c d)) ∧
    (outcomeMay g.val c = true → y.mirror = [] → sendMember g.val c = g.val → outcomeStart g.val c = true → q ≠ [] →
      completes (.outcomeFrameTx g) s (fun d => frames 2 false (q.take 8) d ∧ outQueue g.val d = q.drop 8 ∧ starts d ∧
        counted (P.lgOutFramesTx g.val) 1 c d ∧ (paired g.val c = true → txUp (partner g.val) c = true →
          (groupOf (partner g.val) d).mirror = (groupOf (partner g.val) c).mirror ++ [q.take 8]))) ∧
    (outcomeMay g.val c = true → y.mirror = out :: rest → completes (.outcomeFrameTx g) s (fun d =>
      frames 2 (asStandby g.val c) out d ∧ (groupOf g.val d).mirror = rest ∧ starts d ∧ counted (P.lgOutFramesTx g.val) 1 c d)) ∧
    (comes (.outcomeFrameRx rx recs) → 1 ≤ recs.length → recs.length ≤ 8 → completes (.outcomeFrameRx rx recs) s (fun d =>
      counted (P.lgOutFramesRx g.val) 1 c d ∧ (lgState g.val c = lgStandby → inGap g.val c = false → d.oc = c.oc) ∧
      ((lgState g.val c ≠ lgStandby ∨ inGap g.val c = true) → anyGap c = true →
        d.oc.held = c.oc.held ++ recs.map (fun w => { lg := g.val, word := w.toNat })))) ∧
    (comes (.outcomeFrameRx rx [w]) → lgState g.val c ≠ lgStandby → anyGap c = false → completes (.outcomeFrameRx rx [w]) s (fun d =>
      (rregTakes r.val w.toNat c = true → rd (P.rrRregVal r.val) d = bits w.toNat 0 2 ∧ rd (P.rrRregFlags r.val) d = bits w.toNat 2 4 ∧
        on (P.rrRregValid r.val) d = true) ∧
      ((∀ r : Fin 256, rregTakes r.val w.toNat c = false) → counted P.outRemoteIgnored 1 c d))) ∧
    (idle → nextAck g.val c = some ch.val → completes (.bulkFrameTx g) s (fun d =>
      frames 6 false [ch.val + (rxOf g.val ch.val c).next * 2 ^ 16] d ∧ (rxOf g.val ch.val d).ackDue = false ∧ starts d)) ∧
    (idle → quiet → others (fun x => x.resend = []) → x.resend = f :: fs → completes (.bulkFrameTx g) s (fun d =>
      frames 5 false (bulkWords ch.val f) d ∧ (txOf g.val ch.val d).resend = fs ∧ counted (P.lgBulkTxCount g.val) 1 c d ∧
        counted (P.lgBulkResentCount g.val) 1 c d ∧ starts d)) ∧
    (idle → quiet → others (fun x => x.resend = [] ∧ x.waiting = []) → x.resend = [] → x.waiting = f :: fs → unackedOf g.val c < 64 →
      completes (.bulkFrameTx g) s (fun d => frames 5 false (bulkWords ch.val f) d ∧ (txOf g.val ch.val d).waiting = fs ∧
        (txOf g.val ch.val d).unacked = x.unacked ++ [f] ∧ counted (P.lgBulkTxCount g.val) 1 c d ∧ starts d)) ∧
    (comes (.bulkFrameRx rx b) → whole → b.bseq.toNat = z.next → rxRoom g.val b.chan.val c = true →
      completes (.bulkFrameRx rx b) s (fun d => (rxOf g.val b.chan.val d).next = (z.next + 1) % 2 ^ 16 ∧
        (rxOf g.val b.chan.val d).ackDue = true ∧ counted (P.lgBulkRxCount g.val) 1 c d ∧
        .hostWrite ring.fn (ringAddr ring 64 ring.pidx) (rxEntry g.val b c.tl.gt) ∈ d.out ∧
        (ringOf n d).pidx = (ring.pidx + 1) % 2 ^ (ring.log2 + 1))) ∧
    (comes (.bulkFrameRx rx b) → whole → b.bseq.toNat = z.next → rxRoom g.val b.chan.val c = false →
      completes (.bulkFrameRx rx b) s (fun d => counted (P.rxRxRingFullCount g.val) 1 c d ∧ d.lk = c.lk)) ∧
    (comes (.bulkFrameRx rx b) → whole → b.bseq.toNat ≠ z.next → completes (.bulkFrameRx rx b) s (fun d =>
      rxOf g.val b.chan.val d = { z with ackDue := true } ∧ counted (P.lgBulkDiscardCount g.val) 1 c d)) ∧
    (comes (.bulkAck rx ch next) → x.unacked.any done = true → completes (.bulkAck rx ch next) s (fun d => txOf g.val ch.val d =
      { x with unacked := x.unacked.filter (fun f => !done f), resend := x.resend.filter (fun f => !done f), since := c.clk })) ∧
    (x.unacked ≠ [] → x.since + 4096 ≤ c.clk → completes (.bulkResend g ch) s (fun d =>
      txOf g.val ch.val d = { x with resend := x.unacked, since := c.clk } ∧ sameBut [.lk] c d))

/-- O45: descriptors go through a channel (R348, R350–R353, R355, R358–R360): fetched, started, refused when malformed, completed with a record, and
the record written later when the completion ring had no room. -/
def Obligations.DescriptorsComplete : Prop :=
  ∀ (s : State) (ch : Fin 64) (q : Desc) (w : Work) (e : Nat) (h : Held),
    let c := s.chip
    let k := chanOf ch.val c
    let sr := ringOf (rd (P.dchSubRing ch.val) c) c
    let r := rd (P.dchComplRing ch.val) c
    let cr := ringOf r c
    let firstRead := min (descLen q) (4096 - descSrc q % 4096)
    let told (h : Held) (d : Chip) : Prop := .hostWrite cr.fn (ringAddr cr 32 cr.pidx) (complRec ch.val cr h) ∈ d.out ∧
      (ringOf r d).pidx = (cr.pidx + 1) % 2 ^ (cr.log2 + 1) ∧ (ringOf r d).seq = (cr.seq + 1) % 2 ^ 16
    let recd (status : Nat) : Held := { status := status, doneGt := c.tl.gt, tag := descTag w.desc, bytes := w.moved,
                                        atomic := descAtomic w.desc, barrier := descBarrier w.desc, irq := descIrq w.desc }
    (dmaModes c = true → on (P.dchChAssigned ch.val) c = true → on (P.dchChHalted ch.val) c = false → sr.ty = 3 → sr.run = true →
      1 ≤ ringUsed sr → inFlight k < 64 → completes (.descriptorFetch ch q) s (fun d =>
        chanOf ch.val d = { k with fetched := k.fetched ++ [q] } ∧
        (ringOf (rd (P.dchSubRing ch.val) c) d).cidx = (sr.cidx + 1) % 2 ^ (sr.log2 + 1) ∧ sameBut [.dma, .rings, .out] c d)) ∧
    (k.fetched = [q] → k.aborting = false → mayStart ch.val q c = true → badDesc ch.val q = false → descSrcSp q = 1 → descDstSp q ≠ 2 →
      descAtomic q = false → completes (.descriptorStart ch) s (fun d =>
        chanOf ch.val d = { k with fetched := [], work := some (Work.start q) } ∧ (descWaitEv q = true → on (P.dchEvPending ch.val) d = false) ∧
        sameBut [.dma, .regs] c d)) ∧
    (k.fetched = [q] → k.aborting = false → mayStart ch.val q c = true → badDesc ch.val q = false → descSrcSp q = 0 → descDstSp q ≠ 2 →
      descLen q ≠ 0 → completes (.descriptorStart ch) s (fun d =>
        chanOf ch.val d = { k with fetched := [], work := some { Work.start q with asked := firstRead } } ∧
        d.out = c.out ++ [.hostRead sr.fn (descSrc q) firstRead] ∧ (descAtomic q = true → d.dma.atomic = some ch.val))) ∧
    (k.fetched = [q] → k.aborting = false → mayStart ch.val q c = true → badDesc ch.val q = true → completes (.descriptorStart ch) s (fun d =>
      (chanOf ch.val d).work = none ∧ (chanOf ch.val d).fetched = [] ∧ counted P.dmaBadDescCount 1 c d ∧
        rd (P.dchLastStatus ch.val) d = Dm.badDesc ∧ on (P.dchChErr ch.val) d = true ∧ counted (P.dchDescErr ch.val) 1 c d)) ∧
    (dmaModes c = true → k.work = some w → k.held = none → completesWith w c = some Dm.ok →
      completes (.descriptorComplete ch) s (fun d => (chanOf ch.val d).work = none ∧ counted (P.dchDescDone ch.val) 1 c d ∧
        (descShelfEn w.desc = true → rd (P.shelfState (descShelf w.desc)) c ≠ shelfActive → rd (P.shelfLength (descShelf w.desc)) c ≠ 0 →
          rd (P.shelfState (descShelf w.desc)) d = shelfValid) ∧
        (complRoom ch.val c = true → told (recd Dm.ok) d ∧ (chanOf ch.val d).held = none) ∧
        (complRoom ch.val c = false → (chanOf ch.val d).held = some (recd Dm.ok)))) ∧
    (dmaModes c = true → k.work = some w → completesWith w c = some e → e ≠ Dm.ok → e < 256 → completes (.descriptorComplete ch) s (fun d =>
      (chanOf ch.val d).work = none ∧ counted (P.dchDescErr ch.val) 1 c d ∧ rd (P.dchLastStatus ch.val) d = e ∧
        rd (P.dchLastErrTag ch.val) d = descTag w.desc % 2 ^ 64 ∧ on (P.dchChErr ch.val) d = true ∧ on W.dmaErr d = true ∧
        (on (P.dchStopOnErr ch.val) c = true → e ≠ Dm.aborted → on (P.dchChHalted ch.val) d = true) ∧
        (complRoom ch.val c = true → told (recd e) d))) ∧
    (dmaModes c = true → k.held = some h → complRoom ch.val c = true → completes (.completionRecordWrite ch) s (fun d =>
      chanOf ch.val d = { k with held := none } ∧ told h d))

/-- O46: bytes move (R75, R241, R349, R351, R352, R354, R362–R364): a burst writes host memory from SRAM, or SRAM from the host's bytes unless
an ACTIVE shelf holds the place; the control store gives zeros; host data arrives, the next read is asked for, or it fails; and the bulk
port goes to the request with the highest score, the lower number among equals, which keeps it. -/
def Obligations.BurstsMoveBytes : Prop :=
  ∀ (s : State) (ch : Fin 64) (w : Work) (cls : Nat) (cr : List Nat) (bs : List (BitVec 8)) (p q : Requester) (t u : BitVec 64),
    let c := s.chip
    let k := chanOf ch.val c
    let n := burstSize w
    let fn := (ringOf (rd (P.dchSubRing ch.val) c) c).fn
    let src := descSrc w.desc + w.moved
    let dst := descDst w.desc + w.moved
    let bursts : Prop := dmaModes c = true ∧ portFree c = true ∧ streamWins c = false ∧ nextBurst c = some (cls, ch.val, cr) ∧ k.work = some w
    let ends := c.clk + (n + 63) / 64
    let begun : Chip := { c with dma := { c.dma with credit := cr.set cls (cr.getD cls 0 - 1), last := c.dma.last.set cls ch.val,
                                                     burstAt := some ends, ask := some ends } }
    let works (w : Work) (d : Chip) : Prop := d.dma = (setChan ch.val { k with work := some w } begun).dma
    let moves (d : Chip) : Prop := works { w with moved := w.moved + n, arrived := w.arrived.drop n } d
    let stops (e : Nat) (d : Chip) : Prop := works { w with status := some e } d
    let toShelves : Prop := descSrcSp w.desc = 0 ∧ descDstSp w.desc = 1 ∧ regionOf dst = some .shelves
    let bytes := w.arrived.take n
    let due := w.asked - w.moved - w.arrived.length
    let all := w.arrived ++ bs.take due
    let heard : Work := { w with arrived := all, gathered := descAtomic w.desc && w.moved + all.length == descLen w.desc }
    let next := min (descLen w.desc - w.asked) (4096 - (descSrc w.desc + w.asked) % 4096)
    let awaits : Prop := dmaModes c = true ∧ k.work = some w ∧ w.status = none ∧ w.barrierAsked = false ∧ descSrcSp w.desc = 0
    let score (r : Requester) (t : BitVec 64) : Nat := c.clk - t.toNat + rd (P.arbArbBias (reqNo r)) c
    let stamped : Prop := p ≠ q ∧ t.toNat ≤ c.clk ∧ u.toNat ≤ c.clk
    (bursts → descSrcSp w.desc = 1 → descDstSp w.desc = 0 → w.gathered = false → readRefused src n = none →
      completes (.dmaBurst ch) s (fun d => moves d ∧ d.out = c.out ++ [.hostWrite fn dst (memGet c.mem src n)] ∧
        sameBut [.dma, .out] c d)) ∧
    (bursts → readsZero w.desc = true → descDstSp w.desc = 0 → completes (.dmaBurst ch) s (fun d => stops Dm.isProtected d ∧
      d.out = c.out ++ [.hostWrite fn dst (List.replicate n 0)] ∧ sameBut [.dma, .out] c d)) ∧
    (bursts → toShelves → inActiveShelf dst bytes.length begun = false → completes (.dmaBurst ch) s (fun d => moves d ∧
      memGet d.mem dst bytes.length = bytes ∧ bytesBut dst bytes.length c d ∧ sameBut [.dma, .mem] c d)) ∧
    (bursts → toShelves → inActiveShelf dst bytes.length begun = true → completes (.dmaBurst ch) s (fun d => stops Dm.shelfActive d ∧
      counted P.wfWfWrRefused 1 c d ∧ d.mem = c.mem)) ∧
    (awaits → w.asked = descLen w.desc → completes (.hostReadCompletion ch (.data bs)) s (fun d =>
      chanOf ch.val d = { k with work := some heard } ∧ sameBut [.dma] c d)) ∧
    (awaits → w.asked < descLen w.desc → due ≤ bs.length → completes (.hostReadCompletion ch (.data bs)) s (fun d =>
      chanOf ch.val d = { k with work := some { heard with asked := w.asked + next } } ∧
        d.out = c.out ++ [.hostRead fn (descSrc w.desc + w.asked) next] ∧ sameBut [.dma, .out] c d)) ∧
    (dmaModes c = true → k.work = some w → w.status = none → (w.barrierAsked = true ∨ descSrcSp w.desc = 0) →
      completes (.hostReadCompletion ch .error) s (fun d =>
        chanOf ch.val d = { k with work := some { w with status := some Dm.hostErr } } ∧ on W.pcieAer d = true)) ∧
    (stamped → (score q u < score p t ∨ (score q u = score p t ∧ reqNo p < reqNo q)) → c.dma.owner = none →
      completes (.bulkPortDecision [(p, t), (q, u)] []) s (fun d => d.dma.owner = some (reqNo p) ∧ counted (P.arbArbGrants (reqNo p)) 1 c d ∧
        sameBut [.dma, .regs, .now] c d)) ∧
    (stamped → c.dma.owner = some (reqNo q) → Tab.find c.dma.stamps (reqNo q) = some u.toNat →
      completes (.bulkPortDecision [(p, t), (q, u)] []) s (fun d => d.dma.owner = some (reqNo q) ∧ sameBut [.dma] c d))

/-- O47: the host's accesses and the rings (R10, R331, R333, R335, R337, R338, R341, R342, R344, R345, R369, R459): a doorbell moves its index and may
arm, RING_RUN starts and stops a ring, BAR0 writes clear event flags and set rings, a BAR2 write
sets a vector's mask (the family's MSI-X layout, log), a read returns what its window holds, one of a bad size 0 and is counted, an
armed ring that waited long enough sends its vector, and a bootstrap ring is restored. -/
def Obligations.HostAccessesComplete : Prop :=
  ∀ (s : State) (fn : Fin 64) (r : Fin 16384) (v : BitVec 32) (v64 : BitVec 64) (off : BitVec 21) (b : BarNo) (size t : Nat) (k : Fin 16)
    (speed width : BitVec 3),
    let c := s.chip
    let x := ringOf r.val c
    let i := v.toNat % 2 ^ 17
    let m := 2 ^ (x.log2 + 1)
    let live : Prop := inModes [.reset, .boot, .shutdown] c = false
    let moved : Ring := if hostProduces x then { x with pidx := i } else { x with cidx := i }
    let ring (y : Ring) (d : Chip) : Prop := ringOf r.val d = y ∧ (∀ q : Nat, q ≠ r.val → ringOf q d = ringOf q c) ∧ sameBut [.rings] c d
    (live → reaches fn.val r.val c = true → x.ty ≠ 0 → x.run = true → i < m →
      (if hostProduces x then (i + m - x.pidx) % m ≤ 2 ^ x.log2 - ringUsed x else (i + m - x.cidx) % m ≤ ringUsed x) →
      completes (.doorbell fn r v) s (ring (if bitAt v.toNat 31 && !x.armed then { moved with armed := true, since := 0, firstAt := none }
        else moved))) ∧
    (live → reaches fn.val r.val c = true → x.base % 64 = 0 → 6 ≤ x.log2 → x.log2 ≤ 16 → x.vector < tableSize x.fn →
      completes (.ringRun fn r true) s (ring { x with run := true, pidx := 0, cidx := 0, seq := 0, since := 0, firstAt := none })) ∧
    (live → reaches fn.val r.val c = true → completes (.ringRun fn r false) s (ring { x with run := false })) ∧
    (c.md.mode ≠ .reset → c.now.set = [] → completes (.registerWrite 0 ⟨.bar0, 0x10004⟩ 4 v64) s (fun d => ∀ k : Fin 9,
      rd ⟨bar 0x10004, k.val, 1, 0⟩ d = if bitAt v64.toNat k.val then 0 else rd ⟨bar 0x10004, k.val, 1, 0⟩ c)) ∧
    (live → reaches fn.val r.val c = true → x.run = false → off.toNat = 0x100000 + 64 * r.val →
      completes (.registerWrite fn ⟨.bar0, off⟩ 8 v64) s (fun d => (ringOf r.val d).base % 2 ^ 64 = v64.toNat ∧ (ringOf r.val d).run = false ∧
        (∀ q : Nat, q ≠ r.val → ringOf q d = ringOf q c) ∧ sameBut [.rings] c d)) ∧
    (off.toNat = 16 * k.val + 12 → c.hostPba.contains (fn.val, k.val) = false → completes (.registerWrite fn ⟨.bar2, off⟩ 4 v64) s (fun d =>
      msixOf fn.val k.val d = { msixOf fn.val k.val c with masked := bitAt v64.toNat 0 } ∧
        (∀ q : Nat, q ≠ msixKey fn.val k.val → Tab.get d.hostMsix q Msix.reset = Tab.get c.hostMsix q Msix.reset) ∧
        sameBut [.hostMsix] c d)) ∧
    (c.md.mode ≠ .reset → goodAccess off.toNat size = false → completes (.barBadRead fn ⟨b, off⟩ size) s (fun d =>
      d.out = c.out ++ [.barRead fn.val b off.toNat 0] ∧ counted P.hstBarBadAccess 1 c d ∧ fieldsBut [P.hstBarBadAccess] c d)) ∧
    (goodAccess off.toNat size = true → completes (.barBadRead fn ⟨b, off⟩ size) s (fun d =>
      d.out = c.out ++ [.barRead fn.val b off.toNat (barValue fn.val b off.toNat size c)] ∧ sameBut [.out] c d)) ∧
    (live → x.firstAt = some t → x.ty ≠ 0 → hostProduces x = false → x.run = true → x.armed = true → x.coalTime ≠ 0 →
      t + 1000 * x.coalTime ≤ c.clk → (msixOf x.fn x.vector c).masked = false → completes (.coalTimeExpiry r) s (fun d =>
        ringOf r.val d = { x with armed := false } ∧ d.out = c.out ++ [.vector x.fn x.vector (msixOf x.fn x.vector c).addr (msixOf x.fn x.vector c).data])) ∧
    (live → (ringOf (2 * fn.val) c).ty = 0 → (ringOf (2 * fn.val + 1) c).ty = 0 → completes (.bootstrapRingRestore fn) s (fun d =>
      ringOf (2 * fn.val) d = { Ring.reset with ty := 1, fn := fn.val } ∧ ringOf (2 * fn.val + 1) d = { Ring.reset with ty := 2, fn := fn.val } ∧
        sameBut [.rings] c d)) ∧
    (1 ≤ speed.toNat → speed.toNat ≤ 5 → mayTrain c = true → (width = 1 ∨ width = 2 ∨ width = 4) → completes (.pcieLinkChange speed width) s (fun d =>
      rd W.linkSpeed d = speed.toNat ∧ rd W.linkWidth d = width.toNat ∧ fieldsBut [W.linkSpeed, W.linkWidth] c d ∧ sameBut [.regs] c d))

/-- O48: sessions and their resources (R370, R371, R374–R376): a session opens on free rings and closes, INFO answers, rings and DMA channels
are given and given back. Which free resource is given is Llynlek's choice. -/
def Obligations.SessionsHoldResources : Prop :=
  ∀ (s : State) (h : Cmd) (cr rr : Nat) (f : Fin 64) (n : Fin 1024) (ses : BitVec 10) (ty : BitVec 3) (ring : BitVec 14) (ch : BitVec 6),
    let c := s.chip
    let roomy : Prop := 2 ≤ (freeRings c).length
    (taken h 0x01 1 false cr rr c → h.mb = .boot f → (∃ k : Fin 1024, Tab.find c.mb.sessions k.val = none) → roomy →
      completes (.sessionOpen h) s (fun d => ∃ k q r : Nat, k < 1024 ∧ Tab.find c.mb.sessions k = none ∧ q ∈ freeRings c ∧ r ∈ freeRings c ∧
        q ≠ r ∧ answered h 0x01 St.ok [k, q, r] c d ∧ Tab.find d.mb.sessions k = some { fn := f.val, cmdRing := q, rspRing := r } ∧
        ringOf q d = { Ring.reset with ty := 1, fn := f.val, ses := k } ∧ ringOf r d = { Ring.reset with ty := 2, fn := f.val, ses := k })) ∧
    (taken h 0x02 1 false cr rr c → h.mb = .ses n → completes (.sessionClose h ses) s (fun d =>
      answered h 0x02 St.ok [] c d ∧ Tab.find d.mb.sessions n.val = none)) ∧
    (taken h 0x03 1 false cr rr c → completes (.info h) s (answered h 0x03 St.ok
      [Config.deviceSerial % 2 ^ 32 + rd P.mcBaseVer c * 2 ^ 32, rd P.secLlynVer c, modeCode c.md.mode] c)) ∧
    (taken h 0x10 1 false cr rr c → h.mb = .ses n → (ty = 4 ∨ ty = 5 ∨ ty = 6) → freeRings c ≠ [] → completes (.ringAlloc h ty) s (fun d =>
      ∃ r ∈ freeRings c, answered h 0x10 St.ok [r] c d ∧
        ringOf r d = { Ring.reset with ty := ty.toNat, fn := mboxFn h.mb c, ses := n.val })) ∧
    (taken h 0x11 1 false cr rr c → h.mb = .ses n → holdsRing n.val ring.toNat c = true → ringBusy n.val ring.toNat c = false →
      completes (.ringFree h ring) s (fun d => answered h 0x11 St.ok [] c d ∧ (ringOf ring.toNat d).ty = 0)) ∧
    (taken h 0x12 1 false cr rr c → h.mb = .ses n → (∃ k : Fin 64, on (P.dchChAssigned k.val) c = false) → roomy →
      completes (.dmaAlloc h 0) s (fun d => ∃ k q r : Nat, k < 64 ∧ on (P.dchChAssigned k) c = false ∧ q ∈ freeRings c ∧ r ∈ freeRings c ∧
        q ≠ r ∧ answered h 0x12 St.ok [k, q, r] c d ∧ on (P.dchChAssigned k) d = true ∧ rd (P.dchSubRing k) d = q ∧
        rd (P.dchComplRing k) d = r ∧ (ringOf q d).ty = 3 ∧ (ringOf r d).ty = 4 ∧ chanOf k d = { Chan.reset with ses := n.val })) ∧
    (taken h 0x13 1 false cr rr c → h.mb = .ses n → on (P.dchChAssigned ch.toNat) c = true → (chanOf ch.toNat c).ses = n.val →
      inFlight (chanOf ch.toNat c) = 0 → completes (.dmaFree h ch) s (fun d => answered h 0x13 St.ok [] c d ∧
        on (P.dchChAssigned ch.toNat) d = false))

/-- O49: parameters, drawers, groups and snapshots by command (R55, R56, R378–R380, R382, R384, R385, R387, R388): reads and writes, a write that waits in a
drawer, and the commands that schedule their action and say so. -/
def Obligations.ParametersAndDrawersAnswer : Prop :=
  ∀ (s : State) (h : Cmd) (cr rr : Nat) (n : Fin 1024) (id : BitVec 32) (v gt : BitVec 64) (w : BitVec 16) (dr : BitVec 16) (x : Drawer)
      (t : Fin 8) (k : Fin 24) (sid : BitVec 16),
    let c := s.chip
    let owns : Prop := h.mb = .ses n ∧ Tab.find c.mb.drawers dr.toNat = some x ∧ x.owner = n.val
    let f := P.tuValue t.val
    let o := P.flxFlxOffset k.val
    let full : Nat := 2 ^ 16 - 1
    let wrote (d : Chip) : Prop := rd f d = v.toNat ∧ rd P.sysAuditTotal d = (rd P.sysAuditTotal c + 1) % 2 ^ P.sysAuditTotal.w
    (taken h 0x20 1 false cr rr c → (fieldsOf id.toNat).isEmpty = false → peekNeeded id.toNat (consumed h c) = none →
      completes (.paramGet h id 0) s (answered h 0x20 St.ok [(readParam id.toNat (consumed h c)).1, 0] c)) ∧
    (taken h 0x20 1 false cr rr c → owns → dr ≠ 0 → (fieldsOf id.toNat).isEmpty = false → x.entries.find? (fun e => e.id == id.toNat) = none →
      completes (.paramGet h id dr) s (answered h 0x20 St.ok [0, 0] c)) ∧
    (taken h 0x21 1 true cr rr c → passes h f.id v.toNat (2 ^ 64 - 1) c → completes (.paramSet h (BitVec.ofNat 32 f.id) v (-1) 0) s (fun d =>
      answered h 0x21 St.ok [] c d ∧ wrote d)) ∧
    (taken h 0x21 1 true cr rr c → owns → dr ≠ 0xFFFF → passes h o.id w.toNat full c → x.entries = [] →
      completes (.paramSet h (BitVec.ofNat 32 o.id) (BitVec.ofNat 64 w.toNat) (BitVec.ofNat 64 full) dr) s (fun d =>
        answered h 0x21 St.ok [] c d ∧ rd o d = rd o c ∧
        Tab.find d.mb.drawers dr.toNat = some { x with entries := [{ id := o.id, value := w.toNat, mask := full }] })) ∧
    (taken h 0x22 1 true cr rr c → passes h f.id v.toNat (2 ^ 64 - 1) c →
      completes (.paramList h 1 0 (some [{ id := BitVec.ofNat 32 f.id, gap := 0, value := v, mask := -1 }])) s (fun d =>
        answered h 0x22 St.ok [1, 0] c d ∧ wrote d)) ∧
    (taken h 0x30 1 false cr rr c → h.mb = .ses n → dr ≠ 0 → dr ≠ 0xFFFF → Tab.find c.mb.drawers dr.toNat = none → c.mb.drawers.length < 64 →
      completes (.drawerOpen h dr) s (fun d => answered h 0x30 St.ok [] c d ∧
        Tab.find d.mb.drawers dr.toNat = some { owner := n.val, entries := [] })) ∧
    (taken h 0x31 1 false cr rr c → owns → completes (.drawerClose h dr) s (fun d => answered h 0x31 St.ok [x.entries.length] c d ∧
      Tab.find d.mb.drawers dr.toNat = none ∧ ∀ e ∈ d.tl.sched, e.act ≠ .drawer dr.toNat)) ∧
    (taken h 0x32 2 true cr rr c → owns → schedTests gt.toNat 1000 c = none → completes (.txnCommit h dr gt) s (fun d =>
      acceptedAt h 0x32 [] c d ∧ d.tl.sched = c.tl.sched ++ [{ act := .drawer dr.toNat, gt := namedGt gt.toNat c, gt0 := gt.toNat == 0,
                                                               vouched := vouched c, issuer := some (entryIssuer h 0x32 c) }])) ∧
    (taken h 0x33 2 true cr rr c → (groupOfId id.toNat).isSome = true → completes (.groupMode h id 2 gt) s
      (answered h 0x33 St.ok [b2n (inAdapt id.toNat c)] c)) ∧
    (taken h 0x33 2 true cr rr c → (groupOfId id.toNat).isSome = true → inAdapt id.toNat c = true → schedRoom c = true →
      completes (.groupMode h id 0 0) s (fun d => acceptedAt h 0x33 [1] c d ∧ d.tl.sched = c.tl.sched ++
        [{ act := .group id.toNat false, gt := c.tl.gt + 1, gt0 := true, vouched := vouched c, issuer := some (entryIssuer h 0x33 c) }])) ∧
    (taken h 0x41 2 false cr rr c → c.tl.gt + 1000 ≤ gt.toNat → c.tl.snaps = [] → schedRoom c = true →
      completes (.snapshotAt h gt false sid) s (fun d => acceptedAt h 0x41 [sid.toNat] c d ∧ d.tl.snaps =
        [{ gt := gt.toNat, id := sid.toNat, mesh := false, node := rd P.lnkNodeId c, issuers := [entryIssuer h 0x41 c] }]))

/-- O50: the commands that keep or prove something (R111, R140, R172, R391, R392, R396, R397, R408, R409, R416, R418): the Cabinet's requests, the
loading of an image, attestation, the audit log and the fuses. -/
def Obligations.SavesAndProofsComplete : Prop :=
  ∀ (s : State) (h : Cmd) (cr rr : Nat) (o : Fin 32) (v : BitVec 64) (b : BoardRec) (img : CfgImage) (addr len : BitVec 64)
      (nonce : List (BitVec 64)) (e : Fin 24) (ack : BitVec 48) (slots : BitVec 4),
    let c := s.chip
    let recs := imageRecs (consumed h c)
    let blocks := (68 + 16 * recs.length + 4095) / 4096
    let i := entryIssuer h 0x21 c
    let asks (data : NvData) (blocks : Nat) (i : List Issuer) (board : Bool) : NvReq :=
      { data := data, blocks := blocks, issuers := i, periodic := false, board := board }
    let empty : Prop := c.nv.queue = []
    let p := P.biaPuCode o.val
    let n := rd P.sysAuditTotal c
    (taken h 0x50 1 true cr rr c → c.md.mode ≠ .fallback → recs.length ≤ 65535 → tjInWindow c = true → c.mb.cfgSaveAt = none → empty →
      completes (.cfgSave h) s (fun d => d.mb.cfgSaveAt = some c.clk ∧ d.nv.queue =
        [asks (.config 0 recs) blocks [{ entryIssuer h 0x50 c with res := [recs.length, blocks] }] false])) ∧
    (taken h 0x51 1 true cr rr c → (c.md.mode = .fallback ∨ c.md.mode = .standby) → img.headerOk = true → img.lengthOk = true →
      img.checkOk = true → (applyImage img.recs (consumed h c)).isSome = true → completes (.cfgLoad h true img) s (fun d =>
        answered h 0x51 St.ok [img.recs.length] c d ∧ d.nv.cfgCheck = img.check.toNat ∧ d.md.cfgPassed = true ∧ on P.sysCfgLoaded d = true)) ∧
    (taken h 0x60 1 false cr rr c → 3200 ≤ len.toNat → completes (.attest h addr len 1 nonce) s (fun d =>
      answered h 0x60 St.ok [3200] c d ∧ .hostWrite (mboxFn h.mb c) addr.toNat certBytes ∈ d.out)) ∧
    (taken h 0x60 1 false cr rr c → 1536 ≤ len.toNat → completes (.attest h addr len 0 nonce) s (fun d =>
      answered h 0x60 St.ok [1536] c d ∧ ∃ sig : List Byte, sig.length = 1280 ∧
        .hostWrite (mboxFn h.mb c) addr.toNat (reportBytes (nonce.map (·.toNat)) c ++ sig) ∈ d.out)) ∧
    (inModes [.reset, .boot, .shutdown] c = false → c.mb.auditAt + 2 ^ 46 ≤ c.clk → completes .auditTimeEntry s (fun d =>
      rd P.sysAuditTotal d = (n + 1) % 2 ^ P.sysAuditTotal.w ∧ d.mb.auditAt = c.clk ∧ bytesBut (auditBase + 28 * (n % 32768)) 28 c d ∧
        memGet d.mem (auditBase + 28 * (n % 32768)) 28 = leBytes 6 (c.tl.gt % 2 ^ 48) ++ leBytes 2 2 ++ leBytes 4 0 ++ leBytes 8 0 ++ leBytes 8 0)) ∧
    (taken h 0x21 1 true cr rr c → passes h P.sysAuditAck.id ack.toNat (2 ^ 48 - 1) c → completes (.auditAck h ack) s (fun d =>
      answered h 0x21 St.ok [] c d ∧ rd P.sysAuditAck d = ack.toNat ∧ rd P.sysAuditTotal d = n)) ∧
    (taken h 0x21 1 true cr rr c → passes h p.id v.toNat (2 ^ 18 - 1) c → c.nv.biasPend = none → rd p c < 2 ^ 18 →
      completes (.biasRecordWrite h o false v (BitVec.ofNat 64 (2 ^ 18 - 1))) s (fun d => d.nv.biasIssuers = c.nv.biasIssuers ++ [i] ∧
        d.nv.biasPend = some ((biasRecs c).set o.val { ((biasRecs c).getD o.val BiasRec.zero) with pu := v.toNat % 2 ^ 18 }) ∧ rd p d = rd p c)) ∧
    (taken h 0x21 1 true cr rr c → passes h P.calCalSave.id 1 1 c → empty → completes (.calSave h true) s (fun d => d.rin.saveAt = c.clk ∧
      d.nv.queue = [asks (.cal (calSets c)) 5 [i] false])) ∧
    (taken h 0x21 1 true cr rr c → passes h (P.dxeSeedSave e.val).id 1 1 c → empty → completes (.seedSave h e true) s (fun d =>
      d.dx.seedSaveAt = some c.clk ∧ ∃ t : Tab (List Byte), t.map (·.1) = List.range 24 ∧
        d.nv.queue = [asks (.seeds t) 6 [i] false])) ∧
    (taken h 0x21 1 true cr rr c → passes h P.secBoardWrite.id 1 1 c → b.linkOk = true → b.fluxOk = true → empty →
      completes (.boardWrite h true (some b)) s (fun d => answered h 0x21 St.ok [] c d ∧ rd P.secBoardStatus d = 1 ∧
        .hostRead 0 (rd P.secBoardAddr c) 148 ∈ d.out ∧
        d.nv.queue = [asks (.board b) 1 [] true])) ∧
    (taken h 0x21 1 true cr rr c → passes h P.secSvnAdvance.id 1 1 c → completes (.svnAdvance h true) s (fun d =>
      answered h 0x21 St.ok [] c d ∧ d.nv.svnMin = max c.nv.svnMin (rd P.secLlynSvn c) ∧ d.nv.keyRevoked = c.nv.keyRevoked)) ∧
    (taken h 0x21 1 true cr rr c → passes h P.secKeyRevoke.id (slots.toNat * 16) 0xF0 c → completes (.keyRevoke h slots) s (fun d =>
      answered h 0x21 St.ok [] c d ∧ d.nv.keyRevoked = c.nv.keyRevoked ||| slots.toNat ∧ d.nv.svnMin = c.nv.svnMin))

/-- O51: the writes that act on the timed path and on the units (R34, R82, R83, R130, R160, R174, R304, R312, R322, R324, R327): each, once
it passes R464's tests, does what its parameter is for. The trigger unit is LOCAL, and HOLD does not keep the write. -/
def Obligations.ActingWritesComplete : Prop :=
  ∀ (s : State) (h : Cmd) (cr rr : Nat) (t : Target) (shelf : Fin 8192) (r : Fin 12) (e : Fin 24) (u : Fin 8) (k : Fin 16) (ch : Fin 128)
      (pin : Fin 8) (j : Fin 16) (gt v : BitVec 64) (mask : BitVec 16) (b : Bool),
    let c := s.chip
    let ok (d : Chip) : Prop := answered h 0x21 St.ok [] c d
    let i := entryIssuer h 0x21 c
    let once : Prop := taken h 0x21 1 true cr rr c ∧ c.md.mode ≠ .hold
    let full : Nat := 2 ^ 64 - 1
    let jump (x : Option Nat) (d : Chip) : Prop := ∃ b : Nat, (laneOf t d).jump = some { shelf := x, boundary := b, req := c.tl.gt } ∧
      c.tl.gt + 16 < b ∧ (chainDue t c = false → jumpDue t c = false → b = jumpBoundary (laneOf t c) c.tl.gt)
    let entry (a : Act) (g : Nat) (g0 : Bool) : Sched := { act := a, gt := g, gt0 := g0, vouched := vouched c, issuer := some i }
    (once → passes h P.tlEpochArm.id 1 1 c → completes (.epochArm h true) s (fun d => ok d ∧ on P.tlEpochArmed d = true)) ∧
    (once → passes h (jumpId t) shelf.val (2 ^ 13 - 1) c → completes (.jumpShelf h t shelf) s (fun d => ok d ∧ jump (some shelf.val) d)) ∧
    (once → passes h (jumpId t) (2 ^ 13) (2 ^ 13) c → completes (.stopLane h t) s (fun d => ok d ∧ jump none d)) ∧
    (once → passes h (P.rinCalSwitchAt r.val).id 0 full c → completes (.calSwitchAt h r 0) s (fun d => ok d ∧
      (estOf r.val d).soonAt = some (c.clk + 1))) ∧
    (taken h 0x21 2 true cr rr c → c.md.mode ≠ .hold → gt ≠ 0 → passes h (P.rinCalSwitchAt r.val).id gt.toNat full c →
      completes (.calSwitchAt h r gt) s (fun d => acceptedAt h 0x21 [] c d ∧
        d.tl.sched = c.tl.sched ++ [entry (.calSwitch r.val) gt.toNat false])) ∧
    (once → passes h (P.dxeDxeRun e.val).id 1 1 c → on (P.dxeDxeRun e.val) c = false → completes (.dxeRun h e true) s (fun d => ok d ∧
      on (P.dxeDxeRun e.val) d = true ∧ on (P.dxeHalted e.val) d = false ∧ (engOf e.val d).pc = 0 ∧ (engOf e.val d).issueAt = c.clk + 1)) ∧
    (once → passes h (P.dxeDxeMsg e.val).id v.toNat full c → completes (.dxeMsg h e v) s (fun d => ok d ∧ (engOf e.val d).msg = v ∧
      (dxeMode c = true → (engOf e.val d).hostSince.isSome = true))) ∧
    (taken h 0x21 2 true cr rr c → tuMesh u.val c = false → passes h (P.tuArmAt u.val).id gt.toNat full c →
      completes (.armAt h u gt) s (fun d => acceptedAt h 0x21 [] c d ∧ (tuOf u.val d).state = 1 ∧
        d.tl.sched = c.tl.sched ++ [entry (.arm u.val) (if gt = 0 then c.tl.gt + 1 else gt.toNat) (gt.toNat == 0)])) ∧
    (once → tuMesh u.val c = false → passes h (P.tuDisarm u.val).id 1 1 c → completes (.disarm h u true) s (fun d => ok d ∧
      (tuOf u.val d).disarmAt = some (c.clk + 1))) ∧
    (once → passes h (P.stStreamEn k.val).id 1 1 c → on (P.stStreamEn k.val) c = false → completes (.streamEn h k true) s (fun d => ok d ∧
      on (P.stStreamEn k.val) d = true ∧ streamOf k.val d = { Stream.reset with fn := mboxFn h.mb c, ses := (sesOf h.mb).getD 0 })) ∧
    (once → passes h (P.stStreamEn k.val).id 0 1 c → completes (.streamEn h k false) s (fun d => ok d ∧ on (P.stStreamEn k.val) d = false)) ∧
    (once → passes h P.evmSwFire.id mask.toNat (2 ^ 16 - 1) c → bitAt mask.toNat j.val = true → c.ev.flights = [] → c.ev.old = [] →
      on (P.ecChEn ch.val) c = true → rd (P.ecChEn ch.val) c < 2 → rd (P.ecCons ch.val) c ≠ 0x7F →
      bitAt (rd (P.ecEnRow ch.val 3) c) (0x30 + j.val) = true →
      bitAt c.now.gates (rd (P.ecGateSel ch.val) c) ≠ (rd (P.ecGateInv ch.val) c == 1) → completes (.swFire h mask) s (fun d => ok d ∧
        ∃ f ∈ d.ev.flights, f.ch = ch.val ∧ f.raised = c.clk ∧ f.arrive = c.clk + 1 + rd (P.ecResync ch.val) c)) ∧
    (once → passes h (P.ecLock ch.val).id 2 2 c → completes (.lock h ch true) s (fun d => ok d ∧ on (P.ecLock ch.val) d = true)) ∧
    (once → passes h (P.ciMarkSrc (0x10 + pin.val)).id (2 ^ 24 * b2n b) (2 ^ 24) c → completes (.markSrcChange h pin b) s (fun d => ok d ∧
      rd (P.ciMarkSrc (0x10 + pin.val)) d = b2n b ∧ markSrcNow pin.val d = markSrcNow pin.val c))

/-- O52: the writes that act on links, DMA channels and the reference (R276, R279, R283, R285, R292, R361, R436): switch-over on command, joining
and leaving, a test record, a channel's resume and abort, and REFCOMP. -/
def Obligations.LinkAndChannelWritesComplete : Prop :=
  ∀ (s : State) (h : Cmd) (cr rr : Nat) (g : Fin 4) (ch : Fin 64) (q : Desc) (v : BitVec 64) (b : Bool),
    let c := s.chip
    let ok (d : Chip) : Prop := answered h 0x21 St.ok [] c d
    let once : Prop := taken h 0x21 1 true cr rr c
    let k := chanOf ch.val c
    (once → passes h (P.lgSwitchNow g.val).id 2 2 c → paired g.val c = true → lgState g.val c = lgActive →
      lgState (partner g.val) c = lgStandby → inGap g.val c = false → completes (.switchNow h g true) s (fun d => ok d ∧
        lgState g.val d = lgStandby ∧ lgState (partner g.val) d = lgSwitching ∧ (groupOf (partner g.val) d).gapAt = some c.clk ∧
        counted (P.lgSwitchCount g.val) 1 c d)) ∧
    (once → passes h P.lnkJoin.id 1 1 c → on P.lnkNodeValid c = false → completes (.join h true) s (fun d => ok d ∧
      rd P.lnkJoinStatus d = 1 ∧ d.lk.joinFirst = some c.clk ∧ d.lk.joinBarred = false ∧ d.lk.cseq = (c.lk.cseq + 1) % 256)) ∧
    (once → passes h P.lnkLeave.id 2 2 c → completes (.leave h true) s (fun d => ok d ∧ on P.lnkNodeValid d = false ∧
      rd P.lnkJoinStatus d = 6 ∧ d.lk.joinBarred = true)) ∧
    (once → passes h P.lnkOutTestRec.id v.toNat (2 ^ 64 - 1) c → trafficModes c = true → rd P.outShareLg c = 2 ^ g.val →
      (outQueue g.val c).length < 64 → completes (.outTestRec h v) s (fun d => ok d ∧
        outQueue g.val d = outQueue g.val c ++ [setBits v.toNat 22 2 0] ∧ counted P.outSharedSent 1 c d)) ∧
    (once → passes h (P.dchChResume ch.val).id 1 1 c → completes (.chResume h ch true) s (fun d => ok d ∧
      on (P.dchChHalted ch.val) d = false ∧ chanOf ch.val d = k)) ∧
    (once → passes h (P.dchChAbort ch.val).id 2 2 c → k.work = none → k.fetched = [q] → k.held = none →
      completes (.chAbort h ch true) s (fun d => ok d ∧ on (P.dchChHalted ch.val) d = false ∧ (chanOf ch.val d).fetched = [] ∧
        rd (P.dchLastStatus ch.val) d = Dm.aborted ∧ rd (P.dchLastErrTag ch.val) d = descTag q % 2 ^ 64 ∧ counted (P.dchDescErr ch.val) 1 c d)) ∧
    (once → passes h P.thmRefcomp.id (b2n b) 1 c → completes (.refcomp h b) s (fun d => ok d ∧ on P.thmRefcomp d = b ∧ on W.refcompOn d = b))

/-- O53: a step takes the command at the front of the queue and is that command on the queue's rest; every command answers a next state
and leaves the queue; on an empty queue the block's own events or a tick
follow, which is the model's own choice (log entries 1 and 2). -/
def Obligations.StepRunsFrontCommand : Prop :=
  ∀ (i : Instr) (q : List Instr) (c : Chip),
    step { pending := i :: q, chip := c } = exec i { pending := q, chip := c } ∧
    (∃ d : Chip, exec i { pending := q, chip := c } = .next { pending := q, chip := d }) ∧
    step { pending := [], chip := c } = .next (tick { pending := [], chip := c })

/-- O54: what State.reset leaves: no command waits, RESET with no transition, GT at 0 and not counting, every field at the reset value of
its table, no ring held, no session open, memory empty and so canonical, nothing put out. Values that the spec does not give are the
model's choices (log entries). -/
def Obligations.ResetLeaves : Prop :=
  let c := State.reset.chip
  State.reset.pending = [] ∧ c.md.mode = .reset ∧ c.md.trans = none ∧ c.tl.gt = 0 ∧ c.tl.counting = false ∧ c.mb.sessions = [] ∧
    (∀ f : Field, rd f c = f.rst) ∧ (∀ r : Nat, ringOf r c = Ring.reset) ∧ (∀ q : Nat, sqOf q c = Sequencer.reset) ∧
    (∀ e : Nat, engOf e c = Engine.reset) ∧ (∀ a : Nat, Tab.get c.mem a 0 = 0) ∧ c.memOk ∧ c.out = [] ∧ c.dma.chans = [] ∧
    c.ev.flights = [] ∧ c.rin.windows = [] ∧ c.oc.bus = [] ∧ c.nv.queue = []

/-- O55: reading back what was laid out: the word of an engine's instruction, and of a sequencer's instruction whose operands R192 admits,
is read as that instruction, with every operand at every value (R175, R176, R192, R193). -/
def Obligations.ProgramWordsRoundTrip : Prop :=
  (∀ i : DxeInstr, decodeDxe (encodeDxe i) = some i) ∧ (∀ i : SqInstr, i.ok = true → decodeSq (encodeSq i) = some i) ∧
    (∀ (w : Word) (i : SqInstr), decodeSq w = some i → i.ok = true)

/-- O56: on-chip memory keeps its canonical form in every step: keys rising, and no byte listed that an unlisted one reads as. -/
def Obligations.MemoryStaysCanonical : Prop :=
  ∀ s t : State, s.chip.memOk → step s = .next t → t.chip.memOk

/-- O57: what the commands leave unchanged: outside the parts that Safety.mayChange names for it, a command that answers a next state
leaves every register, counter, queue, output and byte of memory as it was. -/
def Obligations.CommandsKeepTheRest : Prop :=
  ∀ (i : Instr) (s t : State), exec i s = .next t → sameBut (mayChange i) s.chip t.chip

/-- O58: what a sequencer's instruction leaves unchanged, whether it completes, finds its slot late, stalls or faults: the engines, the
windows, the outcomes, the links, the DMA channels, the Cabinet, the timeline, and all of memory but its own slot table; and, outside
READY, where a fault cancels a pending start, the read-out as a whole. -/
def Obligations.SequencersKeepTheRest : Prop :=
  ∀ (q : Fin 64) (op : Nat) (s t : State), exec (sqCommand q op) s = .next t →
    sameBut [.now, .md, .mb, .rin, .syn, .sqs, .mc, .mem, .pn, .rings, .hostPba, .regs, .tot, .out] s.chip t.chip ∧
      bytesBut (0x02600000 + 0x10000 * q.val) 0x10000 s.chip t.chip ∧ t.chip.rin.windows = s.chip.rin.windows ∧
      (s.chip.md.mode ≠ .ready → t.chip.rin = s.chip.rin)

/-- O59: commands that are refused: MODE_SET while a transition is in progress or beaten by a trigger of its tick, MODE_SET RUN with less than 100,000 ticks of lead, while
NODE_VALID is 0 and a group has LG_EN = 1, and from HOLD while an enabled sequencer has SQ_FAULT set, all with MODE_REFUSED; a write to
CB_BASE or CB_LEN of a running engine with ENGINE_RUNNING (R21, R22, R23, R156, R210, R278). The mode, a transition in progress and every
value stay: nothing but the rings and what is put out changes. -/
def Obligations.CommandsAreRefused : Prop :=
  ∀ (s : State) (h : Cmd) (cr rr : Nat) (m : BitVec 4) (gt : BitVec 64) (g : Fin 4) (q : Fin 64) (e : Fin 24) (j : Fin 16) (v : BitVec 15)
      (n : Nat),
    let c := s.chip
    let kept (d : Chip) : Prop := sameBut [.rings, .out, .hostPba] c d
    let refused (m : BitVec 4) : Prop := completes (.modeSet h m gt) s (fun d => answered h 0x40 St.modeRefused [] c d ∧ kept d)
    let cb : BitVec 32 := BitVec.ofNat 32 (P.dxeCbBase e.val j.val).id
    (taken h 0x40 2 true cr rr c →
      (c.md.trans.isSome = true → refused m) ∧
      ((c.md.mode = .ready ∨ c.md.mode = .hold) → gt.toNat < c.tl.gt + 100000 → refused 0x8) ∧
      (on P.lnkNodeValid c = false → on (P.lgLgEn g.val) c = true → refused 0x8) ∧
      (c.md.mode = .hold → on (P.sqSqEn q.val) c = true → on (P.sqSqFault q.val) c = true → refused 0x8) ∧
      (outranked m.toNat s.pending c = true → refused m)) ∧
    (taken h 0x21 1 true cr rr c → on (P.dxeDxeRun e.val) c = true → c.md.mode ∈ [Mode.configure, .syncing, .ready, .bench] →
      completes (.paramSet h cb (v.zeroExtend 64) 0x7FFF 0) s (fun d => answered h 0x21 St.engineRunning [] c d ∧ kept d) ∧
      (n ≤ 32768 → completes (.paramSet h cb (BitVec.ofNat 64 (n * 2 ^ 16)) 0xFFFF0000 0) s (fun d =>
        answered h 0x21 St.engineRunning [] c d ∧ kept d)))

/-- O60: a session of a virtual function whose bit in VF_WRITE_EN is 0 has every write command refused with NOT_PERMITTED, and the
command does nothing else (R372). -/
def Obligations.WriteRightsHold : Prop :=
  ∀ (s : State) (i : Instr) (h : Cmd) (op : Nat) (n : Fin 1024) (x : Session) (cr rr : Nat),
    let c := s.chip
    writeCommand i = some (h, op) → h.mb = .ses n → h.rsvd = false → Tab.find c.mb.sessions n.val = some x → x.fn ≠ 0 →
      bitAt (rd P.sysVfWriteEn c) (x.fn - 1) = false → inModes [.reset, .boot, .shutdown] c = false →
      mboxRings h.mb c = some (cr, rr) → (ringOf cr c).ty = 1 → (ringOf rr c).ty = 2 → (ringOf cr c).run = true →
      (ringOf rr c).run = true → 0 < ringUsed (ringOf cr c) → promised h.mb c + 2 ≤ ringRoom (ringOf rr c) → mboxBusy h.mb c = false →
      completes i s (fun d => answered h op St.notPermitted [] c d ∧ sameBut [.rings, .out, .hostPba] c d)
end

