-- ==== Sys2Proof/Laws/State.lean ====
section
/-!
SUPPORT. One lemma per part of the chip and per update: what an update of one part leaves as it was, so that no proof unfolds a
record update.
-/

namespace Sys2Proof.Machine


/-! ### wr changes regs only -/

@[simp] theorem wr_clk (f : Field) (v : Nat) (c : Chip) : (wr f v c).clk = c.clk := rfl
@[simp] theorem wr_free (f : Field) (v : Nat) (c : Chip) : (wr f v c).free = c.free := rfl
@[simp] theorem wr_now (f : Field) (v : Nat) (c : Chip) : (wr f v c).now = c.now := rfl
@[simp] theorem wr_pw (f : Field) (v : Nat) (c : Chip) : (wr f v c).pw = c.pw := rfl
@[simp] theorem wr_md (f : Field) (v : Nat) (c : Chip) : (wr f v c).md = c.md := rfl
@[simp] theorem wr_tl (f : Field) (v : Nat) (c : Chip) : (wr f v c).tl = c.tl := rfl
@[simp] theorem wr_ev (f : Field) (v : Nat) (c : Chip) : (wr f v c).ev = c.ev := rfl
@[simp] theorem wr_mb (f : Field) (v : Nat) (c : Chip) : (wr f v c).mb = c.mb := rfl
@[simp] theorem wr_syn (f : Field) (v : Nat) (c : Chip) : (wr f v c).syn = c.syn := rfl
@[simp] theorem wr_rin (f : Field) (v : Nat) (c : Chip) : (wr f v c).rin = c.rin := rfl
@[simp] theorem wr_dx (f : Field) (v : Nat) (c : Chip) : (wr f v c).dx = c.dx := rfl
@[simp] theorem wr_sqs (f : Field) (v : Nat) (c : Chip) : (wr f v c).sqs = c.sqs := rfl
@[simp] theorem wr_oc (f : Field) (v : Nat) (c : Chip) : (wr f v c).oc = c.oc := rfl
@[simp] theorem wr_lk (f : Field) (v : Nat) (c : Chip) : (wr f v c).lk = c.lk := rfl
@[simp] theorem wr_aq (f : Field) (v : Nat) (c : Chip) : (wr f v c).aq = c.aq := rfl
@[simp] theorem wr_mc (f : Field) (v : Nat) (c : Chip) : (wr f v c).mc = c.mc := rfl
@[simp] theorem wr_dma (f : Field) (v : Nat) (c : Chip) : (wr f v c).dma = c.dma := rfl
@[simp] theorem wr_nv (f : Field) (v : Nat) (c : Chip) : (wr f v c).nv = c.nv := rfl
@[simp] theorem wr_th (f : Field) (v : Nat) (c : Chip) : (wr f v c).th = c.th := rfl
@[simp] theorem wr_pn (f : Field) (v : Nat) (c : Chip) : (wr f v c).pn = c.pn := rfl
@[simp] theorem wr_rings (f : Field) (v : Nat) (c : Chip) : (wr f v c).rings = c.rings := rfl
@[simp] theorem wr_hostMsix (f : Field) (v : Nat) (c : Chip) : (wr f v c).hostMsix = c.hostMsix := rfl
@[simp] theorem wr_hostPba (f : Field) (v : Nat) (c : Chip) : (wr f v c).hostPba = c.hostPba := rfl
@[simp] theorem wr_numVfs (f : Field) (v : Nat) (c : Chip) : (wr f v c).numVfs = c.numVfs := rfl
@[simp] theorem wr_tot (f : Field) (v : Nat) (c : Chip) : (wr f v c).tot = c.tot := rfl
@[simp] theorem wr_mem (f : Field) (v : Nat) (c : Chip) : (wr f v c).mem = c.mem := rfl
@[simp] theorem wr_out (f : Field) (v : Nat) (c : Chip) : (wr f v c).out = c.out := rfl

/-! ### wrS changes regs only -/

@[simp] theorem wrS_clk (f : Field) (v : Int) (c : Chip) : (wrS f v c).clk = c.clk := rfl
@[simp] theorem wrS_free (f : Field) (v : Int) (c : Chip) : (wrS f v c).free = c.free := rfl
@[simp] theorem wrS_now (f : Field) (v : Int) (c : Chip) : (wrS f v c).now = c.now := rfl
@[simp] theorem wrS_pw (f : Field) (v : Int) (c : Chip) : (wrS f v c).pw = c.pw := rfl
@[simp] theorem wrS_md (f : Field) (v : Int) (c : Chip) : (wrS f v c).md = c.md := rfl
@[simp] theorem wrS_tl (f : Field) (v : Int) (c : Chip) : (wrS f v c).tl = c.tl := rfl
@[simp] theorem wrS_ev (f : Field) (v : Int) (c : Chip) : (wrS f v c).ev = c.ev := rfl
@[simp] theorem wrS_mb (f : Field) (v : Int) (c : Chip) : (wrS f v c).mb = c.mb := rfl
@[simp] theorem wrS_syn (f : Field) (v : Int) (c : Chip) : (wrS f v c).syn = c.syn := rfl
@[simp] theorem wrS_rin (f : Field) (v : Int) (c : Chip) : (wrS f v c).rin = c.rin := rfl
@[simp] theorem wrS_dx (f : Field) (v : Int) (c : Chip) : (wrS f v c).dx = c.dx := rfl
@[simp] theorem wrS_sqs (f : Field) (v : Int) (c : Chip) : (wrS f v c).sqs = c.sqs := rfl
@[simp] theorem wrS_oc (f : Field) (v : Int) (c : Chip) : (wrS f v c).oc = c.oc := rfl
@[simp] theorem wrS_lk (f : Field) (v : Int) (c : Chip) : (wrS f v c).lk = c.lk := rfl
@[simp] theorem wrS_aq (f : Field) (v : Int) (c : Chip) : (wrS f v c).aq = c.aq := rfl
@[simp] theorem wrS_mc (f : Field) (v : Int) (c : Chip) : (wrS f v c).mc = c.mc := rfl
@[simp] theorem wrS_dma (f : Field) (v : Int) (c : Chip) : (wrS f v c).dma = c.dma := rfl
@[simp] theorem wrS_nv (f : Field) (v : Int) (c : Chip) : (wrS f v c).nv = c.nv := rfl
@[simp] theorem wrS_th (f : Field) (v : Int) (c : Chip) : (wrS f v c).th = c.th := rfl
@[simp] theorem wrS_pn (f : Field) (v : Int) (c : Chip) : (wrS f v c).pn = c.pn := rfl
@[simp] theorem wrS_rings (f : Field) (v : Int) (c : Chip) : (wrS f v c).rings = c.rings := rfl
@[simp] theorem wrS_hostMsix (f : Field) (v : Int) (c : Chip) : (wrS f v c).hostMsix = c.hostMsix := rfl
@[simp] theorem wrS_hostPba (f : Field) (v : Int) (c : Chip) : (wrS f v c).hostPba = c.hostPba := rfl
@[simp] theorem wrS_numVfs (f : Field) (v : Int) (c : Chip) : (wrS f v c).numVfs = c.numVfs := rfl
@[simp] theorem wrS_tot (f : Field) (v : Int) (c : Chip) : (wrS f v c).tot = c.tot := rfl
@[simp] theorem wrS_mem (f : Field) (v : Int) (c : Chip) : (wrS f v c).mem = c.mem := rfl
@[simp] theorem wrS_out (f : Field) (v : Int) (c : Chip) : (wrS f v c).out = c.out := rfl

/-! ### rcLog changes now only -/

@[simp] theorem rcLog_clk (f : Field) (p : Nat × Nat) (c : Chip) : (rcLog f p c).clk = c.clk := rfl
@[simp] theorem rcLog_free (f : Field) (p : Nat × Nat) (c : Chip) : (rcLog f p c).free = c.free := rfl
@[simp] theorem rcLog_pw (f : Field) (p : Nat × Nat) (c : Chip) : (rcLog f p c).pw = c.pw := rfl
@[simp] theorem rcLog_md (f : Field) (p : Nat × Nat) (c : Chip) : (rcLog f p c).md = c.md := rfl
@[simp] theorem rcLog_tl (f : Field) (p : Nat × Nat) (c : Chip) : (rcLog f p c).tl = c.tl := rfl
@[simp] theorem rcLog_ev (f : Field) (p : Nat × Nat) (c : Chip) : (rcLog f p c).ev = c.ev := rfl
@[simp] theorem rcLog_mb (f : Field) (p : Nat × Nat) (c : Chip) : (rcLog f p c).mb = c.mb := rfl
@[simp] theorem rcLog_syn (f : Field) (p : Nat × Nat) (c : Chip) : (rcLog f p c).syn = c.syn := rfl
@[simp] theorem rcLog_rin (f : Field) (p : Nat × Nat) (c : Chip) : (rcLog f p c).rin = c.rin := rfl
@[simp] theorem rcLog_dx (f : Field) (p : Nat × Nat) (c : Chip) : (rcLog f p c).dx = c.dx := rfl
@[simp] theorem rcLog_sqs (f : Field) (p : Nat × Nat) (c : Chip) : (rcLog f p c).sqs = c.sqs := rfl
@[simp] theorem rcLog_oc (f : Field) (p : Nat × Nat) (c : Chip) : (rcLog f p c).oc = c.oc := rfl
@[simp] theorem rcLog_lk (f : Field) (p : Nat × Nat) (c : Chip) : (rcLog f p c).lk = c.lk := rfl
@[simp] theorem rcLog_aq (f : Field) (p : Nat × Nat) (c : Chip) : (rcLog f p c).aq = c.aq := rfl
@[simp] theorem rcLog_mc (f : Field) (p : Nat × Nat) (c : Chip) : (rcLog f p c).mc = c.mc := rfl
@[simp] theorem rcLog_dma (f : Field) (p : Nat × Nat) (c : Chip) : (rcLog f p c).dma = c.dma := rfl
@[simp] theorem rcLog_nv (f : Field) (p : Nat × Nat) (c : Chip) : (rcLog f p c).nv = c.nv := rfl
@[simp] theorem rcLog_th (f : Field) (p : Nat × Nat) (c : Chip) : (rcLog f p c).th = c.th := rfl
@[simp] theorem rcLog_pn (f : Field) (p : Nat × Nat) (c : Chip) : (rcLog f p c).pn = c.pn := rfl
@[simp] theorem rcLog_rings (f : Field) (p : Nat × Nat) (c : Chip) : (rcLog f p c).rings = c.rings := rfl
@[simp] theorem rcLog_hostMsix (f : Field) (p : Nat × Nat) (c : Chip) : (rcLog f p c).hostMsix = c.hostMsix := rfl
@[simp] theorem rcLog_hostPba (f : Field) (p : Nat × Nat) (c : Chip) : (rcLog f p c).hostPba = c.hostPba := rfl
@[simp] theorem rcLog_numVfs (f : Field) (p : Nat × Nat) (c : Chip) : (rcLog f p c).numVfs = c.numVfs := rfl
@[simp] theorem rcLog_regs (f : Field) (p : Nat × Nat) (c : Chip) : (rcLog f p c).regs = c.regs := rfl
@[simp] theorem rcLog_tot (f : Field) (p : Nat × Nat) (c : Chip) : (rcLog f p c).tot = c.tot := rfl
@[simp] theorem rcLog_mem (f : Field) (p : Nat × Nat) (c : Chip) : (rcLog f p c).mem = c.mem := rfl
@[simp] theorem rcLog_out (f : Field) (p : Nat × Nat) (c : Chip) : (rcLog f p c).out = c.out := rfl

/-! ### total changes tot only -/

@[simp] theorem total_clk (k n : Nat) (c : Chip) : (total k n c).clk = c.clk := rfl
@[simp] theorem total_free (k n : Nat) (c : Chip) : (total k n c).free = c.free := rfl
@[simp] theorem total_now (k n : Nat) (c : Chip) : (total k n c).now = c.now := rfl
@[simp] theorem total_pw (k n : Nat) (c : Chip) : (total k n c).pw = c.pw := rfl
@[simp] theorem total_md (k n : Nat) (c : Chip) : (total k n c).md = c.md := rfl
@[simp] theorem total_tl (k n : Nat) (c : Chip) : (total k n c).tl = c.tl := rfl
@[simp] theorem total_ev (k n : Nat) (c : Chip) : (total k n c).ev = c.ev := rfl
@[simp] theorem total_mb (k n : Nat) (c : Chip) : (total k n c).mb = c.mb := rfl
@[simp] theorem total_syn (k n : Nat) (c : Chip) : (total k n c).syn = c.syn := rfl
@[simp] theorem total_rin (k n : Nat) (c : Chip) : (total k n c).rin = c.rin := rfl
@[simp] theorem total_dx (k n : Nat) (c : Chip) : (total k n c).dx = c.dx := rfl
@[simp] theorem total_sqs (k n : Nat) (c : Chip) : (total k n c).sqs = c.sqs := rfl
@[simp] theorem total_oc (k n : Nat) (c : Chip) : (total k n c).oc = c.oc := rfl
@[simp] theorem total_lk (k n : Nat) (c : Chip) : (total k n c).lk = c.lk := rfl
@[simp] theorem total_aq (k n : Nat) (c : Chip) : (total k n c).aq = c.aq := rfl
@[simp] theorem total_mc (k n : Nat) (c : Chip) : (total k n c).mc = c.mc := rfl
@[simp] theorem total_dma (k n : Nat) (c : Chip) : (total k n c).dma = c.dma := rfl
@[simp] theorem total_nv (k n : Nat) (c : Chip) : (total k n c).nv = c.nv := rfl
@[simp] theorem total_th (k n : Nat) (c : Chip) : (total k n c).th = c.th := rfl
@[simp] theorem total_pn (k n : Nat) (c : Chip) : (total k n c).pn = c.pn := rfl
@[simp] theorem total_rings (k n : Nat) (c : Chip) : (total k n c).rings = c.rings := rfl
@[simp] theorem total_hostMsix (k n : Nat) (c : Chip) : (total k n c).hostMsix = c.hostMsix := rfl
@[simp] theorem total_hostPba (k n : Nat) (c : Chip) : (total k n c).hostPba = c.hostPba := rfl
@[simp] theorem total_numVfs (k n : Nat) (c : Chip) : (total k n c).numVfs = c.numVfs := rfl
@[simp] theorem total_regs (k n : Nat) (c : Chip) : (total k n c).regs = c.regs := rfl
@[simp] theorem total_mem (k n : Nat) (c : Chip) : (total k n c).mem = c.mem := rfl
@[simp] theorem total_out (k n : Nat) (c : Chip) : (total k n c).out = c.out := rfl

/-! ### emit changes out only -/

@[simp] theorem emit_clk (o : Output) (c : Chip) : (emit o c).clk = c.clk := rfl
@[simp] theorem emit_free (o : Output) (c : Chip) : (emit o c).free = c.free := rfl
@[simp] theorem emit_now (o : Output) (c : Chip) : (emit o c).now = c.now := rfl
@[simp] theorem emit_pw (o : Output) (c : Chip) : (emit o c).pw = c.pw := rfl
@[simp] theorem emit_md (o : Output) (c : Chip) : (emit o c).md = c.md := rfl
@[simp] theorem emit_tl (o : Output) (c : Chip) : (emit o c).tl = c.tl := rfl
@[simp] theorem emit_ev (o : Output) (c : Chip) : (emit o c).ev = c.ev := rfl
@[simp] theorem emit_mb (o : Output) (c : Chip) : (emit o c).mb = c.mb := rfl
@[simp] theorem emit_syn (o : Output) (c : Chip) : (emit o c).syn = c.syn := rfl
@[simp] theorem emit_rin (o : Output) (c : Chip) : (emit o c).rin = c.rin := rfl
@[simp] theorem emit_dx (o : Output) (c : Chip) : (emit o c).dx = c.dx := rfl
@[simp] theorem emit_sqs (o : Output) (c : Chip) : (emit o c).sqs = c.sqs := rfl
@[simp] theorem emit_oc (o : Output) (c : Chip) : (emit o c).oc = c.oc := rfl
@[simp] theorem emit_lk (o : Output) (c : Chip) : (emit o c).lk = c.lk := rfl
@[simp] theorem emit_aq (o : Output) (c : Chip) : (emit o c).aq = c.aq := rfl
@[simp] theorem emit_mc (o : Output) (c : Chip) : (emit o c).mc = c.mc := rfl
@[simp] theorem emit_dma (o : Output) (c : Chip) : (emit o c).dma = c.dma := rfl
@[simp] theorem emit_nv (o : Output) (c : Chip) : (emit o c).nv = c.nv := rfl
@[simp] theorem emit_th (o : Output) (c : Chip) : (emit o c).th = c.th := rfl
@[simp] theorem emit_pn (o : Output) (c : Chip) : (emit o c).pn = c.pn := rfl
@[simp] theorem emit_rings (o : Output) (c : Chip) : (emit o c).rings = c.rings := rfl
@[simp] theorem emit_hostMsix (o : Output) (c : Chip) : (emit o c).hostMsix = c.hostMsix := rfl
@[simp] theorem emit_hostPba (o : Output) (c : Chip) : (emit o c).hostPba = c.hostPba := rfl
@[simp] theorem emit_numVfs (o : Output) (c : Chip) : (emit o c).numVfs = c.numVfs := rfl
@[simp] theorem emit_regs (o : Output) (c : Chip) : (emit o c).regs = c.regs := rfl
@[simp] theorem emit_tot (o : Output) (c : Chip) : (emit o c).tot = c.tot := rfl
@[simp] theorem emit_mem (o : Output) (c : Chip) : (emit o c).mem = c.mem := rfl

/-! ### setRing changes rings only -/

@[simp] theorem setRing_clk (r : Nat) (x : Ring) (c : Chip) : (setRing r x c).clk = c.clk := rfl
@[simp] theorem setRing_free (r : Nat) (x : Ring) (c : Chip) : (setRing r x c).free = c.free := rfl
@[simp] theorem setRing_now (r : Nat) (x : Ring) (c : Chip) : (setRing r x c).now = c.now := rfl
@[simp] theorem setRing_pw (r : Nat) (x : Ring) (c : Chip) : (setRing r x c).pw = c.pw := rfl
@[simp] theorem setRing_md (r : Nat) (x : Ring) (c : Chip) : (setRing r x c).md = c.md := rfl
@[simp] theorem setRing_tl (r : Nat) (x : Ring) (c : Chip) : (setRing r x c).tl = c.tl := rfl
@[simp] theorem setRing_ev (r : Nat) (x : Ring) (c : Chip) : (setRing r x c).ev = c.ev := rfl
@[simp] theorem setRing_mb (r : Nat) (x : Ring) (c : Chip) : (setRing r x c).mb = c.mb := rfl
@[simp] theorem setRing_syn (r : Nat) (x : Ring) (c : Chip) : (setRing r x c).syn = c.syn := rfl
@[simp] theorem setRing_rin (r : Nat) (x : Ring) (c : Chip) : (setRing r x c).rin = c.rin := rfl
@[simp] theorem setRing_dx (r : Nat) (x : Ring) (c : Chip) : (setRing r x c).dx = c.dx := rfl
@[simp] theorem setRing_sqs (r : Nat) (x : Ring) (c : Chip) : (setRing r x c).sqs = c.sqs := rfl
@[simp] theorem setRing_oc (r : Nat) (x : Ring) (c : Chip) : (setRing r x c).oc = c.oc := rfl
@[simp] theorem setRing_lk (r : Nat) (x : Ring) (c : Chip) : (setRing r x c).lk = c.lk := rfl
@[simp] theorem setRing_aq (r : Nat) (x : Ring) (c : Chip) : (setRing r x c).aq = c.aq := rfl
@[simp] theorem setRing_mc (r : Nat) (x : Ring) (c : Chip) : (setRing r x c).mc = c.mc := rfl
@[simp] theorem setRing_dma (r : Nat) (x : Ring) (c : Chip) : (setRing r x c).dma = c.dma := rfl
@[simp] theorem setRing_nv (r : Nat) (x : Ring) (c : Chip) : (setRing r x c).nv = c.nv := rfl
@[simp] theorem setRing_th (r : Nat) (x : Ring) (c : Chip) : (setRing r x c).th = c.th := rfl
@[simp] theorem setRing_pn (r : Nat) (x : Ring) (c : Chip) : (setRing r x c).pn = c.pn := rfl
@[simp] theorem setRing_hostMsix (r : Nat) (x : Ring) (c : Chip) : (setRing r x c).hostMsix = c.hostMsix := rfl
@[simp] theorem setRing_hostPba (r : Nat) (x : Ring) (c : Chip) : (setRing r x c).hostPba = c.hostPba := rfl
@[simp] theorem setRing_numVfs (r : Nat) (x : Ring) (c : Chip) : (setRing r x c).numVfs = c.numVfs := rfl
@[simp] theorem setRing_regs (r : Nat) (x : Ring) (c : Chip) : (setRing r x c).regs = c.regs := rfl
@[simp] theorem setRing_tot (r : Nat) (x : Ring) (c : Chip) : (setRing r x c).tot = c.tot := rfl
@[simp] theorem setRing_mem (r : Nat) (x : Ring) (c : Chip) : (setRing r x c).mem = c.mem := rfl
@[simp] theorem setRing_out (r : Nat) (x : Ring) (c : Chip) : (setRing r x c).out = c.out := rfl

/-! ### setMsix changes hostMsix only -/

@[simp] theorem setMsix_clk (fn vec : Nat) (x : Msix) (c : Chip) : (setMsix fn vec x c).clk = c.clk := rfl
@[simp] theorem setMsix_free (fn vec : Nat) (x : Msix) (c : Chip) : (setMsix fn vec x c).free = c.free := rfl
@[simp] theorem setMsix_now (fn vec : Nat) (x : Msix) (c : Chip) : (setMsix fn vec x c).now = c.now := rfl
@[simp] theorem setMsix_pw (fn vec : Nat) (x : Msix) (c : Chip) : (setMsix fn vec x c).pw = c.pw := rfl
@[simp] theorem setMsix_md (fn vec : Nat) (x : Msix) (c : Chip) : (setMsix fn vec x c).md = c.md := rfl
@[simp] theorem setMsix_tl (fn vec : Nat) (x : Msix) (c : Chip) : (setMsix fn vec x c).tl = c.tl := rfl
@[simp] theorem setMsix_ev (fn vec : Nat) (x : Msix) (c : Chip) : (setMsix fn vec x c).ev = c.ev := rfl
@[simp] theorem setMsix_mb (fn vec : Nat) (x : Msix) (c : Chip) : (setMsix fn vec x c).mb = c.mb := rfl
@[simp] theorem setMsix_syn (fn vec : Nat) (x : Msix) (c : Chip) : (setMsix fn vec x c).syn = c.syn := rfl
@[simp] theorem setMsix_rin (fn vec : Nat) (x : Msix) (c : Chip) : (setMsix fn vec x c).rin = c.rin := rfl
@[simp] theorem setMsix_dx (fn vec : Nat) (x : Msix) (c : Chip) : (setMsix fn vec x c).dx = c.dx := rfl
@[simp] theorem setMsix_sqs (fn vec : Nat) (x : Msix) (c : Chip) : (setMsix fn vec x c).sqs = c.sqs := rfl
@[simp] theorem setMsix_oc (fn vec : Nat) (x : Msix) (c : Chip) : (setMsix fn vec x c).oc = c.oc := rfl
@[simp] theorem setMsix_lk (fn vec : Nat) (x : Msix) (c : Chip) : (setMsix fn vec x c).lk = c.lk := rfl
@[simp] theorem setMsix_aq (fn vec : Nat) (x : Msix) (c : Chip) : (setMsix fn vec x c).aq = c.aq := rfl
@[simp] theorem setMsix_mc (fn vec : Nat) (x : Msix) (c : Chip) : (setMsix fn vec x c).mc = c.mc := rfl
@[simp] theorem setMsix_dma (fn vec : Nat) (x : Msix) (c : Chip) : (setMsix fn vec x c).dma = c.dma := rfl
@[simp] theorem setMsix_nv (fn vec : Nat) (x : Msix) (c : Chip) : (setMsix fn vec x c).nv = c.nv := rfl
@[simp] theorem setMsix_th (fn vec : Nat) (x : Msix) (c : Chip) : (setMsix fn vec x c).th = c.th := rfl
@[simp] theorem setMsix_pn (fn vec : Nat) (x : Msix) (c : Chip) : (setMsix fn vec x c).pn = c.pn := rfl
@[simp] theorem setMsix_rings (fn vec : Nat) (x : Msix) (c : Chip) : (setMsix fn vec x c).rings = c.rings := rfl
@[simp] theorem setMsix_hostPba (fn vec : Nat) (x : Msix) (c : Chip) : (setMsix fn vec x c).hostPba = c.hostPba := rfl
@[simp] theorem setMsix_numVfs (fn vec : Nat) (x : Msix) (c : Chip) : (setMsix fn vec x c).numVfs = c.numVfs := rfl
@[simp] theorem setMsix_regs (fn vec : Nat) (x : Msix) (c : Chip) : (setMsix fn vec x c).regs = c.regs := rfl
@[simp] theorem setMsix_tot (fn vec : Nat) (x : Msix) (c : Chip) : (setMsix fn vec x c).tot = c.tot := rfl
@[simp] theorem setMsix_mem (fn vec : Nat) (x : Msix) (c : Chip) : (setMsix fn vec x c).mem = c.mem := rfl
@[simp] theorem setMsix_out (fn vec : Nat) (x : Msix) (c : Chip) : (setMsix fn vec x c).out = c.out := rfl

/-! ### setSq changes sqs only -/

@[simp] theorem setSq_clk (s : Nat) (x : Sequencer) (c : Chip) : (setSq s x c).clk = c.clk := rfl
@[simp] theorem setSq_free (s : Nat) (x : Sequencer) (c : Chip) : (setSq s x c).free = c.free := rfl
@[simp] theorem setSq_now (s : Nat) (x : Sequencer) (c : Chip) : (setSq s x c).now = c.now := rfl
@[simp] theorem setSq_pw (s : Nat) (x : Sequencer) (c : Chip) : (setSq s x c).pw = c.pw := rfl
@[simp] theorem setSq_md (s : Nat) (x : Sequencer) (c : Chip) : (setSq s x c).md = c.md := rfl
@[simp] theorem setSq_tl (s : Nat) (x : Sequencer) (c : Chip) : (setSq s x c).tl = c.tl := rfl
@[simp] theorem setSq_ev (s : Nat) (x : Sequencer) (c : Chip) : (setSq s x c).ev = c.ev := rfl
@[simp] theorem setSq_mb (s : Nat) (x : Sequencer) (c : Chip) : (setSq s x c).mb = c.mb := rfl
@[simp] theorem setSq_syn (s : Nat) (x : Sequencer) (c : Chip) : (setSq s x c).syn = c.syn := rfl
@[simp] theorem setSq_rin (s : Nat) (x : Sequencer) (c : Chip) : (setSq s x c).rin = c.rin := rfl
@[simp] theorem setSq_dx (s : Nat) (x : Sequencer) (c : Chip) : (setSq s x c).dx = c.dx := rfl
@[simp] theorem setSq_oc (s : Nat) (x : Sequencer) (c : Chip) : (setSq s x c).oc = c.oc := rfl
@[simp] theorem setSq_lk (s : Nat) (x : Sequencer) (c : Chip) : (setSq s x c).lk = c.lk := rfl
@[simp] theorem setSq_aq (s : Nat) (x : Sequencer) (c : Chip) : (setSq s x c).aq = c.aq := rfl
@[simp] theorem setSq_mc (s : Nat) (x : Sequencer) (c : Chip) : (setSq s x c).mc = c.mc := rfl
@[simp] theorem setSq_dma (s : Nat) (x : Sequencer) (c : Chip) : (setSq s x c).dma = c.dma := rfl
@[simp] theorem setSq_nv (s : Nat) (x : Sequencer) (c : Chip) : (setSq s x c).nv = c.nv := rfl
@[simp] theorem setSq_th (s : Nat) (x : Sequencer) (c : Chip) : (setSq s x c).th = c.th := rfl
@[simp] theorem setSq_pn (s : Nat) (x : Sequencer) (c : Chip) : (setSq s x c).pn = c.pn := rfl
@[simp] theorem setSq_rings (s : Nat) (x : Sequencer) (c : Chip) : (setSq s x c).rings = c.rings := rfl
@[simp] theorem setSq_hostMsix (s : Nat) (x : Sequencer) (c : Chip) : (setSq s x c).hostMsix = c.hostMsix := rfl
@[simp] theorem setSq_hostPba (s : Nat) (x : Sequencer) (c : Chip) : (setSq s x c).hostPba = c.hostPba := rfl
@[simp] theorem setSq_numVfs (s : Nat) (x : Sequencer) (c : Chip) : (setSq s x c).numVfs = c.numVfs := rfl
@[simp] theorem setSq_regs (s : Nat) (x : Sequencer) (c : Chip) : (setSq s x c).regs = c.regs := rfl
@[simp] theorem setSq_tot (s : Nat) (x : Sequencer) (c : Chip) : (setSq s x c).tot = c.tot := rfl
@[simp] theorem setSq_mem (s : Nat) (x : Sequencer) (c : Chip) : (setSq s x c).mem = c.mem := rfl
@[simp] theorem setSq_out (s : Nat) (x : Sequencer) (c : Chip) : (setSq s x c).out = c.out := rfl

/-! ### setLane changes syn only -/

@[simp] theorem setLane_clk (t : Target) (x : Lane) (c : Chip) : (setLane t x c).clk = c.clk := rfl
@[simp] theorem setLane_free (t : Target) (x : Lane) (c : Chip) : (setLane t x c).free = c.free := rfl
@[simp] theorem setLane_now (t : Target) (x : Lane) (c : Chip) : (setLane t x c).now = c.now := rfl
@[simp] theorem setLane_pw (t : Target) (x : Lane) (c : Chip) : (setLane t x c).pw = c.pw := rfl
@[simp] theorem setLane_md (t : Target) (x : Lane) (c : Chip) : (setLane t x c).md = c.md := rfl
@[simp] theorem setLane_tl (t : Target) (x : Lane) (c : Chip) : (setLane t x c).tl = c.tl := rfl
@[simp] theorem setLane_ev (t : Target) (x : Lane) (c : Chip) : (setLane t x c).ev = c.ev := rfl
@[simp] theorem setLane_mb (t : Target) (x : Lane) (c : Chip) : (setLane t x c).mb = c.mb := rfl
@[simp] theorem setLane_rin (t : Target) (x : Lane) (c : Chip) : (setLane t x c).rin = c.rin := rfl
@[simp] theorem setLane_dx (t : Target) (x : Lane) (c : Chip) : (setLane t x c).dx = c.dx := rfl
@[simp] theorem setLane_sqs (t : Target) (x : Lane) (c : Chip) : (setLane t x c).sqs = c.sqs := rfl
@[simp] theorem setLane_oc (t : Target) (x : Lane) (c : Chip) : (setLane t x c).oc = c.oc := rfl
@[simp] theorem setLane_lk (t : Target) (x : Lane) (c : Chip) : (setLane t x c).lk = c.lk := rfl
@[simp] theorem setLane_aq (t : Target) (x : Lane) (c : Chip) : (setLane t x c).aq = c.aq := rfl
@[simp] theorem setLane_mc (t : Target) (x : Lane) (c : Chip) : (setLane t x c).mc = c.mc := rfl
@[simp] theorem setLane_dma (t : Target) (x : Lane) (c : Chip) : (setLane t x c).dma = c.dma := rfl
@[simp] theorem setLane_nv (t : Target) (x : Lane) (c : Chip) : (setLane t x c).nv = c.nv := rfl
@[simp] theorem setLane_th (t : Target) (x : Lane) (c : Chip) : (setLane t x c).th = c.th := rfl
@[simp] theorem setLane_pn (t : Target) (x : Lane) (c : Chip) : (setLane t x c).pn = c.pn := rfl
@[simp] theorem setLane_rings (t : Target) (x : Lane) (c : Chip) : (setLane t x c).rings = c.rings := rfl
@[simp] theorem setLane_hostMsix (t : Target) (x : Lane) (c : Chip) : (setLane t x c).hostMsix = c.hostMsix := rfl
@[simp] theorem setLane_hostPba (t : Target) (x : Lane) (c : Chip) : (setLane t x c).hostPba = c.hostPba := rfl
@[simp] theorem setLane_numVfs (t : Target) (x : Lane) (c : Chip) : (setLane t x c).numVfs = c.numVfs := rfl
@[simp] theorem setLane_regs (t : Target) (x : Lane) (c : Chip) : (setLane t x c).regs = c.regs := rfl
@[simp] theorem setLane_tot (t : Target) (x : Lane) (c : Chip) : (setLane t x c).tot = c.tot := rfl
@[simp] theorem setLane_mem (t : Target) (x : Lane) (c : Chip) : (setLane t x c).mem = c.mem := rfl
@[simp] theorem setLane_out (t : Target) (x : Lane) (c : Chip) : (setLane t x c).out = c.out := rfl

/-! ### setTone changes syn only -/

@[simp] theorem setTone_clk (t : Target) (x : Tone) (c : Chip) : (setTone t x c).clk = c.clk := rfl
@[simp] theorem setTone_free (t : Target) (x : Tone) (c : Chip) : (setTone t x c).free = c.free := rfl
@[simp] theorem setTone_now (t : Target) (x : Tone) (c : Chip) : (setTone t x c).now = c.now := rfl
@[simp] theorem setTone_pw (t : Target) (x : Tone) (c : Chip) : (setTone t x c).pw = c.pw := rfl
@[simp] theorem setTone_md (t : Target) (x : Tone) (c : Chip) : (setTone t x c).md = c.md := rfl
@[simp] theorem setTone_tl (t : Target) (x : Tone) (c : Chip) : (setTone t x c).tl = c.tl := rfl
@[simp] theorem setTone_ev (t : Target) (x : Tone) (c : Chip) : (setTone t x c).ev = c.ev := rfl
@[simp] theorem setTone_mb (t : Target) (x : Tone) (c : Chip) : (setTone t x c).mb = c.mb := rfl
@[simp] theorem setTone_rin (t : Target) (x : Tone) (c : Chip) : (setTone t x c).rin = c.rin := rfl
@[simp] theorem setTone_dx (t : Target) (x : Tone) (c : Chip) : (setTone t x c).dx = c.dx := rfl
@[simp] theorem setTone_sqs (t : Target) (x : Tone) (c : Chip) : (setTone t x c).sqs = c.sqs := rfl
@[simp] theorem setTone_oc (t : Target) (x : Tone) (c : Chip) : (setTone t x c).oc = c.oc := rfl
@[simp] theorem setTone_lk (t : Target) (x : Tone) (c : Chip) : (setTone t x c).lk = c.lk := rfl
@[simp] theorem setTone_aq (t : Target) (x : Tone) (c : Chip) : (setTone t x c).aq = c.aq := rfl
@[simp] theorem setTone_mc (t : Target) (x : Tone) (c : Chip) : (setTone t x c).mc = c.mc := rfl
@[simp] theorem setTone_dma (t : Target) (x : Tone) (c : Chip) : (setTone t x c).dma = c.dma := rfl
@[simp] theorem setTone_nv (t : Target) (x : Tone) (c : Chip) : (setTone t x c).nv = c.nv := rfl
@[simp] theorem setTone_th (t : Target) (x : Tone) (c : Chip) : (setTone t x c).th = c.th := rfl
@[simp] theorem setTone_pn (t : Target) (x : Tone) (c : Chip) : (setTone t x c).pn = c.pn := rfl
@[simp] theorem setTone_rings (t : Target) (x : Tone) (c : Chip) : (setTone t x c).rings = c.rings := rfl
@[simp] theorem setTone_hostMsix (t : Target) (x : Tone) (c : Chip) : (setTone t x c).hostMsix = c.hostMsix := rfl
@[simp] theorem setTone_hostPba (t : Target) (x : Tone) (c : Chip) : (setTone t x c).hostPba = c.hostPba := rfl
@[simp] theorem setTone_numVfs (t : Target) (x : Tone) (c : Chip) : (setTone t x c).numVfs = c.numVfs := rfl
@[simp] theorem setTone_regs (t : Target) (x : Tone) (c : Chip) : (setTone t x c).regs = c.regs := rfl
@[simp] theorem setTone_tot (t : Target) (x : Tone) (c : Chip) : (setTone t x c).tot = c.tot := rfl
@[simp] theorem setTone_mem (t : Target) (x : Tone) (c : Chip) : (setTone t x c).mem = c.mem := rfl
@[simp] theorem setTone_out (t : Target) (x : Tone) (c : Chip) : (setTone t x c).out = c.out := rfl

/-! ### setBias changes syn only -/

@[simp] theorem setBias_clk (o : Nat) (x : BiasOut) (c : Chip) : (setBias o x c).clk = c.clk := rfl
@[simp] theorem setBias_free (o : Nat) (x : BiasOut) (c : Chip) : (setBias o x c).free = c.free := rfl
@[simp] theorem setBias_now (o : Nat) (x : BiasOut) (c : Chip) : (setBias o x c).now = c.now := rfl
@[simp] theorem setBias_pw (o : Nat) (x : BiasOut) (c : Chip) : (setBias o x c).pw = c.pw := rfl
@[simp] theorem setBias_md (o : Nat) (x : BiasOut) (c : Chip) : (setBias o x c).md = c.md := rfl
@[simp] theorem setBias_tl (o : Nat) (x : BiasOut) (c : Chip) : (setBias o x c).tl = c.tl := rfl
@[simp] theorem setBias_ev (o : Nat) (x : BiasOut) (c : Chip) : (setBias o x c).ev = c.ev := rfl
@[simp] theorem setBias_mb (o : Nat) (x : BiasOut) (c : Chip) : (setBias o x c).mb = c.mb := rfl
@[simp] theorem setBias_rin (o : Nat) (x : BiasOut) (c : Chip) : (setBias o x c).rin = c.rin := rfl
@[simp] theorem setBias_dx (o : Nat) (x : BiasOut) (c : Chip) : (setBias o x c).dx = c.dx := rfl
@[simp] theorem setBias_sqs (o : Nat) (x : BiasOut) (c : Chip) : (setBias o x c).sqs = c.sqs := rfl
@[simp] theorem setBias_oc (o : Nat) (x : BiasOut) (c : Chip) : (setBias o x c).oc = c.oc := rfl
@[simp] theorem setBias_lk (o : Nat) (x : BiasOut) (c : Chip) : (setBias o x c).lk = c.lk := rfl
@[simp] theorem setBias_aq (o : Nat) (x : BiasOut) (c : Chip) : (setBias o x c).aq = c.aq := rfl
@[simp] theorem setBias_mc (o : Nat) (x : BiasOut) (c : Chip) : (setBias o x c).mc = c.mc := rfl
@[simp] theorem setBias_dma (o : Nat) (x : BiasOut) (c : Chip) : (setBias o x c).dma = c.dma := rfl
@[simp] theorem setBias_nv (o : Nat) (x : BiasOut) (c : Chip) : (setBias o x c).nv = c.nv := rfl
@[simp] theorem setBias_th (o : Nat) (x : BiasOut) (c : Chip) : (setBias o x c).th = c.th := rfl
@[simp] theorem setBias_pn (o : Nat) (x : BiasOut) (c : Chip) : (setBias o x c).pn = c.pn := rfl
@[simp] theorem setBias_rings (o : Nat) (x : BiasOut) (c : Chip) : (setBias o x c).rings = c.rings := rfl
@[simp] theorem setBias_hostMsix (o : Nat) (x : BiasOut) (c : Chip) : (setBias o x c).hostMsix = c.hostMsix := rfl
@[simp] theorem setBias_hostPba (o : Nat) (x : BiasOut) (c : Chip) : (setBias o x c).hostPba = c.hostPba := rfl
@[simp] theorem setBias_numVfs (o : Nat) (x : BiasOut) (c : Chip) : (setBias o x c).numVfs = c.numVfs := rfl
@[simp] theorem setBias_regs (o : Nat) (x : BiasOut) (c : Chip) : (setBias o x c).regs = c.regs := rfl
@[simp] theorem setBias_tot (o : Nat) (x : BiasOut) (c : Chip) : (setBias o x c).tot = c.tot := rfl
@[simp] theorem setBias_mem (o : Nat) (x : BiasOut) (c : Chip) : (setBias o x c).mem = c.mem := rfl
@[simp] theorem setBias_out (o : Nat) (x : BiasOut) (c : Chip) : (setBias o x c).out = c.out := rfl

/-! ### setOsc changes rin only -/

@[simp] theorem setOsc_clk (ch : Nat) (x : Osc) (c : Chip) : (setOsc ch x c).clk = c.clk := rfl
@[simp] theorem setOsc_free (ch : Nat) (x : Osc) (c : Chip) : (setOsc ch x c).free = c.free := rfl
@[simp] theorem setOsc_now (ch : Nat) (x : Osc) (c : Chip) : (setOsc ch x c).now = c.now := rfl
@[simp] theorem setOsc_pw (ch : Nat) (x : Osc) (c : Chip) : (setOsc ch x c).pw = c.pw := rfl
@[simp] theorem setOsc_md (ch : Nat) (x : Osc) (c : Chip) : (setOsc ch x c).md = c.md := rfl
@[simp] theorem setOsc_tl (ch : Nat) (x : Osc) (c : Chip) : (setOsc ch x c).tl = c.tl := rfl
@[simp] theorem setOsc_ev (ch : Nat) (x : Osc) (c : Chip) : (setOsc ch x c).ev = c.ev := rfl
@[simp] theorem setOsc_mb (ch : Nat) (x : Osc) (c : Chip) : (setOsc ch x c).mb = c.mb := rfl
@[simp] theorem setOsc_syn (ch : Nat) (x : Osc) (c : Chip) : (setOsc ch x c).syn = c.syn := rfl
@[simp] theorem setOsc_dx (ch : Nat) (x : Osc) (c : Chip) : (setOsc ch x c).dx = c.dx := rfl
@[simp] theorem setOsc_sqs (ch : Nat) (x : Osc) (c : Chip) : (setOsc ch x c).sqs = c.sqs := rfl
@[simp] theorem setOsc_oc (ch : Nat) (x : Osc) (c : Chip) : (setOsc ch x c).oc = c.oc := rfl
@[simp] theorem setOsc_lk (ch : Nat) (x : Osc) (c : Chip) : (setOsc ch x c).lk = c.lk := rfl
@[simp] theorem setOsc_aq (ch : Nat) (x : Osc) (c : Chip) : (setOsc ch x c).aq = c.aq := rfl
@[simp] theorem setOsc_mc (ch : Nat) (x : Osc) (c : Chip) : (setOsc ch x c).mc = c.mc := rfl
@[simp] theorem setOsc_dma (ch : Nat) (x : Osc) (c : Chip) : (setOsc ch x c).dma = c.dma := rfl
@[simp] theorem setOsc_nv (ch : Nat) (x : Osc) (c : Chip) : (setOsc ch x c).nv = c.nv := rfl
@[simp] theorem setOsc_th (ch : Nat) (x : Osc) (c : Chip) : (setOsc ch x c).th = c.th := rfl
@[simp] theorem setOsc_pn (ch : Nat) (x : Osc) (c : Chip) : (setOsc ch x c).pn = c.pn := rfl
@[simp] theorem setOsc_rings (ch : Nat) (x : Osc) (c : Chip) : (setOsc ch x c).rings = c.rings := rfl
@[simp] theorem setOsc_hostMsix (ch : Nat) (x : Osc) (c : Chip) : (setOsc ch x c).hostMsix = c.hostMsix := rfl
@[simp] theorem setOsc_hostPba (ch : Nat) (x : Osc) (c : Chip) : (setOsc ch x c).hostPba = c.hostPba := rfl
@[simp] theorem setOsc_numVfs (ch : Nat) (x : Osc) (c : Chip) : (setOsc ch x c).numVfs = c.numVfs := rfl
@[simp] theorem setOsc_regs (ch : Nat) (x : Osc) (c : Chip) : (setOsc ch x c).regs = c.regs := rfl
@[simp] theorem setOsc_tot (ch : Nat) (x : Osc) (c : Chip) : (setOsc ch x c).tot = c.tot := rfl
@[simp] theorem setOsc_mem (ch : Nat) (x : Osc) (c : Chip) : (setOsc ch x c).mem = c.mem := rfl
@[simp] theorem setOsc_out (ch : Nat) (x : Osc) (c : Chip) : (setOsc ch x c).out = c.out := rfl

/-! ### setEst changes rin only -/

@[simp] theorem setEst_clk (r : Nat) (x : Estimator) (c : Chip) : (setEst r x c).clk = c.clk := rfl
@[simp] theorem setEst_free (r : Nat) (x : Estimator) (c : Chip) : (setEst r x c).free = c.free := rfl
@[simp] theorem setEst_now (r : Nat) (x : Estimator) (c : Chip) : (setEst r x c).now = c.now := rfl
@[simp] theorem setEst_pw (r : Nat) (x : Estimator) (c : Chip) : (setEst r x c).pw = c.pw := rfl
@[simp] theorem setEst_md (r : Nat) (x : Estimator) (c : Chip) : (setEst r x c).md = c.md := rfl
@[simp] theorem setEst_tl (r : Nat) (x : Estimator) (c : Chip) : (setEst r x c).tl = c.tl := rfl
@[simp] theorem setEst_ev (r : Nat) (x : Estimator) (c : Chip) : (setEst r x c).ev = c.ev := rfl
@[simp] theorem setEst_mb (r : Nat) (x : Estimator) (c : Chip) : (setEst r x c).mb = c.mb := rfl
@[simp] theorem setEst_syn (r : Nat) (x : Estimator) (c : Chip) : (setEst r x c).syn = c.syn := rfl
@[simp] theorem setEst_dx (r : Nat) (x : Estimator) (c : Chip) : (setEst r x c).dx = c.dx := rfl
@[simp] theorem setEst_sqs (r : Nat) (x : Estimator) (c : Chip) : (setEst r x c).sqs = c.sqs := rfl
@[simp] theorem setEst_oc (r : Nat) (x : Estimator) (c : Chip) : (setEst r x c).oc = c.oc := rfl
@[simp] theorem setEst_lk (r : Nat) (x : Estimator) (c : Chip) : (setEst r x c).lk = c.lk := rfl
@[simp] theorem setEst_aq (r : Nat) (x : Estimator) (c : Chip) : (setEst r x c).aq = c.aq := rfl
@[simp] theorem setEst_mc (r : Nat) (x : Estimator) (c : Chip) : (setEst r x c).mc = c.mc := rfl
@[simp] theorem setEst_dma (r : Nat) (x : Estimator) (c : Chip) : (setEst r x c).dma = c.dma := rfl
@[simp] theorem setEst_nv (r : Nat) (x : Estimator) (c : Chip) : (setEst r x c).nv = c.nv := rfl
@[simp] theorem setEst_th (r : Nat) (x : Estimator) (c : Chip) : (setEst r x c).th = c.th := rfl
@[simp] theorem setEst_pn (r : Nat) (x : Estimator) (c : Chip) : (setEst r x c).pn = c.pn := rfl
@[simp] theorem setEst_rings (r : Nat) (x : Estimator) (c : Chip) : (setEst r x c).rings = c.rings := rfl
@[simp] theorem setEst_hostMsix (r : Nat) (x : Estimator) (c : Chip) : (setEst r x c).hostMsix = c.hostMsix := rfl
@[simp] theorem setEst_hostPba (r : Nat) (x : Estimator) (c : Chip) : (setEst r x c).hostPba = c.hostPba := rfl
@[simp] theorem setEst_numVfs (r : Nat) (x : Estimator) (c : Chip) : (setEst r x c).numVfs = c.numVfs := rfl
@[simp] theorem setEst_regs (r : Nat) (x : Estimator) (c : Chip) : (setEst r x c).regs = c.regs := rfl
@[simp] theorem setEst_tot (r : Nat) (x : Estimator) (c : Chip) : (setEst r x c).tot = c.tot := rfl
@[simp] theorem setEst_mem (r : Nat) (x : Estimator) (c : Chip) : (setEst r x c).mem = c.mem := rfl
@[simp] theorem setEst_out (r : Nat) (x : Estimator) (c : Chip) : (setEst r x c).out = c.out := rfl

/-! ### setStream changes aq only -/

@[simp] theorem setStream_clk (k : Nat) (x : Stream) (c : Chip) : (setStream k x c).clk = c.clk := rfl
@[simp] theorem setStream_free (k : Nat) (x : Stream) (c : Chip) : (setStream k x c).free = c.free := rfl
@[simp] theorem setStream_now (k : Nat) (x : Stream) (c : Chip) : (setStream k x c).now = c.now := rfl
@[simp] theorem setStream_pw (k : Nat) (x : Stream) (c : Chip) : (setStream k x c).pw = c.pw := rfl
@[simp] theorem setStream_md (k : Nat) (x : Stream) (c : Chip) : (setStream k x c).md = c.md := rfl
@[simp] theorem setStream_tl (k : Nat) (x : Stream) (c : Chip) : (setStream k x c).tl = c.tl := rfl
@[simp] theorem setStream_ev (k : Nat) (x : Stream) (c : Chip) : (setStream k x c).ev = c.ev := rfl
@[simp] theorem setStream_mb (k : Nat) (x : Stream) (c : Chip) : (setStream k x c).mb = c.mb := rfl
@[simp] theorem setStream_syn (k : Nat) (x : Stream) (c : Chip) : (setStream k x c).syn = c.syn := rfl
@[simp] theorem setStream_rin (k : Nat) (x : Stream) (c : Chip) : (setStream k x c).rin = c.rin := rfl
@[simp] theorem setStream_dx (k : Nat) (x : Stream) (c : Chip) : (setStream k x c).dx = c.dx := rfl
@[simp] theorem setStream_sqs (k : Nat) (x : Stream) (c : Chip) : (setStream k x c).sqs = c.sqs := rfl
@[simp] theorem setStream_oc (k : Nat) (x : Stream) (c : Chip) : (setStream k x c).oc = c.oc := rfl
@[simp] theorem setStream_lk (k : Nat) (x : Stream) (c : Chip) : (setStream k x c).lk = c.lk := rfl
@[simp] theorem setStream_mc (k : Nat) (x : Stream) (c : Chip) : (setStream k x c).mc = c.mc := rfl
@[simp] theorem setStream_dma (k : Nat) (x : Stream) (c : Chip) : (setStream k x c).dma = c.dma := rfl
@[simp] theorem setStream_nv (k : Nat) (x : Stream) (c : Chip) : (setStream k x c).nv = c.nv := rfl
@[simp] theorem setStream_th (k : Nat) (x : Stream) (c : Chip) : (setStream k x c).th = c.th := rfl
@[simp] theorem setStream_pn (k : Nat) (x : Stream) (c : Chip) : (setStream k x c).pn = c.pn := rfl
@[simp] theorem setStream_rings (k : Nat) (x : Stream) (c : Chip) : (setStream k x c).rings = c.rings := rfl
@[simp] theorem setStream_hostMsix (k : Nat) (x : Stream) (c : Chip) : (setStream k x c).hostMsix = c.hostMsix := rfl
@[simp] theorem setStream_hostPba (k : Nat) (x : Stream) (c : Chip) : (setStream k x c).hostPba = c.hostPba := rfl
@[simp] theorem setStream_numVfs (k : Nat) (x : Stream) (c : Chip) : (setStream k x c).numVfs = c.numVfs := rfl
@[simp] theorem setStream_regs (k : Nat) (x : Stream) (c : Chip) : (setStream k x c).regs = c.regs := rfl
@[simp] theorem setStream_tot (k : Nat) (x : Stream) (c : Chip) : (setStream k x c).tot = c.tot := rfl
@[simp] theorem setStream_mem (k : Nat) (x : Stream) (c : Chip) : (setStream k x c).mem = c.mem := rfl
@[simp] theorem setStream_out (k : Nat) (x : Stream) (c : Chip) : (setStream k x c).out = c.out := rfl

/-! ### setTu changes aq only -/

@[simp] theorem setTu_clk (t : Nat) (x : TrigUnit) (c : Chip) : (setTu t x c).clk = c.clk := rfl
@[simp] theorem setTu_free (t : Nat) (x : TrigUnit) (c : Chip) : (setTu t x c).free = c.free := rfl
@[simp] theorem setTu_now (t : Nat) (x : TrigUnit) (c : Chip) : (setTu t x c).now = c.now := rfl
@[simp] theorem setTu_pw (t : Nat) (x : TrigUnit) (c : Chip) : (setTu t x c).pw = c.pw := rfl
@[simp] theorem setTu_md (t : Nat) (x : TrigUnit) (c : Chip) : (setTu t x c).md = c.md := rfl
@[simp] theorem setTu_tl (t : Nat) (x : TrigUnit) (c : Chip) : (setTu t x c).tl = c.tl := rfl
@[simp] theorem setTu_ev (t : Nat) (x : TrigUnit) (c : Chip) : (setTu t x c).ev = c.ev := rfl
@[simp] theorem setTu_mb (t : Nat) (x : TrigUnit) (c : Chip) : (setTu t x c).mb = c.mb := rfl
@[simp] theorem setTu_syn (t : Nat) (x : TrigUnit) (c : Chip) : (setTu t x c).syn = c.syn := rfl
@[simp] theorem setTu_rin (t : Nat) (x : TrigUnit) (c : Chip) : (setTu t x c).rin = c.rin := rfl
@[simp] theorem setTu_dx (t : Nat) (x : TrigUnit) (c : Chip) : (setTu t x c).dx = c.dx := rfl
@[simp] theorem setTu_sqs (t : Nat) (x : TrigUnit) (c : Chip) : (setTu t x c).sqs = c.sqs := rfl
@[simp] theorem setTu_oc (t : Nat) (x : TrigUnit) (c : Chip) : (setTu t x c).oc = c.oc := rfl
@[simp] theorem setTu_lk (t : Nat) (x : TrigUnit) (c : Chip) : (setTu t x c).lk = c.lk := rfl
@[simp] theorem setTu_mc (t : Nat) (x : TrigUnit) (c : Chip) : (setTu t x c).mc = c.mc := rfl
@[simp] theorem setTu_dma (t : Nat) (x : TrigUnit) (c : Chip) : (setTu t x c).dma = c.dma := rfl
@[simp] theorem setTu_nv (t : Nat) (x : TrigUnit) (c : Chip) : (setTu t x c).nv = c.nv := rfl
@[simp] theorem setTu_th (t : Nat) (x : TrigUnit) (c : Chip) : (setTu t x c).th = c.th := rfl
@[simp] theorem setTu_pn (t : Nat) (x : TrigUnit) (c : Chip) : (setTu t x c).pn = c.pn := rfl
@[simp] theorem setTu_rings (t : Nat) (x : TrigUnit) (c : Chip) : (setTu t x c).rings = c.rings := rfl
@[simp] theorem setTu_hostMsix (t : Nat) (x : TrigUnit) (c : Chip) : (setTu t x c).hostMsix = c.hostMsix := rfl
@[simp] theorem setTu_hostPba (t : Nat) (x : TrigUnit) (c : Chip) : (setTu t x c).hostPba = c.hostPba := rfl
@[simp] theorem setTu_numVfs (t : Nat) (x : TrigUnit) (c : Chip) : (setTu t x c).numVfs = c.numVfs := rfl
@[simp] theorem setTu_regs (t : Nat) (x : TrigUnit) (c : Chip) : (setTu t x c).regs = c.regs := rfl
@[simp] theorem setTu_tot (t : Nat) (x : TrigUnit) (c : Chip) : (setTu t x c).tot = c.tot := rfl
@[simp] theorem setTu_mem (t : Nat) (x : TrigUnit) (c : Chip) : (setTu t x c).mem = c.mem := rfl
@[simp] theorem setTu_out (t : Nat) (x : TrigUnit) (c : Chip) : (setTu t x c).out = c.out := rfl

/-! ### setMicro changes mc only -/

@[simp] theorem setMicro_clk (e : Nat) (x : Micro) (c : Chip) : (setMicro e x c).clk = c.clk := rfl
@[simp] theorem setMicro_free (e : Nat) (x : Micro) (c : Chip) : (setMicro e x c).free = c.free := rfl
@[simp] theorem setMicro_now (e : Nat) (x : Micro) (c : Chip) : (setMicro e x c).now = c.now := rfl
@[simp] theorem setMicro_pw (e : Nat) (x : Micro) (c : Chip) : (setMicro e x c).pw = c.pw := rfl
@[simp] theorem setMicro_md (e : Nat) (x : Micro) (c : Chip) : (setMicro e x c).md = c.md := rfl
@[simp] theorem setMicro_tl (e : Nat) (x : Micro) (c : Chip) : (setMicro e x c).tl = c.tl := rfl
@[simp] theorem setMicro_ev (e : Nat) (x : Micro) (c : Chip) : (setMicro e x c).ev = c.ev := rfl
@[simp] theorem setMicro_mb (e : Nat) (x : Micro) (c : Chip) : (setMicro e x c).mb = c.mb := rfl
@[simp] theorem setMicro_syn (e : Nat) (x : Micro) (c : Chip) : (setMicro e x c).syn = c.syn := rfl
@[simp] theorem setMicro_rin (e : Nat) (x : Micro) (c : Chip) : (setMicro e x c).rin = c.rin := rfl
@[simp] theorem setMicro_dx (e : Nat) (x : Micro) (c : Chip) : (setMicro e x c).dx = c.dx := rfl
@[simp] theorem setMicro_sqs (e : Nat) (x : Micro) (c : Chip) : (setMicro e x c).sqs = c.sqs := rfl
@[simp] theorem setMicro_oc (e : Nat) (x : Micro) (c : Chip) : (setMicro e x c).oc = c.oc := rfl
@[simp] theorem setMicro_lk (e : Nat) (x : Micro) (c : Chip) : (setMicro e x c).lk = c.lk := rfl
@[simp] theorem setMicro_aq (e : Nat) (x : Micro) (c : Chip) : (setMicro e x c).aq = c.aq := rfl
@[simp] theorem setMicro_dma (e : Nat) (x : Micro) (c : Chip) : (setMicro e x c).dma = c.dma := rfl
@[simp] theorem setMicro_nv (e : Nat) (x : Micro) (c : Chip) : (setMicro e x c).nv = c.nv := rfl
@[simp] theorem setMicro_th (e : Nat) (x : Micro) (c : Chip) : (setMicro e x c).th = c.th := rfl
@[simp] theorem setMicro_pn (e : Nat) (x : Micro) (c : Chip) : (setMicro e x c).pn = c.pn := rfl
@[simp] theorem setMicro_rings (e : Nat) (x : Micro) (c : Chip) : (setMicro e x c).rings = c.rings := rfl
@[simp] theorem setMicro_hostMsix (e : Nat) (x : Micro) (c : Chip) : (setMicro e x c).hostMsix = c.hostMsix := rfl
@[simp] theorem setMicro_hostPba (e : Nat) (x : Micro) (c : Chip) : (setMicro e x c).hostPba = c.hostPba := rfl
@[simp] theorem setMicro_numVfs (e : Nat) (x : Micro) (c : Chip) : (setMicro e x c).numVfs = c.numVfs := rfl
@[simp] theorem setMicro_regs (e : Nat) (x : Micro) (c : Chip) : (setMicro e x c).regs = c.regs := rfl
@[simp] theorem setMicro_tot (e : Nat) (x : Micro) (c : Chip) : (setMicro e x c).tot = c.tot := rfl
@[simp] theorem setMicro_mem (e : Nat) (x : Micro) (c : Chip) : (setMicro e x c).mem = c.mem := rfl
@[simp] theorem setMicro_out (e : Nat) (x : Micro) (c : Chip) : (setMicro e x c).out = c.out := rfl

/-! ### setURegs changes mc only -/

@[simp] theorem setURegs_clk (e : Nat) (r : URegs) (c : Chip) : (setURegs e r c).clk = c.clk := rfl
@[simp] theorem setURegs_free (e : Nat) (r : URegs) (c : Chip) : (setURegs e r c).free = c.free := rfl
@[simp] theorem setURegs_now (e : Nat) (r : URegs) (c : Chip) : (setURegs e r c).now = c.now := rfl
@[simp] theorem setURegs_pw (e : Nat) (r : URegs) (c : Chip) : (setURegs e r c).pw = c.pw := rfl
@[simp] theorem setURegs_md (e : Nat) (r : URegs) (c : Chip) : (setURegs e r c).md = c.md := rfl
@[simp] theorem setURegs_tl (e : Nat) (r : URegs) (c : Chip) : (setURegs e r c).tl = c.tl := rfl
@[simp] theorem setURegs_ev (e : Nat) (r : URegs) (c : Chip) : (setURegs e r c).ev = c.ev := rfl
@[simp] theorem setURegs_mb (e : Nat) (r : URegs) (c : Chip) : (setURegs e r c).mb = c.mb := rfl
@[simp] theorem setURegs_syn (e : Nat) (r : URegs) (c : Chip) : (setURegs e r c).syn = c.syn := rfl
@[simp] theorem setURegs_rin (e : Nat) (r : URegs) (c : Chip) : (setURegs e r c).rin = c.rin := rfl
@[simp] theorem setURegs_dx (e : Nat) (r : URegs) (c : Chip) : (setURegs e r c).dx = c.dx := rfl
@[simp] theorem setURegs_sqs (e : Nat) (r : URegs) (c : Chip) : (setURegs e r c).sqs = c.sqs := rfl
@[simp] theorem setURegs_oc (e : Nat) (r : URegs) (c : Chip) : (setURegs e r c).oc = c.oc := rfl
@[simp] theorem setURegs_lk (e : Nat) (r : URegs) (c : Chip) : (setURegs e r c).lk = c.lk := rfl
@[simp] theorem setURegs_aq (e : Nat) (r : URegs) (c : Chip) : (setURegs e r c).aq = c.aq := rfl
@[simp] theorem setURegs_dma (e : Nat) (r : URegs) (c : Chip) : (setURegs e r c).dma = c.dma := rfl
@[simp] theorem setURegs_nv (e : Nat) (r : URegs) (c : Chip) : (setURegs e r c).nv = c.nv := rfl
@[simp] theorem setURegs_th (e : Nat) (r : URegs) (c : Chip) : (setURegs e r c).th = c.th := rfl
@[simp] theorem setURegs_pn (e : Nat) (r : URegs) (c : Chip) : (setURegs e r c).pn = c.pn := rfl
@[simp] theorem setURegs_rings (e : Nat) (r : URegs) (c : Chip) : (setURegs e r c).rings = c.rings := rfl
@[simp] theorem setURegs_hostMsix (e : Nat) (r : URegs) (c : Chip) : (setURegs e r c).hostMsix = c.hostMsix := rfl
@[simp] theorem setURegs_hostPba (e : Nat) (r : URegs) (c : Chip) : (setURegs e r c).hostPba = c.hostPba := rfl
@[simp] theorem setURegs_numVfs (e : Nat) (r : URegs) (c : Chip) : (setURegs e r c).numVfs = c.numVfs := rfl
@[simp] theorem setURegs_regs (e : Nat) (r : URegs) (c : Chip) : (setURegs e r c).regs = c.regs := rfl
@[simp] theorem setURegs_tot (e : Nat) (r : URegs) (c : Chip) : (setURegs e r c).tot = c.tot := rfl
@[simp] theorem setURegs_mem (e : Nat) (r : URegs) (c : Chip) : (setURegs e r c).mem = c.mem := rfl
@[simp] theorem setURegs_out (e : Nat) (r : URegs) (c : Chip) : (setURegs e r c).out = c.out := rfl

/-! ### setMem changes mem only -/

@[simp] theorem setMem_clk (m : Tab Byte) (c : Chip) : (setMem m c).clk = c.clk := rfl
@[simp] theorem setMem_free (m : Tab Byte) (c : Chip) : (setMem m c).free = c.free := rfl
@[simp] theorem setMem_now (m : Tab Byte) (c : Chip) : (setMem m c).now = c.now := rfl
@[simp] theorem setMem_pw (m : Tab Byte) (c : Chip) : (setMem m c).pw = c.pw := rfl
@[simp] theorem setMem_md (m : Tab Byte) (c : Chip) : (setMem m c).md = c.md := rfl
@[simp] theorem setMem_tl (m : Tab Byte) (c : Chip) : (setMem m c).tl = c.tl := rfl
@[simp] theorem setMem_ev (m : Tab Byte) (c : Chip) : (setMem m c).ev = c.ev := rfl
@[simp] theorem setMem_mb (m : Tab Byte) (c : Chip) : (setMem m c).mb = c.mb := rfl
@[simp] theorem setMem_syn (m : Tab Byte) (c : Chip) : (setMem m c).syn = c.syn := rfl
@[simp] theorem setMem_rin (m : Tab Byte) (c : Chip) : (setMem m c).rin = c.rin := rfl
@[simp] theorem setMem_dx (m : Tab Byte) (c : Chip) : (setMem m c).dx = c.dx := rfl
@[simp] theorem setMem_sqs (m : Tab Byte) (c : Chip) : (setMem m c).sqs = c.sqs := rfl
@[simp] theorem setMem_oc (m : Tab Byte) (c : Chip) : (setMem m c).oc = c.oc := rfl
@[simp] theorem setMem_lk (m : Tab Byte) (c : Chip) : (setMem m c).lk = c.lk := rfl
@[simp] theorem setMem_aq (m : Tab Byte) (c : Chip) : (setMem m c).aq = c.aq := rfl
@[simp] theorem setMem_mc (m : Tab Byte) (c : Chip) : (setMem m c).mc = c.mc := rfl
@[simp] theorem setMem_dma (m : Tab Byte) (c : Chip) : (setMem m c).dma = c.dma := rfl
@[simp] theorem setMem_nv (m : Tab Byte) (c : Chip) : (setMem m c).nv = c.nv := rfl
@[simp] theorem setMem_th (m : Tab Byte) (c : Chip) : (setMem m c).th = c.th := rfl
@[simp] theorem setMem_pn (m : Tab Byte) (c : Chip) : (setMem m c).pn = c.pn := rfl
@[simp] theorem setMem_rings (m : Tab Byte) (c : Chip) : (setMem m c).rings = c.rings := rfl
@[simp] theorem setMem_hostMsix (m : Tab Byte) (c : Chip) : (setMem m c).hostMsix = c.hostMsix := rfl
@[simp] theorem setMem_hostPba (m : Tab Byte) (c : Chip) : (setMem m c).hostPba = c.hostPba := rfl
@[simp] theorem setMem_numVfs (m : Tab Byte) (c : Chip) : (setMem m c).numVfs = c.numVfs := rfl
@[simp] theorem setMem_regs (m : Tab Byte) (c : Chip) : (setMem m c).regs = c.regs := rfl
@[simp] theorem setMem_tot (m : Tab Byte) (c : Chip) : (setMem m c).tot = c.tot := rfl
@[simp] theorem setMem_out (m : Tab Byte) (c : Chip) : (setMem m c).out = c.out := rfl

/-! ### tableWrite changes mem only -/

@[simp] theorem tableWrite_clk (s k : Nat) (sl : Slot) (c : Chip) : (tableWrite s k sl c).clk = c.clk := setMem_clk _ c
@[simp] theorem tableWrite_free (s k : Nat) (sl : Slot) (c : Chip) : (tableWrite s k sl c).free = c.free := setMem_free _ c
@[simp] theorem tableWrite_now (s k : Nat) (sl : Slot) (c : Chip) : (tableWrite s k sl c).now = c.now := setMem_now _ c
@[simp] theorem tableWrite_pw (s k : Nat) (sl : Slot) (c : Chip) : (tableWrite s k sl c).pw = c.pw := setMem_pw _ c
@[simp] theorem tableWrite_md (s k : Nat) (sl : Slot) (c : Chip) : (tableWrite s k sl c).md = c.md := setMem_md _ c
@[simp] theorem tableWrite_tl (s k : Nat) (sl : Slot) (c : Chip) : (tableWrite s k sl c).tl = c.tl := setMem_tl _ c
@[simp] theorem tableWrite_ev (s k : Nat) (sl : Slot) (c : Chip) : (tableWrite s k sl c).ev = c.ev := setMem_ev _ c
@[simp] theorem tableWrite_mb (s k : Nat) (sl : Slot) (c : Chip) : (tableWrite s k sl c).mb = c.mb := setMem_mb _ c
@[simp] theorem tableWrite_syn (s k : Nat) (sl : Slot) (c : Chip) : (tableWrite s k sl c).syn = c.syn := setMem_syn _ c
@[simp] theorem tableWrite_rin (s k : Nat) (sl : Slot) (c : Chip) : (tableWrite s k sl c).rin = c.rin := setMem_rin _ c
@[simp] theorem tableWrite_dx (s k : Nat) (sl : Slot) (c : Chip) : (tableWrite s k sl c).dx = c.dx := setMem_dx _ c
@[simp] theorem tableWrite_sqs (s k : Nat) (sl : Slot) (c : Chip) : (tableWrite s k sl c).sqs = c.sqs := setMem_sqs _ c
@[simp] theorem tableWrite_oc (s k : Nat) (sl : Slot) (c : Chip) : (tableWrite s k sl c).oc = c.oc := setMem_oc _ c
@[simp] theorem tableWrite_lk (s k : Nat) (sl : Slot) (c : Chip) : (tableWrite s k sl c).lk = c.lk := setMem_lk _ c
@[simp] theorem tableWrite_aq (s k : Nat) (sl : Slot) (c : Chip) : (tableWrite s k sl c).aq = c.aq := setMem_aq _ c
@[simp] theorem tableWrite_mc (s k : Nat) (sl : Slot) (c : Chip) : (tableWrite s k sl c).mc = c.mc := setMem_mc _ c
@[simp] theorem tableWrite_dma (s k : Nat) (sl : Slot) (c : Chip) : (tableWrite s k sl c).dma = c.dma := setMem_dma _ c
@[simp] theorem tableWrite_nv (s k : Nat) (sl : Slot) (c : Chip) : (tableWrite s k sl c).nv = c.nv := setMem_nv _ c
@[simp] theorem tableWrite_th (s k : Nat) (sl : Slot) (c : Chip) : (tableWrite s k sl c).th = c.th := setMem_th _ c
@[simp] theorem tableWrite_pn (s k : Nat) (sl : Slot) (c : Chip) : (tableWrite s k sl c).pn = c.pn := setMem_pn _ c
@[simp] theorem tableWrite_rings (s k : Nat) (sl : Slot) (c : Chip) : (tableWrite s k sl c).rings = c.rings := setMem_rings _ c
@[simp] theorem tableWrite_hostMsix (s k : Nat) (sl : Slot) (c : Chip) : (tableWrite s k sl c).hostMsix = c.hostMsix := setMem_hostMsix _ c
@[simp] theorem tableWrite_hostPba (s k : Nat) (sl : Slot) (c : Chip) : (tableWrite s k sl c).hostPba = c.hostPba := setMem_hostPba _ c
@[simp] theorem tableWrite_numVfs (s k : Nat) (sl : Slot) (c : Chip) : (tableWrite s k sl c).numVfs = c.numVfs := setMem_numVfs _ c
@[simp] theorem tableWrite_regs (s k : Nat) (sl : Slot) (c : Chip) : (tableWrite s k sl c).regs = c.regs := setMem_regs _ c
@[simp] theorem tableWrite_tot (s k : Nat) (sl : Slot) (c : Chip) : (tableWrite s k sl c).tot = c.tot := setMem_tot _ c
@[simp] theorem tableWrite_out (s k : Nat) (sl : Slot) (c : Chip) : (tableWrite s k sl c).out = c.out := setMem_out _ c

/-! ### setChan changes dma only -/

@[simp] theorem setChan_clk (k : Nat) (x : Chan) (c : Chip) : (setChan k x c).clk = c.clk := rfl
@[simp] theorem setChan_free (k : Nat) (x : Chan) (c : Chip) : (setChan k x c).free = c.free := rfl
@[simp] theorem setChan_now (k : Nat) (x : Chan) (c : Chip) : (setChan k x c).now = c.now := rfl
@[simp] theorem setChan_pw (k : Nat) (x : Chan) (c : Chip) : (setChan k x c).pw = c.pw := rfl
@[simp] theorem setChan_md (k : Nat) (x : Chan) (c : Chip) : (setChan k x c).md = c.md := rfl
@[simp] theorem setChan_tl (k : Nat) (x : Chan) (c : Chip) : (setChan k x c).tl = c.tl := rfl
@[simp] theorem setChan_ev (k : Nat) (x : Chan) (c : Chip) : (setChan k x c).ev = c.ev := rfl
@[simp] theorem setChan_mb (k : Nat) (x : Chan) (c : Chip) : (setChan k x c).mb = c.mb := rfl
@[simp] theorem setChan_syn (k : Nat) (x : Chan) (c : Chip) : (setChan k x c).syn = c.syn := rfl
@[simp] theorem setChan_rin (k : Nat) (x : Chan) (c : Chip) : (setChan k x c).rin = c.rin := rfl
@[simp] theorem setChan_dx (k : Nat) (x : Chan) (c : Chip) : (setChan k x c).dx = c.dx := rfl
@[simp] theorem setChan_sqs (k : Nat) (x : Chan) (c : Chip) : (setChan k x c).sqs = c.sqs := rfl
@[simp] theorem setChan_oc (k : Nat) (x : Chan) (c : Chip) : (setChan k x c).oc = c.oc := rfl
@[simp] theorem setChan_lk (k : Nat) (x : Chan) (c : Chip) : (setChan k x c).lk = c.lk := rfl
@[simp] theorem setChan_aq (k : Nat) (x : Chan) (c : Chip) : (setChan k x c).aq = c.aq := rfl
@[simp] theorem setChan_mc (k : Nat) (x : Chan) (c : Chip) : (setChan k x c).mc = c.mc := rfl
@[simp] theorem setChan_nv (k : Nat) (x : Chan) (c : Chip) : (setChan k x c).nv = c.nv := rfl
@[simp] theorem setChan_th (k : Nat) (x : Chan) (c : Chip) : (setChan k x c).th = c.th := rfl
@[simp] theorem setChan_pn (k : Nat) (x : Chan) (c : Chip) : (setChan k x c).pn = c.pn := rfl
@[simp] theorem setChan_rings (k : Nat) (x : Chan) (c : Chip) : (setChan k x c).rings = c.rings := rfl
@[simp] theorem setChan_hostMsix (k : Nat) (x : Chan) (c : Chip) : (setChan k x c).hostMsix = c.hostMsix := rfl
@[simp] theorem setChan_hostPba (k : Nat) (x : Chan) (c : Chip) : (setChan k x c).hostPba = c.hostPba := rfl
@[simp] theorem setChan_numVfs (k : Nat) (x : Chan) (c : Chip) : (setChan k x c).numVfs = c.numVfs := rfl
@[simp] theorem setChan_regs (k : Nat) (x : Chan) (c : Chip) : (setChan k x c).regs = c.regs := rfl
@[simp] theorem setChan_tot (k : Nat) (x : Chan) (c : Chip) : (setChan k x c).tot = c.tot := rfl
@[simp] theorem setChan_mem (k : Nat) (x : Chan) (c : Chip) : (setChan k x c).mem = c.mem := rfl
@[simp] theorem setChan_out (k : Nat) (x : Chan) (c : Chip) : (setChan k x c).out = c.out := rfl

/-! ### setPort changes tl only -/

@[simp] theorem setPort_clk (g : Nat) (x : BeaconPort) (c : Chip) : (setPort g x c).clk = c.clk := rfl
@[simp] theorem setPort_free (g : Nat) (x : BeaconPort) (c : Chip) : (setPort g x c).free = c.free := rfl
@[simp] theorem setPort_now (g : Nat) (x : BeaconPort) (c : Chip) : (setPort g x c).now = c.now := rfl
@[simp] theorem setPort_pw (g : Nat) (x : BeaconPort) (c : Chip) : (setPort g x c).pw = c.pw := rfl
@[simp] theorem setPort_md (g : Nat) (x : BeaconPort) (c : Chip) : (setPort g x c).md = c.md := rfl
@[simp] theorem setPort_ev (g : Nat) (x : BeaconPort) (c : Chip) : (setPort g x c).ev = c.ev := rfl
@[simp] theorem setPort_mb (g : Nat) (x : BeaconPort) (c : Chip) : (setPort g x c).mb = c.mb := rfl
@[simp] theorem setPort_syn (g : Nat) (x : BeaconPort) (c : Chip) : (setPort g x c).syn = c.syn := rfl
@[simp] theorem setPort_rin (g : Nat) (x : BeaconPort) (c : Chip) : (setPort g x c).rin = c.rin := rfl
@[simp] theorem setPort_dx (g : Nat) (x : BeaconPort) (c : Chip) : (setPort g x c).dx = c.dx := rfl
@[simp] theorem setPort_sqs (g : Nat) (x : BeaconPort) (c : Chip) : (setPort g x c).sqs = c.sqs := rfl
@[simp] theorem setPort_oc (g : Nat) (x : BeaconPort) (c : Chip) : (setPort g x c).oc = c.oc := rfl
@[simp] theorem setPort_lk (g : Nat) (x : BeaconPort) (c : Chip) : (setPort g x c).lk = c.lk := rfl
@[simp] theorem setPort_aq (g : Nat) (x : BeaconPort) (c : Chip) : (setPort g x c).aq = c.aq := rfl
@[simp] theorem setPort_mc (g : Nat) (x : BeaconPort) (c : Chip) : (setPort g x c).mc = c.mc := rfl
@[simp] theorem setPort_dma (g : Nat) (x : BeaconPort) (c : Chip) : (setPort g x c).dma = c.dma := rfl
@[simp] theorem setPort_nv (g : Nat) (x : BeaconPort) (c : Chip) : (setPort g x c).nv = c.nv := rfl
@[simp] theorem setPort_th (g : Nat) (x : BeaconPort) (c : Chip) : (setPort g x c).th = c.th := rfl
@[simp] theorem setPort_pn (g : Nat) (x : BeaconPort) (c : Chip) : (setPort g x c).pn = c.pn := rfl
@[simp] theorem setPort_rings (g : Nat) (x : BeaconPort) (c : Chip) : (setPort g x c).rings = c.rings := rfl
@[simp] theorem setPort_hostMsix (g : Nat) (x : BeaconPort) (c : Chip) : (setPort g x c).hostMsix = c.hostMsix := rfl
@[simp] theorem setPort_hostPba (g : Nat) (x : BeaconPort) (c : Chip) : (setPort g x c).hostPba = c.hostPba := rfl
@[simp] theorem setPort_numVfs (g : Nat) (x : BeaconPort) (c : Chip) : (setPort g x c).numVfs = c.numVfs := rfl
@[simp] theorem setPort_regs (g : Nat) (x : BeaconPort) (c : Chip) : (setPort g x c).regs = c.regs := rfl
@[simp] theorem setPort_tot (g : Nat) (x : BeaconPort) (c : Chip) : (setPort g x c).tot = c.tot := rfl
@[simp] theorem setPort_mem (g : Nat) (x : BeaconPort) (c : Chip) : (setPort g x c).mem = c.mem := rfl
@[simp] theorem setPort_out (g : Nat) (x : BeaconPort) (c : Chip) : (setPort g x c).out = c.out := rfl

/-! ### setGroup changes lk only -/

@[simp] theorem setGroup_clk (g : Nat) (x : Group) (c : Chip) : (setGroup g x c).clk = c.clk := rfl
@[simp] theorem setGroup_free (g : Nat) (x : Group) (c : Chip) : (setGroup g x c).free = c.free := rfl
@[simp] theorem setGroup_now (g : Nat) (x : Group) (c : Chip) : (setGroup g x c).now = c.now := rfl
@[simp] theorem setGroup_pw (g : Nat) (x : Group) (c : Chip) : (setGroup g x c).pw = c.pw := rfl
@[simp] theorem setGroup_md (g : Nat) (x : Group) (c : Chip) : (setGroup g x c).md = c.md := rfl
@[simp] theorem setGroup_tl (g : Nat) (x : Group) (c : Chip) : (setGroup g x c).tl = c.tl := rfl
@[simp] theorem setGroup_ev (g : Nat) (x : Group) (c : Chip) : (setGroup g x c).ev = c.ev := rfl
@[simp] theorem setGroup_mb (g : Nat) (x : Group) (c : Chip) : (setGroup g x c).mb = c.mb := rfl
@[simp] theorem setGroup_syn (g : Nat) (x : Group) (c : Chip) : (setGroup g x c).syn = c.syn := rfl
@[simp] theorem setGroup_rin (g : Nat) (x : Group) (c : Chip) : (setGroup g x c).rin = c.rin := rfl
@[simp] theorem setGroup_dx (g : Nat) (x : Group) (c : Chip) : (setGroup g x c).dx = c.dx := rfl
@[simp] theorem setGroup_sqs (g : Nat) (x : Group) (c : Chip) : (setGroup g x c).sqs = c.sqs := rfl
@[simp] theorem setGroup_oc (g : Nat) (x : Group) (c : Chip) : (setGroup g x c).oc = c.oc := rfl
@[simp] theorem setGroup_aq (g : Nat) (x : Group) (c : Chip) : (setGroup g x c).aq = c.aq := rfl
@[simp] theorem setGroup_mc (g : Nat) (x : Group) (c : Chip) : (setGroup g x c).mc = c.mc := rfl
@[simp] theorem setGroup_dma (g : Nat) (x : Group) (c : Chip) : (setGroup g x c).dma = c.dma := rfl
@[simp] theorem setGroup_nv (g : Nat) (x : Group) (c : Chip) : (setGroup g x c).nv = c.nv := rfl
@[simp] theorem setGroup_th (g : Nat) (x : Group) (c : Chip) : (setGroup g x c).th = c.th := rfl
@[simp] theorem setGroup_pn (g : Nat) (x : Group) (c : Chip) : (setGroup g x c).pn = c.pn := rfl
@[simp] theorem setGroup_rings (g : Nat) (x : Group) (c : Chip) : (setGroup g x c).rings = c.rings := rfl
@[simp] theorem setGroup_hostMsix (g : Nat) (x : Group) (c : Chip) : (setGroup g x c).hostMsix = c.hostMsix := rfl
@[simp] theorem setGroup_hostPba (g : Nat) (x : Group) (c : Chip) : (setGroup g x c).hostPba = c.hostPba := rfl
@[simp] theorem setGroup_numVfs (g : Nat) (x : Group) (c : Chip) : (setGroup g x c).numVfs = c.numVfs := rfl
@[simp] theorem setGroup_regs (g : Nat) (x : Group) (c : Chip) : (setGroup g x c).regs = c.regs := rfl
@[simp] theorem setGroup_tot (g : Nat) (x : Group) (c : Chip) : (setGroup g x c).tot = c.tot := rfl
@[simp] theorem setGroup_mem (g : Nat) (x : Group) (c : Chip) : (setGroup g x c).mem = c.mem := rfl
@[simp] theorem setGroup_out (g : Nat) (x : Group) (c : Chip) : (setGroup g x c).out = c.out := rfl

/-! ### setEng changes dx only -/

@[simp] theorem setEng_clk (e : Nat) (x : Engine) (c : Chip) : (setEng e x c).clk = c.clk := rfl
@[simp] theorem setEng_free (e : Nat) (x : Engine) (c : Chip) : (setEng e x c).free = c.free := rfl
@[simp] theorem setEng_now (e : Nat) (x : Engine) (c : Chip) : (setEng e x c).now = c.now := rfl
@[simp] theorem setEng_pw (e : Nat) (x : Engine) (c : Chip) : (setEng e x c).pw = c.pw := rfl
@[simp] theorem setEng_md (e : Nat) (x : Engine) (c : Chip) : (setEng e x c).md = c.md := rfl
@[simp] theorem setEng_tl (e : Nat) (x : Engine) (c : Chip) : (setEng e x c).tl = c.tl := rfl
@[simp] theorem setEng_ev (e : Nat) (x : Engine) (c : Chip) : (setEng e x c).ev = c.ev := rfl
@[simp] theorem setEng_mb (e : Nat) (x : Engine) (c : Chip) : (setEng e x c).mb = c.mb := rfl
@[simp] theorem setEng_syn (e : Nat) (x : Engine) (c : Chip) : (setEng e x c).syn = c.syn := rfl
@[simp] theorem setEng_rin (e : Nat) (x : Engine) (c : Chip) : (setEng e x c).rin = c.rin := rfl
@[simp] theorem setEng_sqs (e : Nat) (x : Engine) (c : Chip) : (setEng e x c).sqs = c.sqs := rfl
@[simp] theorem setEng_oc (e : Nat) (x : Engine) (c : Chip) : (setEng e x c).oc = c.oc := rfl
@[simp] theorem setEng_lk (e : Nat) (x : Engine) (c : Chip) : (setEng e x c).lk = c.lk := rfl
@[simp] theorem setEng_aq (e : Nat) (x : Engine) (c : Chip) : (setEng e x c).aq = c.aq := rfl
@[simp] theorem setEng_mc (e : Nat) (x : Engine) (c : Chip) : (setEng e x c).mc = c.mc := rfl
@[simp] theorem setEng_dma (e : Nat) (x : Engine) (c : Chip) : (setEng e x c).dma = c.dma := rfl
@[simp] theorem setEng_nv (e : Nat) (x : Engine) (c : Chip) : (setEng e x c).nv = c.nv := rfl
@[simp] theorem setEng_th (e : Nat) (x : Engine) (c : Chip) : (setEng e x c).th = c.th := rfl
@[simp] theorem setEng_pn (e : Nat) (x : Engine) (c : Chip) : (setEng e x c).pn = c.pn := rfl
@[simp] theorem setEng_rings (e : Nat) (x : Engine) (c : Chip) : (setEng e x c).rings = c.rings := rfl
@[simp] theorem setEng_hostMsix (e : Nat) (x : Engine) (c : Chip) : (setEng e x c).hostMsix = c.hostMsix := rfl
@[simp] theorem setEng_hostPba (e : Nat) (x : Engine) (c : Chip) : (setEng e x c).hostPba = c.hostPba := rfl
@[simp] theorem setEng_numVfs (e : Nat) (x : Engine) (c : Chip) : (setEng e x c).numVfs = c.numVfs := rfl
@[simp] theorem setEng_regs (e : Nat) (x : Engine) (c : Chip) : (setEng e x c).regs = c.regs := rfl
@[simp] theorem setEng_tot (e : Nat) (x : Engine) (c : Chip) : (setEng e x c).tot = c.tot := rfl
@[simp] theorem setEng_mem (e : Nat) (x : Engine) (c : Chip) : (setEng e x c).mem = c.mem := rfl
@[simp] theorem setEng_out (e : Nat) (x : Engine) (c : Chip) : (setEng e x c).out = c.out := rfl

/-! ### setDu changes oc only -/

@[simp] theorem setDu_clk (d : Nat) (x : DecUnit) (c : Chip) : (setDu d x c).clk = c.clk := rfl
@[simp] theorem setDu_free (d : Nat) (x : DecUnit) (c : Chip) : (setDu d x c).free = c.free := rfl
@[simp] theorem setDu_now (d : Nat) (x : DecUnit) (c : Chip) : (setDu d x c).now = c.now := rfl
@[simp] theorem setDu_pw (d : Nat) (x : DecUnit) (c : Chip) : (setDu d x c).pw = c.pw := rfl
@[simp] theorem setDu_md (d : Nat) (x : DecUnit) (c : Chip) : (setDu d x c).md = c.md := rfl
@[simp] theorem setDu_tl (d : Nat) (x : DecUnit) (c : Chip) : (setDu d x c).tl = c.tl := rfl
@[simp] theorem setDu_ev (d : Nat) (x : DecUnit) (c : Chip) : (setDu d x c).ev = c.ev := rfl
@[simp] theorem setDu_mb (d : Nat) (x : DecUnit) (c : Chip) : (setDu d x c).mb = c.mb := rfl
@[simp] theorem setDu_syn (d : Nat) (x : DecUnit) (c : Chip) : (setDu d x c).syn = c.syn := rfl
@[simp] theorem setDu_rin (d : Nat) (x : DecUnit) (c : Chip) : (setDu d x c).rin = c.rin := rfl
@[simp] theorem setDu_dx (d : Nat) (x : DecUnit) (c : Chip) : (setDu d x c).dx = c.dx := rfl
@[simp] theorem setDu_sqs (d : Nat) (x : DecUnit) (c : Chip) : (setDu d x c).sqs = c.sqs := rfl
@[simp] theorem setDu_lk (d : Nat) (x : DecUnit) (c : Chip) : (setDu d x c).lk = c.lk := rfl
@[simp] theorem setDu_aq (d : Nat) (x : DecUnit) (c : Chip) : (setDu d x c).aq = c.aq := rfl
@[simp] theorem setDu_mc (d : Nat) (x : DecUnit) (c : Chip) : (setDu d x c).mc = c.mc := rfl
@[simp] theorem setDu_dma (d : Nat) (x : DecUnit) (c : Chip) : (setDu d x c).dma = c.dma := rfl
@[simp] theorem setDu_nv (d : Nat) (x : DecUnit) (c : Chip) : (setDu d x c).nv = c.nv := rfl
@[simp] theorem setDu_th (d : Nat) (x : DecUnit) (c : Chip) : (setDu d x c).th = c.th := rfl
@[simp] theorem setDu_pn (d : Nat) (x : DecUnit) (c : Chip) : (setDu d x c).pn = c.pn := rfl
@[simp] theorem setDu_rings (d : Nat) (x : DecUnit) (c : Chip) : (setDu d x c).rings = c.rings := rfl
@[simp] theorem setDu_hostMsix (d : Nat) (x : DecUnit) (c : Chip) : (setDu d x c).hostMsix = c.hostMsix := rfl
@[simp] theorem setDu_hostPba (d : Nat) (x : DecUnit) (c : Chip) : (setDu d x c).hostPba = c.hostPba := rfl
@[simp] theorem setDu_numVfs (d : Nat) (x : DecUnit) (c : Chip) : (setDu d x c).numVfs = c.numVfs := rfl
@[simp] theorem setDu_regs (d : Nat) (x : DecUnit) (c : Chip) : (setDu d x c).regs = c.regs := rfl
@[simp] theorem setDu_tot (d : Nat) (x : DecUnit) (c : Chip) : (setDu d x c).tot = c.tot := rfl
@[simp] theorem setDu_mem (d : Nat) (x : DecUnit) (c : Chip) : (setDu d x c).mem = c.mem := rfl
@[simp] theorem setDu_out (d : Nat) (x : DecUnit) (c : Chip) : (setDu d x c).out = c.out := rfl

end Sys2Proof.Machine
end

