-- ==== Sys2Proof/Laws/Tab.lean ====
section
/-!
SUPPORT. Sparse tables: what reading gives after writing, and that every operation keeps the canonical form. Memory is such a
table of bytes, the parameter space one of field values.
-/

namespace Sys2Proof.Machine

variable {α : Type}

/-! ### Read after write -/

@[simp] theorem Tab.get_nil (k : Nat) (d : α) : Tab.get [] k d = d := rfl

theorem Tab.get_ins_same (t : Tab α) (k : Nat) (v d : α) : Tab.get (Tab.ins t k v) k d = v := by
  induction t with
  | nil => simp [Tab.ins, Tab.get]
  | cons p r ih =>
    obtain ⟨j, w⟩ := p
    by_cases hj : j = k
    · simp [Tab.ins, Tab.get, hj]
    · by_cases hk : k < j
      · simp [Tab.ins, Tab.get, hj, hk]
      · simp [Tab.ins, Tab.get, hj, hk, ih]

theorem Tab.get_ins_other (t : Tab α) {k k' : Nat} (v d : α) (h : k' ≠ k) :
    Tab.get (Tab.ins t k v) k' d = Tab.get t k' d := by
  induction t with
  | nil => simp [Tab.ins, Tab.get, h.symm]
  | cons p r ih =>
    obtain ⟨j, w⟩ := p
    by_cases hj : j = k
    · subst hj; simp [Tab.ins, Tab.get, h.symm]
    · by_cases hk : k < j
      · simp [Tab.ins, Tab.get, hj, hk, h.symm]
      · simp [Tab.ins, Tab.get, hj, hk, ih]

theorem Tab.get_del_same (t : Tab α) (k : Nat) (d : α) : Tab.get (Tab.del t k) k d = d := by
  induction t with
  | nil => rfl
  | cons p r ih =>
    obtain ⟨j, w⟩ := p
    by_cases hj : j = k
    · simp [Tab.del, hj, ih]
    · simp [Tab.del, Tab.get, hj, ih]

theorem Tab.get_del_other (t : Tab α) {k k' : Nat} (d : α) (h : k' ≠ k) :
    Tab.get (Tab.del t k) k' d = Tab.get t k' d := by
  induction t with
  | nil => rfl
  | cons p r ih =>
    obtain ⟨j, w⟩ := p
    by_cases hj : j = k
    · subst hj; simp [Tab.del, Tab.get, h.symm, ih]
    · simp [Tab.del, Tab.get, hj, ih]

/-- A key reads what was written to it. -/
@[simp] theorem Tab.get_put_same [DecidableEq α] (t : Tab α) (k : Nat) (d v : α) : Tab.get (Tab.put t k d v) k d = v := by
  unfold Tab.put
  split
  · rename_i h; rw [Tab.get_del_same, h]
  · exact Tab.get_ins_same t k v d

/-- Every other key reads as before. -/
theorem Tab.get_put_other [DecidableEq α] (t : Tab α) {k k' : Nat} (d v d' : α) (h : k' ≠ k) :
    Tab.get (Tab.put t k d v) k' d' = Tab.get t k' d' := by
  unfold Tab.put
  split
  · exact Tab.get_del_other t d' h
  · exact Tab.get_ins_other t v d' h

theorem Tab.find_ins_same (t : Tab α) (k : Nat) (v : α) : Tab.find (Tab.ins t k v) k = some v := by
  induction t with
  | nil => simp [Tab.ins, Tab.find]
  | cons p r ih =>
    obtain ⟨j, w⟩ := p
    by_cases hj : j = k
    · simp [Tab.ins, Tab.find, hj]
    · by_cases hk : k < j
      · simp [Tab.ins, Tab.find, hj, hk]
      · simp [Tab.ins, Tab.find, hj, hk, ih]

theorem Tab.find_del_same (t : Tab α) (k : Nat) : Tab.find (Tab.del t k) k = none := by
  induction t with
  | nil => rfl
  | cons p r ih =>
    obtain ⟨j, w⟩ := p
    by_cases hj : j = k
    · simp [Tab.del, hj, ih]
    · simp [Tab.del, Tab.find, hj, ih]

/-! ### The canonical form -/

/-- Every key of a table lies above k. -/
def Tab.above (k : Nat) (t : Tab α) : Prop := ∀ p ∈ t, k < p.1

theorem Tab.rising_cons (p : Nat × α) (t : Tab α) : Tab.rising (p :: t) = true ↔ Tab.above p.1 t ∧ Tab.rising t = true := by
  induction t generalizing p with
  | nil => simp [Tab.rising, Tab.above]
  | cons q r ih =>
    obtain ⟨j, v⟩ := p
    obtain ⟨k, w⟩ := q
    have hr := ih (k, w)
    simp only [Tab.rising, Bool.and_eq_true, decide_eq_true_eq, hr, Tab.above, List.mem_cons, forall_eq_or_imp] at *
    constructor
    · rintro ⟨h, h1, h2⟩; exact ⟨⟨h, fun p hp => lt_trans h (h1 p hp)⟩, h1, h2⟩
    · rintro ⟨⟨h, _⟩, h1, h2⟩; exact ⟨h, h1, h2⟩

theorem Tab.mem_ins {t : Tab α} {k : Nat} {v : α} {p : Nat × α} (h : p ∈ Tab.ins t k v) : p = (k, v) ∨ p ∈ t := by
  induction t with
  | nil => simpa [Tab.ins] using h
  | cons q r ih =>
    obtain ⟨j, w⟩ := q
    unfold Tab.ins at h
    split at h
    · simp only [List.mem_cons] at h ⊢; tauto
    · split at h
      · simp only [List.mem_cons] at h ⊢; tauto
      · simp only [List.mem_cons] at h ⊢
        rcases h with h | h
        · exact .inr (.inl h)
        · rcases ih h with h | h <;> tauto

theorem Tab.mem_del {t : Tab α} {k : Nat} {p : Nat × α} (h : p ∈ Tab.del t k) : p ∈ t := by
  induction t with
  | nil => simp [Tab.del] at h
  | cons q r ih =>
    obtain ⟨j, w⟩ := q
    unfold Tab.del at h
    split at h
    · exact List.mem_cons_of_mem _ (ih h)
    · simp only [List.mem_cons] at h ⊢
      rcases h with h | h
      · exact .inl h
      · exact .inr (ih h)

theorem Tab.rising_ins {t : Tab α} (k : Nat) (v : α) (h : Tab.rising t = true) : Tab.rising (Tab.ins t k v) = true := by
  induction t with
  | nil => rfl
  | cons q r ih =>
    obtain ⟨j, w⟩ := q
    have h' := (Tab.rising_cons _ _).1 h
    unfold Tab.ins
    split
    · rename_i hj
      have hj : j = k := by simpa using hj
      subst hj
      exact (Tab.rising_cons _ _).2 ⟨h'.1, h'.2⟩
    · split
      · rename_i hk
        refine (Tab.rising_cons _ _).2 ⟨?_, h⟩
        intro p hp
        rcases List.mem_cons.1 hp with hp | hp
        · subst hp; exact hk
        · exact lt_trans hk (h'.1 p hp)
      · rename_i hj hk
        refine (Tab.rising_cons _ _).2 ⟨?_, ih h'.2⟩
        intro p hp
        have hj : j ≠ k := by simpa using hj
        rcases Tab.mem_ins hp with hp | hp
        · subst hp; show j < k; omega
        · exact h'.1 p hp

theorem Tab.rising_filter {t : Tab α} (f : Nat × α → Bool) (h : Tab.rising t = true) : Tab.rising (t.filter f) = true := by
  induction t with
  | nil => rfl
  | cons q r ih =>
    have h' := (Tab.rising_cons _ _).1 h
    rw [List.filter_cons]
    split
    · refine (Tab.rising_cons _ _).2 ⟨fun p hp => h'.1 p (List.mem_filter.1 hp).1, ih h'.2⟩
    · exact ih h'.2

theorem Tab.del_eq_filter (t : Tab α) (k : Nat) : Tab.del t k = t.filter (fun p => p.1 != k) := by
  induction t with
  | nil => rfl
  | cons q r ih =>
    obtain ⟨j, w⟩ := q
    by_cases hj : j = k <;> simp [Tab.del, hj, ih]

theorem Tab.rising_del {t : Tab α} (k : Nat) (h : Tab.rising t = true) : Tab.rising (Tab.del t k) = true := by
  rw [Tab.del_eq_filter]; exact Tab.rising_filter _ h

theorem Tab.wf_iff [DecidableEq α] (t : Tab α) (d : α) : Tab.wf t d = true ↔ Tab.rising t = true ∧ ∀ p ∈ t, p.2 ≠ d := by
  simp [Tab.wf, List.all_eq_true]

/-- A write keeps the canonical form. -/
theorem Tab.wf_put [DecidableEq α] {t : Tab α} {d : α} (k : Nat) (v : α) (h : Tab.wf t d = true) :
    Tab.wf (Tab.put t k d v) d = true := by
  rw [Tab.wf_iff] at h ⊢
  unfold Tab.put
  split
  · exact ⟨Tab.rising_del k h.1, fun p hp => h.2 p (Tab.mem_del hp)⟩
  · rename_i hv
    refine ⟨Tab.rising_ins k v h.1, fun p hp => ?_⟩
    rcases Tab.mem_ins hp with hp | hp
    · subst hp; exact hv
    · exact h.2 p hp

/-- Taking entries away keeps the canonical form. -/
theorem Tab.wf_filter [DecidableEq α] {t : Tab α} {d : α} (f : Nat × α → Bool) (h : Tab.wf t d = true) :
    Tab.wf (t.filter f) d = true := by
  rw [Tab.wf_iff] at h ⊢
  exact ⟨Tab.rising_filter f h.1, fun p hp => h.2 p (List.mem_filter.1 hp).1⟩

@[simp] theorem Tab.wf_nil [DecidableEq α] (d : α) : Tab.wf ([] : Tab α) d = true := rfl

/-! ### Memory -/

/-- A store of bytes keeps memory's canonical form. -/
theorem memPut_wf {m : Tab Byte} (a : Nat) (bs : List Byte) (h : Tab.wf m 0 = true) : Tab.wf (memPut m a bs) 0 = true := by
  induction bs generalizing m a with
  | nil => exact h
  | cons b r ih => exact ih (a + 1) (Tab.wf_put a b h)

/-- A region's clear keeps memory's canonical form. -/
theorem memClear_wf {m : Tab Byte} (lo hi : Nat) (h : Tab.wf m 0 = true) : Tab.wf (memClear m lo hi) 0 = true :=
  Tab.wf_filter _ h

/-- Bytes outside a store read as before. -/
theorem memPut_other (m : Tab Byte) (a : Nat) (bs : List Byte) {k : Nat} (h : k < a ∨ a + bs.length ≤ k) :
    Tab.get (memPut m a bs) k 0 = Tab.get m k 0 := by
  induction bs generalizing m a with
  | nil => rfl
  | cons b r ih =>
    simp only [List.length_cons] at h
    unfold memPut
    rw [ih (Tab.put m a 0 b) (a + 1) (by omega), Tab.get_put_other _ _ _ _ (by omega)]

/-- A stored byte reads back. -/
theorem memPut_same (m : Tab Byte) (a : Nat) (bs : List Byte) (i : Nat) (h : i < bs.length) :
    Tab.get (memPut m a bs) (a + i) 0 = bs[i] := by
  induction bs generalizing m a i with
  | nil => simp at h
  | cons b r ih =>
    unfold memPut
    cases i with
    | zero =>
      show Tab.get (memPut (Tab.put m a 0 b) (a + 1) r) a 0 = b
      rw [memPut_other _ _ _ (.inl (Nat.lt_succ_self a)), Tab.get_put_same]
    | succ n =>
      have := ih (Tab.put m a 0 b) (a + 1) n (by simpa using h)
      simpa [Nat.add_comm, Nat.add_left_comm, Nat.add_assoc] using this

/-- What was stored is what a read of its addresses gives. -/
theorem memGet_memPut (m : Tab Byte) (a : Nat) (bs : List Byte) : memGet (memPut m a bs) a bs.length = bs := by
  have key : ∀ (n : Nat) (m : Tab Byte) (a : Nat), (memGet m a n).length = n ∧
      ∀ i (h : i < (memGet m a n).length), (memGet m a n)[i] = Tab.get m (a + i) 0 := by
    intro n
    induction n with
    | zero => intro m a; exact ⟨rfl, fun i h => absurd h (by simp [memGet])⟩
    | succ n ih =>
      intro m a
      obtain ⟨h1, h2⟩ := ih m (a + 1)
      refine ⟨by simp [memGet, h1], fun i h => ?_⟩
      cases i with
      | zero => simp [memGet]
      | succ i =>
        have := h2 i (by simpa [memGet] using h)
        simpa [memGet, Nat.add_comm, Nat.add_left_comm, Nat.add_assoc] using this
  obtain ⟨h1, h2⟩ := key bs.length (memPut m a bs) a
  apply List.ext_getElem h1
  intro i hi hj
  rw [h2 i hi, memPut_same m a bs i hj]

/-- Little-endian bytes spell their number. -/
@[simp] theorem leNat_leBytes (n v : Nat) : leNat (leBytes n v) = v % 256 ^ n := by
  induction n generalizing v with
  | zero => simp [leBytes, leNat, Nat.mod_one]
  | succ n ih =>
    simp only [leBytes, leNat, ih, BitVec.toNat_ofNat, Nat.reducePow]
    rw [Nat.pow_succ', Nat.mod_mul]

@[simp] theorem leBytes_length (n v : Nat) : (leBytes n v).length = n := by
  induction n generalizing v with
  | zero => rfl
  | succ n ih => simp [leBytes, ih]

end Sys2Proof.Machine
end

