-- ==== Sys2Proof/Laws/Ops.lean ====
section
/-!
SUPPORT. One lemma per shared operation that says what it does: fields, flags, counters, outputs, responses, and the parts of
the state that are read through an accessor.
-/

namespace Sys2Proof.Machine

/-! ### Commands -/

@[simp] theorem onChip_eq (f : Chip → Chip) (s : State) : onChip f s = .next { s with chip := f s.chip } := rfl

/-- A command that is a function of the chip completes. -/
theorem completes_onChip {i : Instr} {s : State} {post : Chip → Prop} (f : Chip → Chip)
    (h : exec i s = onChip f s) (hp : post (f s.chip)) : completes i s post :=
  ⟨{ s with chip := f s.chip }, by rw [h, onChip_eq], rfl, hp⟩

/-! ### Fields -/

/-- A field reads the value written, reduced to its width. -/
@[simp] theorem rd_wr_same (f : Field) (v : Nat) (c : Chip) : rd f (wr f v c) = v % 2 ^ f.w := by
  simp [rd, wr]

/-- A field with another key reads as before. -/
theorem rd_wr_other {f g : Field} (v : Nat) (c : Chip) (h : f.key ≠ g.key) : rd f (wr g v c) = rd f c := by
  simp only [rd, wr]
  exact Tab.get_put_other _ _ _ _ h

/-- Fields of a parameter or window that lie at different IDs or bits have different keys. -/
theorem Field.key_ne {f g : Field} (hf : f.lo < 64) (hg : g.lo < 64) (h : f.id ≠ g.id ∨ f.lo ≠ g.lo) : f.key ≠ g.key := by
  unfold Field.key
  omega

theorem fieldsBut_wr (f : Field) (v : Nat) (c : Chip) : fieldsBut [f] c (wr f v c) := by
  intro g hg
  exact rd_wr_other v c (hg f (by simp))

theorem rd_of_regs {f : Field} {c d : Chip} (h : d.regs = c.regs) : rd f d = rd f c := by
  simp only [rd, h]

@[simp] theorem on_wr_same (f : Field) (v : Nat) (c : Chip) : on f (wr f v c) = (v % 2 ^ f.w != 0) := by
  simp [on]

/-! ### Counters and flags -/

/-- A counter that counts n events saturates at its largest value (R442). -/
@[simp] theorem rd_countN_same (f : Field) (n : Nat) (c : Chip) :
    rd f (countN f n c) = min (2 ^ f.w - 1) (rd f c + n) := by
  simp only [countN, rd_wr_same]
  have : 0 < 2 ^ f.w := Nat.two_pow_pos _
  exact Nat.mod_eq_of_lt (by omega)

theorem rd_countN_other {f g : Field} (n : Nat) (c : Chip) (h : f.key ≠ g.key) : rd f (countN g n c) = rd f c := by
  simp only [countN]
  rw [rd_wr_other _ _ h]
  exact rd_of_regs rfl

/-- What counting changes: the fields and the record of the tick. -/
theorem countN_sameBut (f : Field) (n : Nat) (c : Chip) : sameBut [.regs, .now] c (countN f n c) := by
  intro p hp
  cases p <;> first | rfl | simp at hp

/-- An entry of an MSI-X table reads as it was put. -/
@[simp] theorem msixOf_setMsix_same (fn vec : Nat) (x : Msix) (c : Chip) : msixOf fn vec (setMsix fn vec x c) = x :=
  Tab.get_put_same _ _ _ _

/-- Every other entry stays. -/
theorem hostMsix_setMsix_other (fn vec : Nat) (x : Msix) (c : Chip) {q : Nat} (h : q ≠ msixKey fn vec) :
    Tab.get (setMsix fn vec x c).hostMsix q Msix.reset = Tab.get c.hostMsix q Msix.reset := Tab.get_put_other _ _ _ _ h

/-- The message a vector is sent with, where its entry is not masked and the mode lets it go. -/
theorem sendVector_sends {fn vec : Nat} {c : Chip} (hm : (msixOf fn vec c).masked = false)
    (hr : inModes [.reset, .boot, .shutdown] c = false) :
    sendVector fn vec c = emit (.vector fn vec (msixOf fn vec c).addr (msixOf fn vec c).data) c := by
  have h : c.md.mode ≠ .reset ∧ c.md.mode ≠ .boot ∧ c.md.mode ≠ .shutdown := by
    refine ⟨?_, ?_, ?_⟩ <;> intro h <;> simp [inModes, h] at hr
  simp [sendVector, hm, inModes, h.1, h.2.1, h.2.2]

/-- A vector touches outputs and pending bits only. -/
theorem sendVector_sameBut (fn vec : Nat) (c : Chip) : sameBut [.out, .hostPba] c (sendVector fn vec c) := by
  intro p hp
  unfold sendVector
  split
  · cases p <;> rfl
  · split
    · cases p <;> rfl
    · split
      · split <;> cases p <;> first | rfl | simp at hp
      · cases p <;> first | rfl | simp at hp

theorem sendVector_regs (fn vec : Nat) (c : Chip) : (sendVector fn vec c).regs = c.regs :=
  sendVector_sameBut fn vec c .regs (by simp)

/-- A flag that is set reads 1. -/
theorem rd_setFlag_same (f : Field) (c : Chip) (h : 0 < f.w) : rd f (setFlag f c) = 1 := by
  have h1 : 1 % 2 ^ f.w = 1 := Nat.mod_eq_of_lt (Nat.one_lt_two_pow (by omega))
  unfold setFlag
  simp only
  split
  · rw [rd_of_regs (sendVector_regs _ _ _), rd_wr_same, h1]
  · rw [rd_wr_same, h1]

/-- Every other field reads as before. -/
theorem rd_setFlag_other {f g : Field} (c : Chip) (h : f.key ≠ g.key) : rd f (setFlag g c) = rd f c := by
  unfold setFlag
  simp only
  split
  · rw [rd_of_regs (sendVector_regs _ _ _), rd_wr_other _ _ h]; exact rd_of_regs rfl
  · rw [rd_wr_other _ _ h]; exact rd_of_regs rfl

/-- What setting a flag changes. -/
theorem setFlag_sameBut (f : Field) (c : Chip) : sameBut [.regs, .now, .out, .hostPba] c (setFlag f c) := by
  intro p hp
  unfold setFlag
  simp only
  split
  · have h := sendVector_sameBut 0 0 (wr f 1 { c with now := { c.now with set := f.key :: c.now.set } }) p
      (by intro h; apply hp; simp at h ⊢; tauto)
    cases p <;> first | exact h | simp at hp
  · cases p <;> first | rfl | simp at hp

/-! ### Accessors after updates -/

@[simp] theorem ringOf_setRing_same (r : Nat) (x : Ring) (c : Chip) : ringOf r (setRing r x c) = x := by
  simp [ringOf, setRing]

theorem ringOf_setRing_other {r q : Nat} (x : Ring) (c : Chip) (h : q ≠ r) : ringOf q (setRing r x c) = ringOf q c := by
  simp only [ringOf, setRing]
  exact Tab.get_put_other _ _ _ _ h

@[simp] theorem sqOf_setSq_same (s : Nat) (x : Sequencer) (c : Chip) : sqOf s (setSq s x c) = x := by simp [sqOf, setSq]

theorem sqOf_setSq_other {s q : Nat} (x : Sequencer) (c : Chip) (h : q ≠ s) : sqOf q (setSq s x c) = sqOf q c := by
  simp only [sqOf, setSq]
  exact Tab.get_put_other _ _ _ _ h

@[simp] theorem sqOf_wr (s : Nat) (f : Field) (v : Nat) (c : Chip) : sqOf s (wr f v c) = sqOf s c := rfl
@[simp] theorem laneOf_setLane_same (t : Target) (x : Lane) (c : Chip) : laneOf t (setLane t x c) = x := by simp [laneOf, setLane]
@[simp] theorem laneOf_wr (t : Target) (f : Field) (v : Nat) (c : Chip) : laneOf t (wr f v c) = laneOf t c := rfl
@[simp] theorem toneOf_setTone_same (t : Target) (x : Tone) (c : Chip) : toneOf t (setTone t x c) = x := by simp [toneOf, setTone]
@[simp] theorem toneOf_wr (t : Target) (f : Field) (v : Nat) (c : Chip) : toneOf t (wr f v c) = toneOf t c := rfl
@[simp] theorem biasOf_setBias_same (o : Nat) (x : BiasOut) (c : Chip) : biasOf o (setBias o x c) = x := by simp [biasOf, setBias]
@[simp] theorem biasOf_wr (o : Nat) (f : Field) (v : Nat) (c : Chip) : biasOf o (wr f v c) = biasOf o c := rfl
@[simp] theorem oscOf_setOsc_same (ch : Nat) (x : Osc) (c : Chip) : oscOf ch (setOsc ch x c) = x := by simp [oscOf, setOsc]
@[simp] theorem engOf_setEng_same (e : Nat) (x : Engine) (c : Chip) : engOf e (setEng e x c) = x := by simp [engOf, setEng]

theorem engOf_setEng_other {e q : Nat} (x : Engine) (c : Chip) (h : q ≠ e) : engOf q (setEng e x c) = engOf q c := by
  simp only [engOf, setEng]
  exact Tab.get_put_other _ _ _ _ h

@[simp] theorem engOf_wr (e : Nat) (f : Field) (v : Nat) (c : Chip) : engOf e (wr f v c) = engOf e c := rfl
@[simp] theorem streamOf_setStream_same (k : Nat) (x : Stream) (c : Chip) : streamOf k (setStream k x c) = x := by
  simp [streamOf, setStream]
@[simp] theorem tuOf_setTu_same (t : Nat) (x : TrigUnit) (c : Chip) : tuOf t (setTu t x c) = x := by simp [tuOf, setTu]
@[simp] theorem tuOf_wr (t : Nat) (f : Field) (v : Nat) (c : Chip) : tuOf t (wr f v c) = tuOf t c := rfl
@[simp] theorem chanOf_setChan_same (k : Nat) (x : Chan) (c : Chip) : chanOf k (setChan k x c) = x := by simp [chanOf, setChan]
@[simp] theorem chanOf_wr (k : Nat) (f : Field) (v : Nat) (c : Chip) : chanOf k (wr f v c) = chanOf k c := rfl
@[simp] theorem microOf_setMicro_same (e : Nat) (x : Micro) (c : Chip) : microOf e (setMicro e x c) = x := by simp [microOf, setMicro]
@[simp] theorem groupOf_setGroup_same (g : Nat) (x : Group) (c : Chip) : groupOf g (setGroup g x c) = x := by simp [groupOf, setGroup]
@[simp] theorem groupOf_wr (g : Nat) (f : Field) (v : Nat) (c : Chip) : groupOf g (wr f v c) = groupOf g c := rfl
@[simp] theorem duOf_setDu_same (d : Nat) (x : DecUnit) (c : Chip) : duOf d (setDu d x c) = x := by simp [duOf, setDu]

/-! ### Outputs and responses -/

@[simp] theorem emit_out (o : Output) (c : Chip) : (emit o c).out = c.out ++ [o] := rfl
@[simp] theorem rd_emit (f : Field) (o : Output) (c : Chip) : rd f (emit o c) = rd f c := rfl
@[simp] theorem rd_setSq (f : Field) (s : Nat) (x : Sequencer) (c : Chip) : rd f (setSq s x c) = rd f c := rfl
@[simp] theorem rd_setEng (f : Field) (e : Nat) (x : Engine) (c : Chip) : rd f (setEng e x c) = rd f c := rfl
@[simp] theorem rd_setLane (f : Field) (t : Target) (x : Lane) (c : Chip) : rd f (setLane t x c) = rd f c := rfl
@[simp] theorem rd_setTone (f : Field) (t : Target) (x : Tone) (c : Chip) : rd f (setTone t x c) = rd f c := rfl
@[simp] theorem rd_setBias (f : Field) (o : Nat) (x : BiasOut) (c : Chip) : rd f (setBias o x c) = rd f c := rfl
@[simp] theorem rd_setRing (f : Field) (r : Nat) (x : Ring) (c : Chip) : rd f (setRing r x c) = rd f c := rfl
@[simp] theorem rd_setTu (f : Field) (t : Nat) (x : TrigUnit) (c : Chip) : rd f (setTu t x c) = rd f c := rfl
@[simp] theorem rd_setChan (f : Field) (k : Nat) (x : Chan) (c : Chip) : rd f (setChan k x c) = rd f c := rfl
@[simp] theorem rd_setGroup (f : Field) (g : Nat) (x : Group) (c : Chip) : rd f (setGroup g x c) = rd f c := rfl
@[simp] theorem rd_total (f : Field) (k n : Nat) (c : Chip) : rd f (total k n c) = rd f c := rfl

/-- Firing a ring touches the ring, outputs and pending bits. -/
theorem ringFire_sameBut (r : Nat) (c : Chip) : sameBut [.rings, .out, .hostPba] c (ringFire r c) := by
  intro p hp
  have h := sendVector_sameBut (ringOf r c).fn (ringOf r c).vector (setRing r { ringOf r c with armed := false } c) p
    (by intro h; apply hp; simp at h ⊢; tauto)
  cases p <;> first | exact h | simp at hp

/-- Frames compose. -/
theorem sameBut_trans {ps : List Part} {c d e : Chip} (h1 : sameBut ps c d) (h2 : sameBut ps d e) : sameBut ps c e := by
  intro p hp
  have a := h1 p hp
  have b := h2 p hp
  cases p <;> exact Eq.trans b a

/-- A put of a sequencer changes the sequencers only. -/
theorem setSq_sameBut (s : Nat) (x : Sequencer) (c : Chip) : sameBut [.sqs, .mem] c (setSq s x c) := by
  intro p hp
  cases p <;> first | rfl | simp at hp

/-- A store into a slot table changes memory only. -/
theorem tableWrite_sameBut (s k : Nat) (x : Slot) (c : Chip) : sameBut [.sqs, .mem] c (tableWrite s k x c) := by
  intro p hp
  cases p <;> first | (simp [Part.same]; done) | simp at hp

theorem sameBut_ite {ps : List Part} {c d e : Chip} (b : Prop) [Decidable b] (h1 : sameBut ps c d) (h2 : sameBut ps c e) :
    sameBut ps c (if b then d else e) := by
  split <;> assumption

theorem setRing_sameBut (r : Nat) (x : Ring) (c : Chip) : sameBut [.rings, .out, .hostPba] c (setRing r x c) := by
  intro p hp
  cases p <;> first | rfl | simp at hp

theorem emit_sameBut (o : Output) (c : Chip) : sameBut [.rings, .out, .hostPba] c (emit o c) := by
  intro p hp
  cases p <;> first | rfl | simp at hp

theorem sameBut_refl (ps : List Part) (c : Chip) : sameBut ps c c := by
  intro p _
  cases p <;> rfl

/-- Producing entries touches the ring, outputs and pending bits. -/
theorem ringProduce_sameBut (r n : Nat) (irq : Bool) (c : Chip) : sameBut [.rings, .out, .hostPba] c (ringProduce r n irq c) := by
  have h2 : ∀ (b : Prop) [Decidable b] (x : Ring) (o : Output),
      sameBut [.rings, .out, .hostPba] c (if b then setRing r x c else emit o (setRing r x c)) := fun b _ x o =>
    sameBut_ite b (setRing_sameBut r x c) (sameBut_trans (setRing_sameBut r x c) (emit_sameBut o _))
  exact sameBut_ite _ (sameBut_trans (h2 _ _ _) (ringFire_sameBut r _)) (h2 _ _ _)

/-- A response touches the response ring, outputs and pending bits. -/
theorem respond_sameBut (i : Issuer) (status : Nat) (final sched : Bool) (res : List Nat) (c : Chip) :
    sameBut [.rings, .out, .hostPba] c (respond i status final sched res c) := by
  unfold respond
  split
  · exact sameBut_refl _ _
  · exact sameBut_ite _ (sameBut_trans (emit_sameBut _ _) (ringProduce_sameBut _ 1 false _)) (sameBut_refl _ _)

/-! ### Bias outputs -/

/-- In a span a higher code gives no lower voltage (R102, R103). -/
theorem biasVoltage_mono (span : Nat) {a b : Nat} (h : a ≤ b) : biasVoltage span a ≤ biasVoltage span b := by
  unfold biasVoltage
  have hk : (0 : Rat) ≤ (if span % 2 == 0 then 5 / 2 else 5) := by split <;> norm_num
  have hc : (((a : Int) - (zeroCode span : Nat) : Int) : Rat) ≤ (((b : Int) - (zeroCode span : Nat) : Int) : Rat) :=
    Rat.intCast_le_intCast.2 (by omega)
  gcongr

/-- A MODE_SET that a trigger of its tick beats is answered MODE_REFUSED (R21). -/
theorem modeSet_late (target gt : Nat) (i : Issuer) (c : Chip) : modeSet true target gt i c = answer i St.modeRefused [] c := by
  unfold modeSet
  cases codeMode target <;> simp

/-- With an empty queue behind it a MODE_SET has no trigger from outside in its tick. -/
@[simp] theorem outranked_nil (target : Nat) (c : Chip) : outranked target [] c = false := rfl

end Sys2Proof.Machine
end

