-- ==== Sys2Proof/Laws/Dxe.lean ====
section
/-!
SUPPORT. What the discrimination engines' shared operations do, once each: issuing, queueing results, transferring control, repeating.
-/

namespace Sys2Proof.Machine

/-- An effect of an engine that queues results and advances is what dxeMoves says. -/
theorem dxeDone_moves (e : Nat) (rs : List Late) (x : Engine) (c : Chip) :
    dxeMoves e rs x c (dxeDone e rs (setEng e x c)) := by
  refine ⟨?_, ?_, ?_, ?_, ?_, ?_⟩
  · simp [dxeDone, dxeLate]; try rfl
  · intro q hq
    simp only [dxeDone, dxeLate]
    rw [engOf_setEng_other _ _ hq, engOf_setEng_other _ _ hq, engOf_setEng_other _ _ hq]
  · intro p hp; simp only [dxeDone, dxeLate, setEng]; cases p <;> first | rfl | simp at hp
  all_goals simp only [dxeDone, dxeLate, setEng]

/-- The same without a change of the engine before. -/
theorem dxeDone_moves0 (e : Nat) (rs : List Late) (c : Chip) :
    dxeMoves e rs (engOf e c) c (dxeDone e rs c) := by
  refine ⟨?_, ?_, ?_, ?_, ?_, ?_⟩
  · simp [dxeDone, dxeLate]
  · intro q hq
    simp only [dxeDone, dxeLate]
    rw [engOf_setEng_other _ _ hq, engOf_setEng_other _ _ hq]
  · intro p hp; simp only [dxeDone, dxeLate, setEng]; cases p <;> first | rfl | simp at hp
  all_goals simp only [dxeDone, dxeLate, setEng]

/-- A DXE command whose instruction is there to issue answers with its effect. -/
theorem dxe_completes {ins : Instr} {s : State} {e : Nat} {p : DxeInstr → Bool} {eff} {i : DxeInstr} {post}
    (h : exec ins s = onChip (dxeIssue e p eff) s) (hi : dxeIssues e i s.chip) (hp : p i = true)
    (hq : post (eff i s.chip)) : completes ins s post := by
  refine completes_onChip _ h ?_
  unfold dxeIssue
  simp only [hi.1, hp, if_true, hi.2, List.min?_nil]
  exact hq

/-- A negative shift count. -/
theorem sha_count (v : BitVec 32) (h : v.msb = true) : (-v.toInt).toNat = 2 ^ 32 - v.toNat := by
  rw [BitVec.toInt_eq_msb_cond, h]
  have := v.isLt
  simp

/-- Step 1 of R153 is the remainder by LEN. -/
theorem ptrIn_eq (e : Nat) (x : Engine) (b : BitVec 4) (c : Chip) : ptrIn e x b c = pReg x b % rd (P.dxeCbLen e b.toNat) c := by
  unfold ptrIn cbLen
  split
  · rfl
  · rename_i h; rw [Nat.mod_eq_of_lt (by omega)]

/-- A control transfer is what dxeTransfers says. -/
theorem dxeXfer_ok (e : Nat) (t r l) (x : Engine) (c : Chip) : dxeTransfers e t r l x c (dxeXfer e t r l (setEng e x c)) := by
  refine ⟨?_, ?_, ?_⟩
  · simp [dxeXfer, dxeLate]; try rfl
  · intro q hq
    simp only [dxeXfer, dxeLate]
    rw [engOf_setEng_other _ _ hq, engOf_setEng_other _ _ hq, engOf_setEng_other _ _ hq]
  · intro p hp; simp only [dxeXfer, dxeLate, setEng]; cases p <;> first | rfl | simp at hp

/-- The same without a change of the engine before. -/
theorem dxeXfer_ok0 (e : Nat) (t r l) (c : Chip) : dxeTransfers e t r l (engOf e c) c (dxeXfer e t r l c) := by
  refine ⟨?_, ?_, ?_⟩
  · simp [dxeXfer, dxeLate]
  · intro q hq
    simp only [dxeXfer, dxeLate]
    rw [engOf_setEng_other _ _ hq, engOf_setEng_other _ _ hq]
  · intro p hp; simp only [dxeXfer, dxeLate, setEng]; cases p <;> first | rfl | simp at hp

/-- A repeat with passes enters its block. -/
theorem dxeRepeat_begins (e : Nat) (n len : Nat) (c : Chip) (hn : n ≠ 0) : engOf e (dxeRepeat e n len c) = { engOf e c with issueAt := c.clk + 1, pc := (engOf e c).pc + 1, reps := { first := (engOf e c).pc + 1, last := (engOf e c).pc + len, left := n } :: (engOf e c).reps } ∧ sameBut [.dx] c (dxeRepeat e n len c) := by
  unfold dxeRepeat
  simp only [beq_iff_eq, hn, if_false]
  refine ⟨?_, ?_⟩
  · simp [dxeLate]
  · intro p hp; simp only [dxeLate, setEng]; cases p <;> first | rfl | simp at hp

/-- A repeat with no pass skips its block. -/
theorem dxeRepeat_skips (e : Nat) (len : Nat) (c : Chip) : engOf e (dxeRepeat e 0 len c) = { engOf e c with issueAt := c.clk + 1, pc := (repNext ((engOf e c).pc + len) (engOf e c).reps).1, reps := (repNext ((engOf e c).pc + len) (engOf e c).reps).2 } ∧ sameBut [.dx] c (dxeRepeat e 0 len c) := by
  unfold dxeRepeat
  simp only [beq_self_eq_true, if_true]
  refine ⟨?_, ?_⟩
  · simp [dxeLate]
  · intro p hp; simp only [dxeLate, setEng]; cases p <;> first | rfl | simp at hp

/-- LEN 0 means 256 (R159). -/
theorem repLen_eq (l : BitVec 8) : repLen l = if l = 0 then 256 else l.toNat := by simp [repLen]

/-- HALT leaves DXE_RUN 0 and HALTED 1 (R174). -/
theorem dxeHalt_ok (e : Nat) (c : Chip) :
    (fun t => rd (P.dxeDxeRun e) t = 0 ∧ rd (P.dxeHalted e) t = 1 ∧
        engOf e t = dxeAdvance { engOf e c with issueAt := c.clk + 1 } ∧ sameBut [.dx, .regs] c t ∧
        fieldsBut [P.dxeDxeRun e, P.dxeHalted e] c t) (dxeHalt e (dxeDone e [] c)) := by
    refine ⟨?_, ?_, ?_, ?_, ?_⟩
    · simp only [dxeHalt]
      rw [rd_wr_other]
      · simp
      · simp [Field.key, P.dxeDxeRun, P.dxeHalted]
    · simp only [dxeHalt]
      simp [P.dxeHalted]
    · simp [dxeHalt, dxeDone, dxeLate]
    · intro p hp; simp only [dxeHalt, dxeDone, dxeLate, setEng, wr]; cases p <;> first | rfl | simp at hp
    · intro g hg
      simp only [dxeHalt]
      rw [rd_wr_other, rd_wr_other]
      · simp [dxeDone, dxeLate]
      · exact hg _ (by simp)
      · exact hg _ (by simp)

end Sys2Proof.Machine
end

