-- ==== Sys2Proof/Laws/Memory.lean ====
section
/-!
SUPPORT. Every operation that writes on-chip memory keeps its canonical form, and State.reset's memory has it.
-/

namespace Sys2Proof.Machine

/-- State.reset's memory is canonical. -/
theorem reset_memOk : State.reset.chip.memOk := rfl

/-- A chip with the same memory. -/
theorem memOk_of_mem {c d : Chip} (h : d.mem = c.mem) (hc : c.memOk) : d.memOk := by unfold Chip.memOk at *; rw [h]; exact hc

/-- Writing bytes keeps the form. -/
theorem memOk_put {c d : Chip} (a : Nat) (bs : List Byte) (h : d.mem = memPut c.mem a bs) (hc : c.memOk) : d.memOk := by
  unfold Chip.memOk at *; rw [h]; exact memPut_wf a bs hc

/-- Clearing a range keeps the form. -/
theorem memOk_clear {c d : Chip} (lo hi : Nat) (h : d.mem = memClear c.mem lo hi) (hc : c.memOk) : d.memOk := by
  unfold Chip.memOk at *; rw [h]; exact memClear_wf lo hi hc

/-- Laying out control store words keeps the form. -/
theorem storeWords_wf (ws : List (BitVec 128)) (w : Nat) (m : Tab Byte) (h : Tab.wf m 0 = true) :
    Tab.wf (storeWords w ws m) 0 = true := by
  induction ws generalizing w m with
  | nil => exact h
  | cons x xs ih => exact ih _ _ (memPut_wf _ _ h)

/-- A part that is not among those a change may touch is as it was; memory above all. -/
theorem memOk_of_sameBut {ps : List Part} {c d : Chip} (h : sameBut ps c d) (hp : Part.mem ∉ ps) (hc : c.memOk) : d.memOk :=
  memOk_of_mem (h .mem hp) hc

end Sys2Proof.Machine
end

