-- ==== Sys2Proof/Laws/Seq.lean ====
section
/-!
SUPPORT. What the sequencers' shared operations do, once each: issuing, going on, posting a slot.
-/

namespace Sys2Proof.Machine

/-- Going on to the next instruction is what sqMoves says. -/
theorem sqNext_moves0 (s pc : Nat) (c : Chip) : sqMoves s pc (sqOf s c) c (sqNext s pc c) := by
  refine ⟨?_, ?_, ?_⟩
  · simp [sqNext]
  · intro q hq; simp only [sqNext]; rw [sqOf_setSq_other _ _ hq]
  · intro p hp; simp only [sqNext, setSq]; cases p <;> first | rfl | simp at hp

/-- The same after a change of the sequencer. -/
theorem sqNext_moves (s pc : Nat) (x : Sequencer) (c : Chip) : sqMoves s pc x c (sqNext s pc (setSq s x c)) := by
  refine ⟨?_, ?_, ?_⟩
  · simp [sqNext]
  · intro q hq; simp only [sqNext]; rw [sqOf_setSq_other _ _ hq, sqOf_setSq_other _ _ hq]
  · intro p hp; simp only [sqNext, setSq]; cases p <;> first | rfl | simp at hp

/-- A sequencer command whose instruction is there to issue answers with its effect. -/
theorem sq_completes {ins : Instr} {s : State} {q op : Nat} {eff} {i : SqInstr} {post}
    (h : exec ins s = onChip (sqIssue q op eff) s) (hi : sqIssues q op i s.chip)
    (hq : post (eff i s.chip)) : completes ins s post := by
  refine completes_onChip _ h ?_
  obtain ⟨h1, h2, h3, h4, h5, h6⟩ := hi
  unfold sqIssue
  rw [if_pos h1, h5]
  simp only [h2, h3, h4, h6, Bool.false_eq_true, if_false, if_true]
  exact hq

/-- The opcode that a begun instruction has, without a patch. -/
theorem sq_op {s op : Nat} {c : Chip} (h : sqBegun s op c = true) (hp : patched c = false) :
    (sqOp (sqWord s (sqOf s c).pc c)).toNat = op := by
  simp only [sqBegun, sqOpNow, hp, Bool.and_eq_true, beq_iff_eq, Bool.false_eq_true, if_false] at h
  exact h.1.1.1.1.2

/-- After an instruction that cannot be late-bound the next one follows. -/
theorem nextPc_of {s op : Nat} {c : Chip} (h : sqBegun s op c = true) (hp : patched c = false) (h1 : op ≠ 1) (h2 : op ≠ 3) :
    nextPc s c = (sqOf s c).pc + 1 := by
  have := sq_op h hp
  have a : sqOp (sqWord s (sqOf s c).pc c) ≠ 0x01 := by intro h; rw [h] at this; exact h1 this.symm
  have b : sqOp (sqWord s (sqOf s c).pc c) ≠ 0x03 := by intro h; rw [h] at this; exact h2 this.symm
  unfold nextPc isLateBound
  simp
  rintro (h | h)
  · exact absurd h a
  · exact absurd h b

/-- WAITT in one equation. -/
theorem effWaitt_eq (q : Nat) (b r v c) : effWaitt q (.waitt b r v) c = 
    sqNext q (nextPc q c) (
      let x := sqOf q c
      let b := match b.toNat with
      | 0 => x.lastShot.getD (runGtOf c)
      | 1 => runGtOf c
      | _ => (sReg x r).toNat
      let t := (b + v.toNat) % 2 ^ 64
      if t < x.cursor then count (P.sqWaittPastCount q) (setFlag (P.sqWaittPast q) c) else setSq q { x with cursor := t } c) := rfl

/-- A store into a slot table leaves the sequencers. -/
@[simp] theorem sqOf_tableWrite (q s k : Nat) (sl : Slot) (c : Chip) : sqOf q (tableWrite s k sl c) = sqOf q c := by
  simp only [sqOf, tableWrite_sqs]

/-- What a store into a slot table leaves in memory (R186). -/
theorem tableWrite_mem (s k : Nat) (sl : Slot) (c : Chip) :
    (tableWrite s k sl c).mem = memPut c.mem (0x02600000 + 0x10000 * s + 16 * (k % 4096)) (leBytes 16 sl.word) := by
  unfold tableWrite setMem
  rfl

/-- A slot 17 ticks ahead enters the table, and the cursor advances (R186, R187). -/
theorem postNext_posted (s adv : Nat) (sl : Slot) (c : Chip) (h : c.tl.gt + 17 ≤ sl.time) (hn : nextPc s c = (sqOf s c).pc + 1) :
    sqPosted s ((sqOf s c).pc + 1) sl.word
      { sqOf s c with slots := (sqOf s c).slots ++ [sl], cursor := ((sqOf s c).cursor + adv) % 2 ^ 64 } c (postNext s sl adv c) := by
  unfold postNext postSlot
  simp only [if_pos h, hn]
  have l : (leBytes 16 sl.word).length = 16 := leBytes_length _ _
  have m := memGet_memPut c.mem (0x02600000 + 0x10000 * s + 16 * ((sqOf s c).posted % 4096)) (leBytes 16 sl.word)
  rw [l] at m
  refine ⟨by simp only [sqNext, sqOf_setSq_same, sqOf_tableWrite, setSq_clk, tableWrite_clk], fun q hq => ?_, ?_, fun k hk => ?_, ?_⟩
  · simp only [sqNext, sqOf_tableWrite, sqOf_setSq_other _ _ hq]
  · simp only [sqNext, setSq_mem, tableWrite_mem, m]
  · simp only [sqNext, setSq_mem, tableWrite_mem]
    exact memPut_other c.mem _ (leBytes 16 sl.word) (by rw [l]; exact hk)
  · exact sameBut_trans (setSq_sameBut _ _ _) (sameBut_trans (tableWrite_sameBut _ _ _ _)
      (sameBut_trans (setSq_sameBut _ _ _) (setSq_sameBut _ _ _)))

end Sys2Proof.Machine
end

