-- ==== Sys2Proof/WellFormed.lean ====
section
/-!
DEFINITION. Which commands are well formed: what the spec says of an operand that its type does not say. A meaning is total and
does not ask; a command that fails here is one that nothing outside the block can send.
-/

namespace Sys2Proof

/-- An image's header has 64 bytes (R253, R404), and the largest body that is decrypted is the base microcode's (R404). -/
def FlashImage.wf (x : FlashImage) : Bool := x.head.length == 64 && decide (x.plain.length ≤ 491520)

/-- What one BOOT finds: directories of 256 bytes with eight entries each (R403). -/
def BootInput.wf (b : BootInput) : Bool :=
  b.dir.length == 256 && b.dirCopy.length == 256 && b.images.length == 8 && b.images.all FlashImage.wf

/-- DATA_LEN counts the data bytes, 1 to 56 (R286). -/
def Bulk.wf (b : Bulk) : Bool := b.dataLen == b.data.length && decide (1 ≤ b.dataLen ∧ b.dataLen ≤ 56)

/-- A board record has 20 lane entries, four asymmetries and 24 flux offsets (R261, R410). -/
def BoardRec.wf (r : BoardRec) : Bool := r.lanes.length == 20 && r.asym.length == 4 && r.flux.length == 24

/-- The data of one host read: at most 4,096 bytes (R332). -/
def HostRead.wf : HostRead → Bool
  | .data bytes => decide (bytes.length ≤ 4096)
  | .error => true

/-- A command is well formed. -/
def Instr.wf : Instr → Bool
  | .suppliesLost .. => true
  | .bootSequence b => b.wf
  | .clkLost .. | .eccUe .. | .modeSet .. | .epochPulse .. | .epochArm .. | .beaconTx .. | .beaconRx .. | .beaconMiss .. => true
  | .snapshotAt .. | .snapshotFrameRx .. | .calSwitch .. | .sessionOpen .. | .sessionClose .. | .info .. | .ringAlloc .. => true
  | .ringFree .. | .dmaAlloc .. | .dmaFree .. | .paramGet .. | .paramSet .. => true
  | .paramList _ count _ recs => recs.all (fun l => l.length == count.toNat)
  | .drawerOpen .. | .drawerClose .. | .txnCommit .. | .groupMode .. | .cfgSave .. => true
  | .cfgLoad _ _ img => decide (img.recs.length ≤ 65535)
  | .attest _ _ _ _ nonce => nonce.length == 4
  | .auditAck .. | .play .. | .acq .. | .frm .. | .setf .. | .shot .. | .mark .. | .post .. | .txc .. | .calw .. => true
  | .endProg .. | .nop .. | .waitt .. | .waito .. | .waitoResume .. | .waitoTimeout .. | .bro .. | .loop .. | .endl .. => true
  | .sqCall .. | .sqRet .. | .ldr .. | .addr .. | .getc .. | .slotCommit .. | .chainLatch .. | .jumpLatch .. => true
  | .shelfStart .. | .shelfRelease .. | .windowOpen .. | .frameUpdate .. | .frequencyChange .. | .shotBoundary .. => true
  | .endBoundary .. | .markAction .. | .markPulseEnd .. | .postRaise .. | .txcCommit .. | .calwGap .. | .calwWindowEnd .. => true
  | .jumpShelf .. | .stopLane .. | .biaStringUpdate .. | .spanSwitch .. | .faultHold .. | .biasRecordWrite .. => true
  | .estimatorBlock _ blk => blk.est.length == 8
  | .calSwitchAt .. | .calSave .. | .windowEnd .. | .resultEntry .. | .dxeRun .. | .dxeMsg .. | .tickRequest .. => true
  | .serviceAccept .. | .dxeNop .. | .ld .. | .ld2 .. | .st .. | .ldi .. | .ldih .. | .mov .. | .add .. | .sub .. => true
  | .addi .. | .and .. | .or .. | .xor .. | .sha .. | .mul .. | .cmp .. | .cmpi .. | .sat .. | .mac .. | .cmac .. => true
  | .aclr .. | .amov .. | .popr .. | .rdcur .. | .cls .. | .outc .. | .trkw .. | .getm .. | .rdgt .. | .setb .. | .setp .. => true
  | .getp .. | .branch .. | .dxeCall .. | .dxeRet .. | .rts .. | .rpt .. | .rptr .. | .setm .. | .idle .. | .halt .. => true
  | .seedSave .. | .outcomeVisible .. | .decisionRead .. | .decisionVisible .. | .outcomeFrameTx .. => true
  | .outcomeFrameRx _ recs => decide (1 ≤ recs.length ∧ recs.length ≤ 8)
  | .laneAlign .. | .laneAlignLoss .. | .groupUp .. | .groupFail .. | .ckLoss .. | .bufSlip .. | .downHoldEnd .. => true
  | .switchNow .. | .switchFrame .. | .switchGapEnd .. | .joinReq .. | .joinAck .. | .joinNak .. | .leaveFrame .. => true
  | .trigArm .. | .trigFire .. | .join .. | .leave .. | .bulkFrameTx .. => true
  | .bulkFrameRx _ b => b.wf
  | .bulkAck .. | .bulkResend .. | .outTestRec .. | .edgeStamp .. | .settleExpiry .. | .tuRearm .. | .tuArm .. | .armAt .. => true
  | .disarm .. | .streamEn .. | .streamRecordWrite .. | .gapRecord .. | .eventDeliver .. | .markEventPulseEnd .. => true
  | .swFire .. | .lock .. | .markSrcChange .. | .doorbell .. | .ringRun .. | .registerWrite .. | .functionLevelReset .. => true
  | .bootstrapRingRestore .. | .descriptorFetch .. | .descriptorStart .. | .dmaBurst .. => true
  | .hostReadCompletion _ r => r.wf
  | .descriptorComplete .. | .completionRecordWrite .. | .chResume .. | .chAbort .. | .coalTimeExpiry .. => true
  | .bulkPortDecision raised masked => decide (raised.map (·.1)).Nodup && decide masked.Nodup
  | .eccCeTrap _ ticks => decide (1 ≤ ticks ∧ ticks ≤ 6)
  | .eccUeTrap .. => true
  | .peekTrap _ ticks => decide (1 ≤ ticks ∧ ticks ≤ 8)
  | .storeRepair .. => true
  | .thermalSample raw => raw.length == 9
  | .refcomp .. => true
  | .summaryWrite failed => decide failed.Nodup
  | .biasWrite .. | .wearMove .. => true
  | .boardWrite _ _ rec => rec.all BoardRec.wf
  | .svnAdvance .. | .keyRevoke .. | .smbWriteAlertEn .. | .smbClearAlertStat .. | .extest .. | .samplePreload .. => true
  | .dbgBulk .. | .bypass .. | .integratorLenZero .. | .frameDiscard .. | .codeError .. | .prbsError .. => true
  | .timingFrameTx .. | .transmitterReady .. | .clockLaneReturn .. => true
  | .barBadRead .. | .pcieLinkChange .. | .trigPinChange .. | .correctableError .. | .dxeIllegalOp .. | .sqIllegalOp .. | .suppliesValid => true
  | .biasLoader | .resetNLow | .pePerstNLow | .bootEntry | .forcedZeroEnd | .transitionComplete | .runStart => true
  | .calibratePassEnd | .syncTimeout | .epochLoad | .snapshotLatch | .snapshotBankCopy | .drawerCommit | .groupModeChange => true
  | .auditTimeEntry | .periodicCalSave | .trackingWriteApply | .joinRetry | .chanBlock | .rawBlock | .tjWarnClear => true
  | .throttleFall | .throttleHoldEnd | .nvWindowSet | .senseRateReturn | .refcompUpdate | .telemetryPeriodic | .creditTick => true
  | .smbReadMode | .smbReadBootStatus | .smbReadTj | .smbReadSensorFailed | .smbReadDeviceSerial | .smbReadAlertEn => true
  | .smbReadAlertStat | .alertResponse | .clamp | .highz | .dbgBulkGo | .idcode | .benchPeriodToggle | .pePerstNHigh => true
  | .modeTransitionAtGt => true

end Sys2Proof
end

