-- ==== Sys2Proof/Tests/Slice0.lean ====
section
/-!
SUPPORT. The model's own tests: ill-formed commands are refused, program words written out from the spec's encoding tables read as the
instructions they stand for, one step on small states, and, for every statement with hypotheses, concrete states and operands that meet
them: witness_<Name> shows the hypotheses of each clause of Obligations.<Name> together.
-/

namespace Sys2Proof.Tests

open Sys2Proof Sys2Proof.Machine

set_option Elab.async false

/-! ### Small states -/

/-- A chip in a mode, a million ticks on, with its timeline aligned and its supplies good. -/
def chipIn (m : Mode) : Chip :=
  { Chip.reset with
    clk := 1000000
    md := { Modes.reset with mode := m }
    tl := { Timeline.reset with gt := 1000000, counting := true, state := 3 } }

/-- Fields written. -/
def put (l : List (Field × Nat)) (c : Chip) : Chip := l.foldl (fun c p => wr p.1 p.2 c) c

/-- A state with no command waiting. -/
def st (c : Chip) : State := { pending := [], chip := c }

/-- Words laid in memory. -/
def lay (a : Nat) (ws : List Word) (c : Chip) : Chip :=
  { c with mem := memPut c.mem a (ws.flatMap (fun w => leBytes 8 w.toNat)) }

/-- Engine 1 runs and stands at an instruction at address 5; buffer 2 has BASE 40 and LEN 8. -/
def engAt (x : Engine) (i : DxeInstr) : State :=
  st (put [(P.dxeDxeRun 1, 1), (P.dxeCbBase 1 2, 40), (P.dxeCbLen 1 2, 8)]
    (setEng 1 { x with pc := 5 } (lay (0x01E00000 + 0x8000 + 40) [encodeDxe i] (chipIn .run))))

/-- An engine with numbers in its registers. -/
def regs : Engine :=
  { Engine.reset with g := [(1, 0x7FFFFFFFFFFFFFFF), (2, 3), (3, 0xFFFFFFFFFFFFFFFE), (4, 0x0000000500000007)], p := [(2, 7)],
                      a := [(1, 0x00000000000100)], msg := 77 }

/-- A result of channel 7 of engine 1. -/
def result : Result :=
  { c := 7, w := 1, i := -3, q := 9, aborted := false, kchg := true, split := false, conv := true, sat := false, endGt := 999000, sq := 3, entered := 999100 }

/-- The state with its chip changed. -/
def on_ (s : State) (f : Chip → Chip) : State := st (f s.chip)

/-- A group in ADAPT. -/
def adapt (id : Nat) (c : Chip) : Chip :=
  match groupOfId id with
  | some g => { c with mb := { c.mb with adapt := groupKey g :: c.mb.adapt } }
  | none => c

/-- GT is gt. -/
def gtAt (gt : Nat) (c : Chip) : Chip := { c with tl := { c.tl with gt := gt } }

/-- The mode is m. -/
def inMode (m : Mode) (c : Chip) : Chip := { c with md := { c.md with mode := m } }

/-- A window of engine 1's channel 7, slot 1, of sequencer 2's shot 3. -/
def window : Window :=
  { ch := 19, w := 1, start := 999900, stop := 1000000, sq := 2, shot := 3, accI := 1000, accQ := 0, idx := 0, stamp := 0, kchg := false,
    sw := none, conv := true, aborted := false, due := none }

/-- The windows that are open or wait for their entry. -/
def windows (l : List Window) (c : Chip) : Chip := { c with rin := { c.rin with windows := l } }

/-- Sequencer 2 stands at an instruction at address 6, first issued `ago` ticks ago. -/
def sqAt (x : Sequencer) (ago : Nat) (i : SqInstr) : State :=
  st (setSq 2 { x with issuing := true, pc := 6, first := 1000000 - ago } (lay (sqProgAddr 2 6) [encodeSq i] (chipIn .run)))

/-- A sequencer whose time cursor is 100 ticks ahead, with a shot behind it. -/
def sq : Sequencer := { Sequencer.reset with cursor := 1000100, lastShot := some 1000040, shotsPosted := 4, s := [(3, 0xF4300)] }

/-- A slot of sequencer 2's shot 3 at a GT. -/
def slotOf (kind op0 time : Nat) : Slot :=
  { time := time, kind := kind, lane := 1, rep := false, lb := false, sel := 0, op1 := 0, op0 := op0, shot := 3, posted := 999000,
    boundary := 999500 }

/-- A latched slot that acts now, on what it is bound to. -/
def latchedOf (kind op : Nat) (b : Bind) : Latched :=
  { slot := slotOf kind op 1000000, op := op, bind := b, lateOnly := false, at_ := 1000000 }

/-- Sequencer 2 holds a latched slot. -/
def act (l : Latched) (c : Chip) : State := st (setSq 2 { sq with latched := [l] } c)

/-- Bound to nothing. -/
def free : Bind := { kind := 0, tone := none, chan := none }

/-- Shelf k is VALID, 64 samples long. -/
def shelf (k : Nat) (c : Chip) : Chip := put [(P.shelfLength k, 64), (P.shelfState k, shelfValid)] c

/-- Sequencer 2's lane 1 is bound to FLX port 3. -/
def flux (c : Chip) : Chip := put [(P.sqKind 2 1, 3), (P.sqTport 2 1, 3), (P.flxPortEn 3, 1)] c

/-- An interval in play of shelf 9 on a lane. -/
def playing (start stop : Nat) (begun : Bool) : Play :=
  { shelf := 9, start := start, stop := stop, amp := some 5, silent := false, underrun := false, kind := .play, latched := 0,
    next := some 10, begun := begun }

/-- An entry of the schedule that acts now. -/
def dueNow (a : Act) : Sched := { act := a, gt := 1000000, gt0 := true, vouched := true, issuer := none }

/-- What is scheduled. -/
def scheduled (l : List Sched) (c : Chip) : Chip := { c with tl := { c.tl with sched := l } }

/-- A command of session 3. -/
def cmd : Cmd := { mb := .ses 3, ctag := 0x77, rsvd := false }

/-- Session 3 of a function is open: its CMD ring 300 holds an entry, and its RSP ring 301 has room. -/
def mailbox (fn : Nat) (c : Chip) : Chip :=
  setRing 300 { Ring.reset with ty := 1, run := true, log2 := 4, pidx := 1, fn := fn, ses := 3 }
    (setRing 301 { Ring.reset with ty := 2, run := true, log2 := 4, fn := fn, ses := 3, base := 4096 }
      { c with mb := { c.mb with sessions := [(3, { fn := fn, cmdRing := 300, rspRing := 301 })] } })

/-- Link group g stands in a state, every transmitter ready. -/
def link (g state : Nat) (c : Chip) : Chip :=
  put [(P.lgLgState g, state), (P.lgLgEn g, 1)] { c with lk := { c.lk with txReady := List.range 20 } }

/-- The timeline changed. -/
def time (f : Timeline → Timeline) (c : Chip) : Chip := { c with tl := f c.tl }

/-! ### Parts of the witnesses -/

/-- A chip in RUN. -/
def running : Chip := chipIn .run

/-- A chip in a mode whose highest temperature is in the NV window. -/
def cool (m : Mode) : Chip := put [(W.tjMax, 300)] (chipIn m)

/-- Two axes and a map for class table entry 12 of engine 1. -/
def axes : Chip → Chip :=
  put [(P.dxeAxis 1 12 0, 0x00020003), (P.dxeAxis 1 12 1, 0xFFFE0003), (P.dxeNax 1 12, 2), (P.dxeMap 1 12, 0x1B), (P.dxeThr 1 12 0, 0)]

/-- The flux offset of FLX port 3. -/
def offset3 : Nat := (P.flxFlxOffset 3).id

/-- An engine whose registers hold a value to track and its target. -/
def tracker : Engine := { Engine.reset with g := [(1, 17), (2, BitVec.ofNat 64 offset3)] }

/-- A tracking write that is due. -/
def track : Track := { engine := 1, slot := 3, id := offset3, value := 17, at_ := some 1000000, sq := 0, after := 0, issued := 999990 }

/-- A tracker at TRKW, with a step limit. -/
def tracking (f : Chip → Chip) : State :=
  on_ (engAt tracker (.trkw 1 2 3)) (fun c => put [(P.dxeTrkMaxStep 1 3, 20), (P.dxeTrkApply 1 3, 1)] (f c))

/-- Sequencer 2's lane 1 is bound to a PRB port. -/
def bound (s : State) : State := on_ s (put [(P.sqKind 2 1, 2), (P.sqTValid 2 1, 1), (P.sqChValid 2 1, 1), (P.sqTport 2 1, 4)])

/-- Sequencer 2 at an instruction whose last tick this is. -/
def sqNow (x : Sequencer) (i : SqInstr) : State := sqAt x (sqTicks (encodeSq i) - 1) i

/-- A fresh value that a selector names, and one that is not ready. -/
def freshSel : Sel := { value := 1, alt := true, ready := .fresh, entry := none }

/-- A value that is not ready. -/
def laterSel : Sel := { freshSel with ready := .notReady }

/-- Sequencer 2 at an instruction, with a gap and a limit. -/
def waitsAt (x : Sequencer) (i : SqInstr) : State := on_ (sqAt x 0 i) (put [(P.sqWaitoGap 2, 200), (P.sqWaitoLimit 2, 50)])

/-- A chip whose sequencer 2 has one slot. -/
def posted (sl : Slot) (c : Chip) : State := st (setSq 2 { sq with slots := [sl] } c)

/-- Bound to tone 3 of DRV port 5. -/
def toTone : Bind := { kind := 1, tone := some (.drv 5 3), chan := none }

/-- Tone 3 of DRV port 5 plays. -/
def toned : Chip := setTone (.drv 5 3) { fw := 1000, acc := 5, at_ := 999000, frame := 7, past := [] } running

/-- An ACQ slot's binding. -/
def toChan : Bind := { kind := 2, tone := none, chan := some 77 }

/-- MARK pin 5 is high, with the end of its pulse. -/
def pulsing (c : Chip) : Chip := { c with sqs := { c.sqs with markHigh := [(5, true)], markEnd := [(5, 1000000)] } }

/-- FLX port 3's lane. -/
def lane3 (ys : List Play) (j : Option Jump) (c : Chip) : State := st (setLane (.flx 3) { plays := ys, jump := j, amp := 5 } c)

/-- Drawer 6 of session 4 holds a write of a flux offset. -/
def drawn (c : Chip) : Chip :=
  { c with mb := { c.mb with drawers := [(6, { owner := 4, entries := [{ id := offset3, value := 99, mask := 65535 }] })] } }

/-- A block of the estimator. -/
def block : EstBlock := { rms := 50, skewBlind := false, est := List.replicate 8 (0, 0, 0) }

/-- RIN port 4 is enabled. -/
def rin4 (m : Nat) : State := st (put [(P.rinRinEn 4, 1), (P.rinEstMin 4, m)] running)

/-- RIN port 4 has an estimate, and a switch is due. -/
def rinSwitch : State :=
  st { scheduled [dueNow (.calSwitch 4)] running with
    rin := { Readout.reset with ests := [(4, { Estimator.reset with prior := some [(5, -6, 7), (8, 9, 10)] })] } }

/-- A gap of PRB port 5. -/
def gapAt' (n : Nat) : Gap := { port := 45, start := n, taken := true, sq := some 2, spoiled := false }

/-- PRB port 5's pass has done n windows, and a gap stands. -/
def passAt (g : Gap) (n : Nat) : State := st (put [(dcalDone 45, n)] { running with rin := { Readout.reset with gaps := [g] } })

/-- An outcome record that is due. -/
def outcome : OutRec := { engine := 1, ch := 19, val := 2, flags := 5, endGt := 999000, due := 1000000 }

/-- A decision. -/
def decision : Decision := { visible := 1000000, index := 3, entry := 0x1234, valid := true, minEnd := some 5, stale := true }

/-- A candidate of a trigger unit. -/
def candidate : Cand := { f := 255999000, node := 7, remote := false, word := 0 }

/-- Trigger unit 3 in a state, its word not matched. -/
def unit3 (x : TrigUnit) (c : Chip) : State := st (put [(P.tuValue 3, 16), (P.tuCare 3, 16)] (setTu 3 x c))

/-- Stream 5 of a kind. -/
def stream5 (kind : Nat) (x : Stream) (c : Chip) : Chip :=
  put [(P.stStreamEn 5, 1), (P.stKind 5, kind), (P.stRing 5, 300), (P.stBufSize 5, 8), (P.stSrcSel 5, 0x200 + 3)] (setStream 5 x c)

/-- A record of a stream. -/
def record1 : Rec := { rtype := 1, src := 0, flags := 0, words := [1, 2, 3], offered := 0, lo := 0, hi := 0 }

/-- Alerts stand. -/
def alerted : State := st (put [(W.alertStat 0, 1), (W.alertStat 2, 1), (W.alertEn, 7), (W.tjMax, 300)] running)

/-- RESET_N's level. -/
def pinN (b : Bool) : State := st { running with pw := { running.pw with resetN := b } }

/-- A debug access of BENCH waits. -/
def debugs (v : BitVec 128) : State :=
  let c := lay 0x100 [0x1122334455667788] (chipIn .bench)
  st { c with pn := { c.pn with dbg := v, dbgGo := true } }

/-- Nine readings. -/
def readings : List Int := [400, 401, 402, 403, 404, 405, 406, 407, 408]

/-- The thermal unit later on. -/
def warm (f : Thermal → Thermal) : Chip := { running with th := f running.th, clk := 500000000 }

/-- Microcode engine 18 of a sequencer that issues. -/
def live18 (m : Micro) : State := st (setMicro 18 m (setSq 18 { sq with issuing := true } (cool .run)))

/-- A command that waits for its PEEK. -/
def asker : Issuer := { mb := .ses 3, ctag := 1, opcode := 0x20, acceptGt := 5, res := [] }

/-- A board record. -/
def board : BoardRec :=
  { lanes := List.replicate 20 0, asym := List.replicate 4 0, linkOk := true, flux := List.replicate 24 0, fluxOk := true }

/-- A board record waits to be written. -/
def boardReq : NvReq := { data := .board board, blocks := 1, issuers := [], periodic := false, board := true }

/-- Bias records. -/
def biases : List BiasRec := List.replicate 32 { pu := 5, puSpan := 1, fault := 9, faultSpan := 2 }

/-- The Cabinet changed. -/
def cabinet (f : Cabinet → Cabinet) (c : Chip) : Chip := { c with nv := f c.nv }

/-- A worn free block beside one that is used. -/
def worn : Chip :=
  cabinet (fun n => { n with recs := [(.board, { data := .board board, seq := 1, blocks := [[272]] })], wear := [(272, 3), (273, 50000)] })
    (put [(P.secCredit, 1024)] (cool .run))

/-- The power changed. -/
def powered (f : Power → Power) (c : Chip) : Chip := { c with pw := f c.pw }

/-- The modes changed. -/
def moded (f : Modes → Modes) (c : Chip) : Chip := { c with md := f c.md }

/-- A directory entry: its TYPE, its SLOT, and a place in the flash. -/
def dirLine (t slot : Nat) : List Byte := leBytes 1 t ++ leBytes 1 slot ++ leBytes 2 0 ++ leBytes 4 0x1000 ++ leBytes 4 64 ++ leBytes 4 0

/-- A directory whose check passes: a key, Llynlek's copy A and the base microcode. -/
def bootDir1 : List Byte :=
  let b := leBytes 4 0x474C4431 ++ leBytes 2 1 ++ leBytes 1 16 ++ leBytes 1 0 ++ dirLine 5 0 ++ dirLine 1 0 ++ dirLine 3 0 ++ leBytes 196 0
  b ++ leBytes 4 (crc32c b)

/-- An image's header. -/
def imgHead (magic slot svn ver len : Nat) : List Byte :=
  leBytes 4 magic ++ leBytes 2 1 ++ leBytes 1 slot ++ leBytes 1 svn ++ leBytes 4 ver ++ leBytes 4 len ++ leBytes 48 0

/-- An image that verifies. -/
def imgGood (h : List Byte) : FlashImage := { head := h, sigOk := true, tagOk := true, plain := [] }

/-- A boot that succeeds. -/
def bootGood : BootInput :=
  { dir := bootDir1, dirCopy := leBytes 256 0,
    images := [imgGood (leBytes 64 0), imgGood (imgHead 0x4C4C5931 0 0 3 4096), imgGood (imgHead 0x4D434231 0 0 1 491520)] ++
      List.replicate 5 (imgGood (leBytes 64 0)),
    idGenOk := true, idMatches := true, cabOk := true, absent := [], savedBad := [] }

/-- A key whose digest is not KEY_HASH. -/
def bootBad : BootInput := { bootGood with images := bootGood.images.set 0 { imgGood (leBytes 64 0) with sigOk := false } }

/-- An event in flight to DMA channel 5's input. -/
def flight : Flight := { ch := 9, cons := 0x18 + 5, watch := true, raised := 999998, arrive := 1000000 }

/-- The event matrix changed. -/
def evented (f : Events → Events) (c : Chip) : Chip := { c with ev := f c.ev }

/-- A frame received on group 2. -/
def received : Rx := { lg := 2, src := 7, srcValid := true, mirror := false }

/-- A beacon. -/
def beacon2 : Beacon :=
  { txGt := 0xF0000, txF := 3, echoTxGt := 0, echoTxF := 0, echoRxGt := 0, echoRxF := 0, gtState := 3, depth := 2, echoValid := false }

/-- A snapshot that is due. -/
def snap1 : Snap := { gt := 1000000, id := 9, mesh := false, node := 0, issuers := [] }

/-- A latch of a snapshot. -/
def latch1 : Latch := { gt := 1000000, id := 9, mesh := false, unaligned := false, missed := false, bank := 1, totals := [(5, 77)] }

/-- An epoch is armed. -/
def epoch (c : Chip) : Chip := put [(P.tlEpochGt, 123456789), (P.tlEpochArmed, 1)] c

/-- Group 2 is the uplink. -/
def uplink2 : Chip → Chip := put [(P.tlTlSource, 2), (P.tlTlUplink, 2)]

/-- Group 2 has heard a beacon. -/
def heard2 : Timeline → Timeline :=
  fun t => { t with beacon := t.beacon.set 2 { BeaconPort.reset with seen := true, lastClk := some 900000, missed := 3 } }

/-- Group 2's lanes are aligned. -/
def lanes2 (c : Chip) : Chip :=
  put ([8, 9, 10, 11].map (fun k => (P.laneLaneState k, 3)) ++ [(P.ckLaneState 2, 3), (P.ckCkPresent 2, 1)]) c

/-- Group 2 changed. -/
def group2 (f : Group → Group) (c : Chip) : Chip := setGroup 2 (f (groupOf 2 c)) c

/-- Group 2 trains, its lanes good. -/
def trained : State := st (group2 (fun g => { g with goodSince := some 900000 }) (lanes2 (link 2 2 running)))

/-- Group 2 is up with its lanes. -/
def up2 (c : Chip) : Chip := lanes2 (link 2 3 c)

/-- A control frame of another node. -/
def control (arg : BitVec 64) : Ctl :=
  { cseq := 5, node := 7, nodeValid := true, status := 1, originSerial := BitVec.ofNat 32 (ownSerial + 1), arg := arg,
    subjectSerial := BitVec.ofNat 32 ownSerial }

/-- Trigger unit 3 has MESH scope. -/
def mesh3 (x : Nat) (c : Chip) : Chip := put [(P.tuScope 3, 1)] (setTu 3 { TrigUnit.reset with state := x } c)

/-- A frame of the timing class that waits. -/
def timing1 : Timing := { kind := .snapshot, words := [1, 2], notBefore := 5 }

/-- A bulk frame received. -/
def bulk1 : Bulk := { chan := 6, dataLen := 10, last := true, bseq := 3, data := List.replicate 10 7 }

/-- A bulk frame sent. -/
def bulk2 : BulkFrame := { bseq := 65535, last := true, data := [1, 2, 3] }

/-- A descriptor. -/
def desc (src dst : BitVec 64) (ssp dsp len : Nat) : Desc :=
  { w0 := src, w1 := dst, w2 := BitVec.ofNat 64 (len + ssp * 2 ^ 32 + dsp * 2 ^ 34), w3 := 0xABC, w4 := 0, w5 := 0, w6 := 0, w7 := 0 }

/-- A descriptor that reads the chip and writes host memory, and one the other way. -/
def outward : Desc := desc 0x100 0x40000 1 0 1000

/-- A descriptor that reads host memory. -/
def inward : Desc := desc 0x40000 0x100 0 1 16

/-- DMA channel 9 on rings 400 and 401. -/
def chan9 (k : Chan) (c : Chip) : Chip :=
  put [(P.dchSubRing 9, 400), (P.dchComplRing 9, 401), (P.dchChAssigned 9, 1)]
    (setRing 400 { Ring.reset with ty := 3, run := true, log2 := 4, pidx := 3, fn := 2 }
      (setRing 401 { Ring.reset with ty := 4, run := true, log2 := 4, base := 4096, fn := 2 } (setChan 9 k c)))

/-- A completion that is held. -/
def held1 : Held := { status := 0, doneGt := 5, tag := 6, bytes := 7, atomic := false, barrier := false, irq := true }

/-- A ring of function 2 that the host fills. -/
def ring2 : Ring := { Ring.reset with ty := 1, run := true, log2 := 6, pidx := 3, cidx := 1, fn := 2 }

/-- Ring 500 stands so. -/
def at500 (x : Ring) : State := st (setRing 500 x running)

/-- A command of function 2's bootstrap mailbox. -/
def bcmd : Cmd := { mb := .boot 2, ctag := 7, rsvd := false }

/-- Function 2's bootstrap rings. -/
def bootRings (c : Chip) : Chip :=
  setRing 4 { Ring.reset with ty := 1, run := true, log2 := 4, pidx := 1, fn := 2 }
    (setRing 5 { Ring.reset with ty := 2, run := true, log2 := 4, fn := 2 } c)

/-- Session 3's command waits, on function 0. -/
def asked (c : Chip) : State := st (mailbox 0 c)

/-- A drawer of session 3. -/
def drawer3 : Drawer := { owner := 3, entries := [] }

/-- Session 3 has drawer 6. -/
def drawer6 (c : Chip) : Chip := { c with mb := { c.mb with drawers := [(6, drawer3)] } }

/-- An image that checks. -/
def image : CfgImage := { headerOk := true, lengthOk := true, checkOk := true, check := 77, recs := [] }

/-- Stream 2 could run on ring 500. -/
def streamy (c : Chip) : Chip :=
  put [(P.stRing 2, 500), (P.stBufSize 2, 1), (P.stKind 2, 0), (P.trgStreamBudget, 2 ^ 40)]
    (setRing 500 { Ring.reset with ty := 5, run := true, log2 := 10, ses := 3 } c)

/-- Channel 8 of the event matrix listens to SW_FIRE's bit 3. -/
def wired (c : Chip) : Chip := put [(P.ecChEn 8, 1), (P.ecCons 8, 3), (P.ecEnRow 8 3, 2 ^ 0x33), (P.ecGateInv 8, 1)] c

/-- DMA channel 9 has fetched a descriptor, and group 2 shares outcomes. -/
def fetched9 (c : Chip) : Chip :=
  put [(P.outShareLg, 4), (P.dchChAssigned 9, 1)] (setChan 9 { Chan.reset with fetched := [outward], ses := 3 } (link 2 3 c))

/-- A value that is stale. -/
def staleSel : Sel := { freshSel with ready := .stale }

/-- Bound to flux port 3. -/
def toFlux : Bind := { kind := 3, tone := some (.flx 3), chan := none }

/-- A SETF slot with a word of a channel, its upper bits in the second operand. -/
def wordChan : Latched :=
  { slot := { slotOf 4 0xAAAAAAAB 1000000 with op1 := 0x2AAA }, op := 0xAAAAAAAB, bind := toChan, lateOnly := false, at_ := 1000000 }

/-- Two windows of channel 77 that stay open. -/
def twoOpen : List Window := [{ window with ch := 77, w := 0, stop := 1000050 }, { window with ch := 77, stop := 1000050 }]

/-- A lane of FLX port 3. -/
def flux3 (ys : List Play) (j : Option Jump) : Lane := { plays := ys, jump := j, amp := 5 }

/-- A record that one burst does not carry. -/
def record2 : Rec := { record1 with words := List.replicate 100 5 }

/-- The microword of a tick, its result 5. -/
def utick (w : Nat) : UTick := { word := w, res := 5, regs := URegs.reset, wake := 0 }

/-- Sequencer 18 with a patch in force, its microword in this tick. -/
def patched18 (u : UTick) : State := on_ (live18 { Micro.reset with due := some u }) (put [(P.mcHooksUsed, 1)])

/-- Group 3 stands in a state, beside group 2 in a pair. -/
def beside2 (state : Nat) (c : Chip) : Chip := put [(P.lnkPair, 2)] (link 3 state c)

/-- A descriptor that reads the base microcode, and one whose read takes two requests. -/
def hiddenDesc : Desc := desc 0x02B40000 0x40000 1 0 16
def farDesc : Desc := desc 0x40FF0 0x100 0 1 64

/-! ### Ill-formed commands -/

theorem test_illformed_flashImage (l : List (BitVec 8)) (h : 491520 < l.length) :
    FlashImage.wf { imgGood (leBytes 63 0) with plain := [] } = false ∧ FlashImage.wf { imgGood (leBytes 64 0) with plain := l } = false := by
  constructor
  · decide +kernel
  · simp [FlashImage.wf, Nat.not_le.2 h]

theorem test_illformed_bootInput :
    Instr.wf (.bootSequence { bootGood with dir := [] }) = false ∧ Instr.wf (.bootSequence { bootGood with dirCopy := [0] }) = false ∧
    Instr.wf (.bootSequence { bootGood with images := [] }) = false := by decide +kernel

theorem test_illformed_paramList : Instr.wf (.paramList cmd 2 0 (some [])) = false := by decide

theorem test_illformed_cfgLoad (l : List CfgRec) (h : 65535 < l.length) : Instr.wf (.cfgLoad cmd true { image with recs := l }) = false := by
  simp [Instr.wf, h]

theorem test_illformed_attest : Instr.wf (.attest cmd 0 0 0 [1, 2, 3]) = false := by decide

theorem test_illformed_estimatorBlock : Instr.wf (.estimatorBlock 0 { block with est := [] }) = false := by decide

theorem test_illformed_outcomeFrame : Instr.wf (.outcomeFrameRx received []) = false := by decide

theorem test_illformed_bulkFrame :
    Instr.wf (.bulkFrameRx received { bulk1 with dataLen := 11 }) = false ∧
    Instr.wf (.bulkFrameRx received { bulk1 with dataLen := 57, data := List.replicate 57 0 }) = false := by decide

theorem test_illformed_hostRead (l : List (BitVec 8)) (h : 4096 < l.length) : Instr.wf (.hostReadCompletion 0 (.data l)) = false := by
  simp [Instr.wf, HostRead.wf, h]

theorem test_illformed_bulkPort :
    Instr.wf (.bulkPortDecision [(.debug, 1), (.debug, 2)] []) = false ∧ Instr.wf (.bulkPortDecision [] [.mgmt, .mgmt]) = false := by decide

theorem test_illformed_microtraps : Instr.wf (.eccCeTrap 0 7) = false ∧ Instr.wf (.peekTrap 0 9) = false := by decide

theorem test_illformed_thermalSample : Instr.wf (.thermalSample [1, 2]) = false := by decide

theorem test_illformed_summaryWrite : Instr.wf (.summaryWrite [5, 5]) = false := by decide

theorem test_illformed_boardWrite : Instr.wf (.boardWrite cmd true (some { board with lanes := [] })) = false := by decide

theorem test_wellformed : Instr.wf (.bootSequence bootGood) = true ∧ Instr.wf (.bulkFrameRx received bulk1) = true ∧
    Instr.wf (.barBadRead 0 ⟨.bar0, 4⟩ 8) = true ∧ Instr.wf (.boardWrite cmd true (some board)) = true := by decide +kernel

/-! ### Program words, written out from the tables of R175, R176, R192 and R193 -/

/-- NOP is word 0; LD G4, b2, STEP −1; ADD G1, G2, G3; SHA G4, G1, −3; CMAC A2, G1, G3; CLS G4, G1, #5; TRKW G1, G2, #3. -/
theorem test_dxe_words :
    decodeDxe 0x0000000000000000 = some .nop ∧ decodeDxe 0x01402FF000000000 = some (.ld 4 2 0xFF) ∧
    decodeDxe 0x0812300000000000 = some (.add 1 2 3) ∧ decodeDxe 0x0E410000FFFFFFFD = some (.sha 4 1 0xFFFFFFFD) ∧
    decodeDxe 0x1921300000000000 = some (.cmac 2 1 3) ∧ decodeDxe 0x2241000000000005 = some (.cls 4 1 5) ∧
    decodeDxe 0x2431200000000000 = some (.trkw 1 2 3) := by decide

/-- SETB b2, G9; B 8, 0x123; RPT with COUNT 3 and LEN 2; RPTR G9 with LEN 0; HALT; 0x07 is no opcode. -/
theorem test_dxe_control_words :
    decodeDxe 0x2809200000000000 = some (.setb 2 9) ∧ decodeDxe 0x3000000800000123 = some (.branch 8 0x123) ∧
    decodeDxe 0x3400000000020003 = some (.rpt 3 2) ∧ decodeDxe 0x3509000000000000 = some (.rptr 9 0) ∧
    decodeDxe 0x3800000000000000 = some .halt ∧ decodeDxe 0x0700000000000000 = none := by decide

/-- PLAY on lane 1 with ADV 60; ACQ of 400 ticks; FRM that replaces; SETF; SHOT; MARK pin 5, action 1, width 9. -/
theorem test_sq_lane_words :
    decodeSq 0x0110003C00000012 = some (.play 0 1 60 0x12) ∧ decodeSq 0x0210003C00000190 = some (.acq 1 60 400) ∧
    decodeSq 0x0312003C00000012 = some (.frm 0 1 1 60 0x12) ∧ decodeSq 0x0410123456789ABC = some (.setf 1 0x123456789ABC) ∧
    decodeSq 0x0500003C00000000 = some (.shot 60) ∧ decodeSq 0x0600003C00000915 = some (.mark 60 5 1 9) := by decide

/-- WAITT on S3; BRO not equal; LOOP with a count and from S3; LDR high; EXT; NOP with an operand, and 0x0B, are no instructions. -/
theorem test_sq_flow_words :
    decodeSq 0x10320000000001F4 = some (.waitt 2 3 500) ∧ decodeSq 0x1201003200021234 = some (.bro 1 50 0x1234 2) ∧
    decodeSq 0x1300003200000003 = some (.loop 50 3) ∧ decodeSq 0x1331003200000000 = some (.loopr 3 50) ∧
    decodeSq 0x1831000000000009 = some (.ldr 1 3 9) ∧ decodeSq 0x1F00000500000005 = some (.ext 5 5) ∧
    decodeSq 0x0000000000000001 = none ∧ decodeSq 0x0B00000000000000 = none := by decide

/-! ### One step -/

/-- What a step leaves, as far as a test asks. -/
def after (s : State) (p : State → Bool) : Bool :=
  match step s with
  | .next t => p t
  | _ => false

/-- A vector held pending is sent, with the address and data of its entry, as its mask bit is written 0. -/
theorem test_unmask : after { st { running with hostPba := [(2, 5)] } with pending := [.registerWrite 2 ⟨.bar2, 92⟩ 4 0] }
    (fun t => t.chip.out.contains (.vector 2 5 0 0) && t.chip.hostPba == []) = true := by decide +kernel

/-- IDCODE shifts out 0x00256A4B (R463). -/
theorem test_idcode : after { State.reset with pending := [.idcode] } (fun t => t.chip.out == [.jtag 0x00256A4B] && t.pending == []) = true := by
  decide +kernel

/-- The spec's three-state classifier: engine 11's entry 3 with its axes, thresholds, map and axis count. -/
def threeState : Chip → Chip :=
  put [(P.dxeAxis 11 3 0, 0xE000376D), (P.dxeAxis 11 3 1, 0x40000000), (P.dxeAxis 11 3 2, 0xE000C893), (P.dxeMap 11 3, 0x1A10), (P.dxeNax 11 3, 3)]

/-- CLS G2, G1, #0 of engine 11 on a result of channel 3 gives this class. -/
def classes (i q : Int) (n : Nat) : Bool :=
  let r : Result := { result with c := 3, i := i, q := q }
  let x : Engine :=
    { Engine.reset with cur := some r, g := [(1, BitVec.ofInt 32 q ++ BitVec.ofInt 32 i)] }
  let c := threeState (put [(P.dxeDxeRun 11, 1)] (setEng 11 x (lay (0x01E00000 + 0x8000 * 11) [0x2221000000000000] (chipIn .run))))
  after { st c with pending := [.cls 11] } (fun t => (engOf 11 t.chip).late.any (fun l => l.dest == .g 2 (BitVec.ofNat 64 n)))

/-- The example's projections: (200,000, 0), (−100,000, 173,200) and (−100,000, −173,200) are states 0, 1 and 2. -/
theorem test_classifier : classes 200000 0 0 = true ∧ classes (-100000) 173200 1 = true ∧ classes (-100000) (-173200) 2 = true := by
  decide +kernel

/-- The map of the example tells its states apart: the first result is not in state 1. -/
theorem test_classifier_other : classes 200000 0 1 = false := by decide +kernel

/-- SUB sets C where no borrow occurs, and V where the signed result overflows (R176). -/
theorem test_sub_flags : (subFlags 5 3).c = true ∧ (subFlags 3 5).c = false ∧ (subFlags 0x8000000000000000 1).v = true ∧ (subFlags 3 3).z = true := by
  decide

/-- ADD carries out of bit 63 and overflows at the largest positive value (R176). -/
theorem test_add_flags : (addFlags 0xFFFFFFFFFFFFFFFF 1).c = true ∧ (addFlags 0xFFFFFFFFFFFFFFFF 1).z = true ∧
    (addFlags 0x7FFFFFFFFFFFFFFF 1).v = true ∧ (addFlags 0x7FFFFFFFFFFFFFFF 1).n = true := by decide

/-! ### Witnesses -/

theorem witness_MemoryStaysCanonical : (st (lay 0x100 [5, 6] (chipIn .bench))).chip.memOk := by unfold Chip.memOk; decide +kernel

theorem witness_MemoryStaysCanonical_step : ∃ t, step State.reset = .next t := ⟨_, rfl⟩

theorem witness_CommandsKeepTheRest : ∃ t, exec .idcode (st running) = .next t := ⟨_, rfl⟩

theorem witness_SequencersKeepTheRest : ∃ t, exec (sqCommand 2 0x00) (sqNow sq .nop) = .next t := ⟨_, rfl⟩

theorem witness_ProgramWordsRoundTrip : SqInstr.ok (.acq 1 60 400) = true ∧ decodeSq 0x0210003C00000190 = some (.acq 1 60 400) := by decide

/-- A write that writeRefused passes for one writer of h's session passes for every one. -/
theorem passes_of {h : Cmd} {id value mask : Nat} {c : Chip}
    (p : writeRefused { who := 0, ses := sesOf h.mb, fn := 0, save := none, sched := none, board := none } id value mask
      (heldBase (consumed h c)) (consumed h c) = none) : passes h id value mask c := by
  intro w hw
  rw [← p]
  unfold writeRefused stateRefused
  rw [hw]

/-- The control frame comes from another chip, whatever this chip's serial is. -/
theorem control_fresh (a : BitVec 64) : (control a).originSerial.toNat ≠ ownSerial := by
  unfold control ownSerial
  simp only [BitVec.toNat_ofNat]
  omega

/-- The control frame is about this chip, whatever its serial is. -/
theorem control_mine (a : BitVec 64) : (control a).subjectSerial.toNat = ownSerial := by
  unfold control ownSerial
  simp only [BitVec.toNat_ofNat]
  omega

theorem witness_DxeMovesComplete :
  (
    let s : State := engAt regs (.nop)
    let e : Fin 24 := 1
    let c := s.chip
    dxeIssues e.val .nop c) ∧
  (
    let s : State := engAt regs (.ldi 1 5)
    let e : Fin 24 := 1
    let d : BitVec 4 := 1
    let v : BitVec 32 := 5
    let c := s.chip
    dxeIssues e.val (.ldi d v) c) ∧
  (
    let s : State := engAt regs (.ldih 1 5)
    let e : Fin 24 := 1
    let d : BitVec 4 := 1
    let v : BitVec 32 := 5
    let c := s.chip
    dxeIssues e.val (.ldih d v) c) ∧
  (
    let s : State := engAt regs (.mov 1 2)
    let e : Fin 24 := 1
    let d : BitVec 4 := 1
    let r : BitVec 4 := 2
    let c := s.chip
    dxeIssues e.val (.mov d r) c) ∧
  (
    let s : State := engAt regs (.getm 1)
    let e : Fin 24 := 1
    let d : BitVec 4 := 1
    let c := s.chip
    dxeIssues e.val (.getm d) c) ∧
  (
    let s : State := engAt regs (.rdgt 1)
    let e : Fin 24 := 1
    let d : BitVec 4 := 1
    let c := s.chip
    dxeIssues e.val (.rdgt d) c) ∧
  (
    let s : State := engAt regs (.getp 1 2)
    let e : Fin 24 := 1
    let d : BitVec 4 := 1
    let b : BitVec 4 := 2
    let c := s.chip
    dxeIssues e.val (.getp d b) c) ∧
  (
    let s : State := engAt regs (.setp 2 2)
    let e : Fin 24 := 1
    let r : BitVec 4 := 2
    let b : BitVec 4 := 2
    let c := s.chip
    dxeIssues e.val (.setp b r) c) ∧
  (
    let s : State := engAt regs (.setb 2 2)
    let e : Fin 24 := 1
    let r : BitVec 4 := 2
    let b : BitVec 4 := 2
    let c := s.chip
    dxeIssues e.val (.setb b r) c) ∧
  (
    let s : State := engAt regs (.setm 3)
    let e : Fin 24 := 1
    let m : BitVec 3 := 3
    let c := s.chip
    dxeIssues e.val (.setm m) c) :=
  ⟨by dsimp only; unfold dxeIssues; decide +kernel,
  by dsimp only; unfold dxeIssues; decide +kernel,
  by dsimp only; unfold dxeIssues; decide +kernel,
  by dsimp only; unfold dxeIssues; decide +kernel,
  by dsimp only; unfold dxeIssues; decide +kernel,
  by dsimp only; unfold dxeIssues; decide +kernel,
  by dsimp only; unfold dxeIssues; decide +kernel,
  by dsimp only; unfold dxeIssues; decide +kernel,
  by dsimp only; unfold dxeIssues; decide +kernel,
  by dsimp only; unfold dxeIssues; decide +kernel⟩

theorem witness_DxeArithmeticCompletes :
  (
    let s : State := engAt regs (.add 4 1 2)
    let e : Fin 24 := 1
    let d : BitVec 4 := 4
    let p : BitVec 4 := 1
    let q : BitVec 4 := 2
    let c := s.chip
    dxeIssues e.val (.add d p q) c) ∧
  (
    let s : State := engAt regs (.sub 4 1 2)
    let e : Fin 24 := 1
    let d : BitVec 4 := 4
    let p : BitVec 4 := 1
    let q : BitVec 4 := 2
    let c := s.chip
    dxeIssues e.val (.sub d p q) c) ∧
  (
    let s : State := engAt regs (.addi 4 1 5)
    let e : Fin 24 := 1
    let d : BitVec 4 := 4
    let p : BitVec 4 := 1
    let v : BitVec 32 := 5
    let c := s.chip
    dxeIssues e.val (.addi d p v) c) ∧
  (
    let s : State := engAt regs (.and 4 1 2)
    let e : Fin 24 := 1
    let d : BitVec 4 := 4
    let p : BitVec 4 := 1
    let q : BitVec 4 := 2
    let c := s.chip
    dxeIssues e.val (.and d p q) c) ∧
  (
    let s : State := engAt regs (.or 4 1 2)
    let e : Fin 24 := 1
    let d : BitVec 4 := 4
    let p : BitVec 4 := 1
    let q : BitVec 4 := 2
    let c := s.chip
    dxeIssues e.val (.or d p q) c) ∧
  (
    let s : State := engAt regs (.xor 4 1 2)
    let e : Fin 24 := 1
    let d : BitVec 4 := 4
    let p : BitVec 4 := 1
    let q : BitVec 4 := 2
    let c := s.chip
    dxeIssues e.val (.xor d p q) c) ∧
  (
    let s : State := engAt regs (.sha 4 1 5)
    let e : Fin 24 := 1
    let d : BitVec 4 := 4
    let p : BitVec 4 := 1
    let v : BitVec 32 := 5
    let c := s.chip
    dxeIssues e.val (.sha d p v) c ∧ v.msb = false) ∧
  (
    let s : State := engAt regs (.sha 4 1 0xFFFFFFFD)
    let e : Fin 24 := 1
    let d : BitVec 4 := 4
    let p : BitVec 4 := 1
    let v : BitVec 32 := 0xFFFFFFFD
    let c := s.chip
    dxeIssues e.val (.sha d p v) c ∧ v.msb = true) ∧
  (
    let s : State := engAt regs (.cmp 1 2)
    let e : Fin 24 := 1
    let p : BitVec 4 := 1
    let q : BitVec 4 := 2
    let c := s.chip
    dxeIssues e.val (.cmp p q) c) ∧
  (
    let s : State := engAt regs (.cmpi 1 5)
    let e : Fin 24 := 1
    let p : BitVec 4 := 1
    let v : BitVec 32 := 5
    let c := s.chip
    dxeIssues e.val (.cmpi p v) c) ∧
  (
    let s : State := engAt regs (.sat 4 1 5)
    let e : Fin 24 := 1
    let d : BitVec 4 := 4
    let p : BitVec 4 := 1
    let v : BitVec 32 := 5
    let c := s.chip
    dxeIssues e.val (.sat d p v) c) ∧
  (
    let s : State := engAt regs (.mul 4 1 2)
    let e : Fin 24 := 1
    let d : BitVec 4 := 4
    let p : BitVec 4 := 1
    let q : BitVec 4 := 2
    let c := s.chip
    dxeIssues e.val (.mul d p q) c) :=
  ⟨by dsimp only; unfold dxeIssues; decide +kernel,
  by dsimp only; unfold dxeIssues; decide +kernel,
  by dsimp only; unfold dxeIssues; decide +kernel,
  by dsimp only; unfold dxeIssues; decide +kernel,
  by dsimp only; unfold dxeIssues; decide +kernel,
  by dsimp only; unfold dxeIssues; decide +kernel,
  by dsimp only; unfold dxeIssues; decide +kernel,
  by dsimp only; unfold dxeIssues; decide +kernel,
  by dsimp only; unfold dxeIssues; decide +kernel,
  by dsimp only; unfold dxeIssues; decide +kernel,
  by dsimp only; unfold dxeIssues; decide +kernel,
  by dsimp only; unfold dxeIssues; decide +kernel⟩

theorem witness_DxeMemoryCompletes :
  (
    let s : State := engAt regs (.ld 4 2 0xFF)
    let e : Fin 24 := 1
    let d : BitVec 4 := 4
    let b : BitVec 4 := 2
    let p : BitVec 8 := 0xFF
    let c := s.chip
    dxeIssues e.val (.ld d b p) c) ∧
  (
    let s : State := engAt regs (.ld2 4 2 0xFF)
    let e : Fin 24 := 1
    let d : BitVec 4 := 4
    let b : BitVec 4 := 2
    let p : BitVec 8 := 0xFF
    let c := s.chip
    dxeIssues e.val (.ld2 d b p) c) ∧
  (
    let s : State := engAt regs (.st 2 4 0xFF)
    let e : Fin 24 := 1
    let d : BitVec 4 := 4
    let b : BitVec 4 := 2
    let p : BitVec 8 := 0xFF
    let c := s.chip
    dxeIssues e.val (.st b d p) c) :=
  ⟨by dsimp only; unfold dxeIssues; decide +kernel,
  by dsimp only; unfold dxeIssues; decide +kernel,
  by dsimp only; unfold dxeIssues; decide +kernel⟩

theorem witness_DxeAccumulateCompletes :
  (
    let s : State := engAt regs (.mac 2 1 3)
    let e : Fin 24 := 1
    let p : BitVec 4 := 1
    let q : BitVec 4 := 3
    let k : BitVec 2 := 2
    let c := s.chip
    dxeIssues e.val (.mac k p q) c) ∧
  (
    let s : State := engAt regs (.cmac 2 1 3)
    let e : Fin 24 := 1
    let p : BitVec 4 := 1
    let q : BitVec 4 := 3
    let k : BitVec 2 := 2
    let c := s.chip
    dxeIssues e.val (.cmac k p q) c) ∧
  (
    let s : State := engAt regs (.aclr 2 0)
    let e : Fin 24 := 1
    let k : BitVec 2 := 2
    let c := s.chip
    dxeIssues e.val (.aclr k 0) c) ∧
  (
    let s : State := engAt regs (.aclr 2 1)
    let e : Fin 24 := 1
    let k : BitVec 2 := 2
    let c := s.chip
    dxeIssues e.val (.aclr k 1) c) ∧
  (
    let s : State := engAt regs (.amov 4 2 6)
    let e : Fin 24 := 1
    let d : BitVec 4 := 4
    let k : BitVec 2 := 2
    let v : BitVec 6 := 6
    let c := s.chip
    dxeIssues e.val (.amov d k v) c) :=
  ⟨by dsimp only; unfold dxeIssues; decide +kernel,
  by dsimp only; unfold dxeIssues; decide +kernel,
  by dsimp only; unfold dxeIssues; decide +kernel,
  by dsimp only; unfold dxeIssues; decide +kernel,
  by dsimp only; unfold dxeIssues; decide +kernel⟩

theorem witness_DxeResultsComplete :
  (
    let s : State := engAt regs (.popr 4)
    let e : Fin 24 := 1
    let d : BitVec 4 := 4
    let c := s.chip
    let x := engOf e.val c
    dxeIssues e.val (.popr d) c ∧ x.queue = []) ∧
  (
    let s : State := engAt { regs with queue := [result] } (.popr 4)
    let e : Fin 24 := 1
    let d : BitVec 4 := 4
    let r : Result := result
    let q : List Result := []
    let c := s.chip
    let x := engOf e.val c
    dxeIssues e.val (.popr d) c ∧ x.queue = r :: q) ∧
  (
    let s : State := engAt regs (.rdcur 4)
    let e : Fin 24 := 1
    let d : BitVec 4 := 4
    let c := s.chip
    let x := engOf e.val c
    dxeIssues e.val (.rdcur d) c ∧ x.cur = none) ∧
  (
    let s : State := engAt { regs with cur := some result } (.rdcur 4)
    let e : Fin 24 := 1
    let d : BitVec 4 := 4
    let r : Result := result
    let c := s.chip
    let x := engOf e.val c
    dxeIssues e.val (.rdcur d) c ∧ x.cur = some r) ∧
  (
    let s : State := engAt { regs with cur := some result } (.outc 2)
    let e : Fin 24 := 1
    let d : BitVec 4 := 2
    let r : Result := result
    let c := s.chip
    let x := engOf e.val c
    dxeIssues e.val (.outc d) c ∧ x.cur = some r ∧ x.posted = false ∧ r.aborted = false ∧ c.md.mode = .run) ∧
  (
    let s : State := engAt { regs with cur := some result, posted := true } (.outc 2)
    let e : Fin 24 := 1
    let d : BitVec 4 := 2
    let c := s.chip
    let x := engOf e.val c
    dxeIssues e.val (.outc d) c ∧ (x.cur = none ∨ x.posted = true)) :=
  ⟨by dsimp only; unfold dxeIssues; decide +kernel,
  by dsimp only; unfold dxeIssues; decide +kernel,
  by dsimp only; unfold dxeIssues; decide +kernel,
  by dsimp only; unfold dxeIssues; decide +kernel,
  by dsimp only; unfold dxeIssues; decide +kernel,
  by dsimp only; unfold dxeIssues; decide +kernel⟩

theorem witness_DxeTransfersComplete :
  (
    let s : State := engAt { regs with fz := true } (.branch 1 100)
    let e : Fin 24 := 1
    let k : BitVec 4 := 1
    let a : BitVec 12 := 100
    let c := s.chip
    let x := engOf e.val c
    dxeIssues e.val (.branch k a) c ∧ condHolds k.toNat (flagsOf x) = some true) ∧
  (
    let s : State := engAt regs (.branch 1 100)
    let e : Fin 24 := 1
    let k : BitVec 4 := 1
    let a : BitVec 12 := 100
    let c := s.chip
    let x := engOf e.val c
    dxeIssues e.val (.branch k a) c ∧ condHolds k.toNat (flagsOf x) = some false) ∧
  (
    let s : State := engAt regs (.call 100)
    let e : Fin 24 := 1
    let a : BitVec 12 := 100
    let c := s.chip
    dxeIssues e.val (.call a) c) ∧
  (
    let s : State := engAt { regs with lk := some 9 } .ret
    let e : Fin 24 := 1
    let l : Nat := 9
    let c := s.chip
    let x := engOf e.val c
    dxeIssues e.val .ret c ∧ x.lk = some l) ∧
  (
    let s : State := engAt { regs with handler := true, spc := 9, sfl := 5 } .rts
    let e : Fin 24 := 1
    let c := s.chip
    dxeIssues e.val .rts c) :=
  ⟨by dsimp only; unfold dxeIssues; decide +kernel,
  by dsimp only; unfold dxeIssues; decide +kernel,
  by dsimp only; unfold dxeIssues; decide +kernel,
  by dsimp only; unfold dxeIssues; decide +kernel,
  by dsimp only; unfold dxeIssues; decide +kernel⟩

theorem witness_DxeRepeatsComplete :
  (
    let s : State := engAt regs (.rpt 3 2)
    let e : Fin 24 := 1
    let n : BitVec 16 := 3
    let l : BitVec 8 := 2
    let c := s.chip
    dxeIssues e.val (.rpt n l) c ∧ n ≠ 0) ∧
  (
    let s : State := engAt regs (.rpt 0 2)
    let e : Fin 24 := 1
    let n : BitVec 16 := 0
    let l : BitVec 8 := 2
    let c := s.chip
    dxeIssues e.val (.rpt n l) c ∧ n = 0) ∧
  (
    let s : State := engAt regs (.rptr 2 0)
    let e : Fin 24 := 1
    let l : BitVec 8 := 0
    let r : BitVec 4 := 2
    let c := s.chip
    let x := engOf e.val c
    dxeIssues e.val (.rptr r l) c ∧ bits (gReg x r).toNat 0 16 ≠ 0) ∧
  (
    let s : State := engAt regs (.rptr 9 2)
    let e : Fin 24 := 1
    let l : BitVec 8 := 2
    let r : BitVec 4 := 9
    let c := s.chip
    let x := engOf e.val c
    dxeIssues e.val (.rptr r l) c ∧ bits (gReg x r).toNat 0 16 = 0) ∧
  (
    let s : State := engAt regs .idle
    let e : Fin 24 := 1
    let c := s.chip
    dxeIssues e.val .idle c) ∧
  (
    let s : State := engAt regs .halt
    let e : Fin 24 := 1
    let c := s.chip
    dxeIssues e.val .halt c) :=
  ⟨by dsimp only; unfold dxeIssues; decide +kernel,
  by dsimp only; unfold dxeIssues; decide +kernel,
  by dsimp only; unfold dxeIssues; decide +kernel,
  by dsimp only; unfold dxeIssues; decide +kernel,
  by dsimp only; unfold dxeIssues; decide +kernel,
  by dsimp only; unfold dxeIssues; decide +kernel⟩

theorem witness_DxeClassifies :
  (
    let s : State := on_ (engAt { regs with cur := some result } (.cls 2 4 5)) axes
    let e : Fin 24 := 1
    let d : BitVec 4 := 2
    let p : BitVec 4 := 4
    let v : BitVec 8 := 5
    let n : Nat := 2
    let c := s.chip
    let x := engOf e.val c
    let t := (v.toNat + (match x.cur with | some r => r.c | none => 0)) % 256
    dxeIssues e.val (.cls d p v) c ∧ clsAt e.val t 7 c % 4 = n) :=
  by dsimp only; unfold dxeIssues; decide +kernel

theorem witness_TrackingWritesComplete :
  (
    let s : State := tracking (adapt offset3)
    let e : Fin 24 := 1
    let p : BitVec 4 := 1
    let t : BitVec 4 := 2
    let k : BitVec 4 := 3
    let c := s.chip
    let x := engOf e.val c
    let id := bits (gReg x t).toNat 0 32
    let v := (gReg x p).toNat % 2 ^ (trkShape id).1
    dxeIssues e.val (.trkw p t k) c ∧ c.md.mode = .run ∧ inAdapt id c = true ∧ trkTarget e.val id = true ∧ trkPending id c = none ∧ rd (P.dxeTrkMaxStep e.val k.toNat) c ≠ 0 ∧ (trkStep id (storedValue id c) v).natAbs ≤ rd (P.dxeTrkMaxStep e.val k.toNat) c) ∧
  (
    let s : State := tracking id
    let e : Fin 24 := 1
    let p : BitVec 4 := 1
    let t : BitVec 4 := 2
    let k : BitVec 4 := 3
    let c := s.chip
    let x := engOf e.val c
    let id := bits (gReg x t).toNat 0 32
    dxeIssues e.val (.trkw p t k) c ∧ (c.md.mode ≠ .run ∨ inAdapt id c = false ∨ trkTarget e.val id = false)) ∧
  (
    let s : State := on_ (engAt tracker .nop) (fun c => { adapt offset3 c with dx := { c.dx with track := [track] } })
    let i : Fin 24 := 3
    let y : Track := track
    let c := s.chip
    c.dx.track = [y] ∧ y.at_ = some c.tl.gt ∧ y.id = (P.flxFlxOffset i.val).id ∧ c.md.mode = .run ∧ inAdapt y.id c = true) :=
  ⟨by dsimp only; unfold dxeIssues; decide +kernel,
  by dsimp only; unfold dxeIssues; decide +kernel,
  by dsimp only; decide +kernel⟩

theorem witness_DxeRequestsServed :
  (
    let s : State := on_ (engAt regs .nop) (put [(P.dxeTickPeriod 1, 1)])
    let e : Fin 24 := 1
    let c := s.chip
    let x := engOf e.val c
    let period := rd (P.dxeTickPeriod e.val) c * 1000
    dxeMode c = true ∧ period ≠ 0 ∧ c.tl.gt % period = 0 ∧ x.periodAt < c.clk ∧ x.tickSince = none) ∧
  (
    let s : State := engAt { regs with queue := [result], srm := 1, fc := true } .nop
    let e : Fin 24 := 1
    let k : Nat := 0
    let c := s.chip
    accepts e.val c = some k) :=
  ⟨by dsimp only; decide +kernel,
  by dsimp only; decide +kernel⟩

theorem witness_DxeFaultStops :
  (
    let s : State := on_ (engAt regs .nop) (setEng 1 { regs with pc := 4096 })
    let e : Fin 24 := 1
    let c := s.chip
    let x := engOf e.val c
    x.faultAt ≠ some c.clk ∧ (c.md.mode = .run → c.md.fault = false) ∧ dxeReady e.val c = true ∧ 4096 ≤ x.pc) ∧
  (
    let s : State := on_ (engAt regs .nop) (lay (0x01E00000 + 0x8000 + 40) [0x0700000000000000])
    let e : Fin 24 := 1
    let c := s.chip
    let x := engOf e.val c
    x.faultAt ≠ some c.clk ∧ (c.md.mode = .run → c.md.fault = false) ∧ dxeReady e.val c = true ∧ x.pc < 4096 ∧ decodeDxe (progWord e.val x.pc c) = none) ∧
  (
    let s : State := engAt regs .ret
    let e : Fin 24 := 1
    let i : DxeInstr := .ret
    let k : Nat := 10
    let c := s.chip
    let x := engOf e.val c
    x.faultAt ≠ some c.clk ∧ (c.md.mode = .run → c.md.fault = false) ∧ dxeDue e.val c = some i ∧ (dxeFaults e.val i c).min? = some k) ∧
  (
    let s : State := on_ (engAt regs .nop) (fun c => windows [{ window with stop := 1000050 }] (gtAt 1000001 c))
    let e : Fin 24 := 1
    let ch : Fin 12 := 7
    let w : Window := { window with stop := 1000050 }
    let c := s.chip
    let x := engOf e.val c
    x.faultAt ≠ some c.clk ∧ (c.md.mode = .run → c.md.fault = false) ∧ dxeRuns e.val c = true ∧ (c.tl.gt - 1) % 4 = 0 ∧ rd (P.dxeCbLen e.val ch.val) c = 0 ∧ w ∈ c.rin.windows ∧ w.ch = 12 * e.val + ch.val ∧ w.takes (c.tl.gt - 1) = true) :=
  ⟨by dsimp only; decide +kernel,
  by dsimp only; decide +kernel,
  by dsimp only; decide +kernel,
  by dsimp only; decide +kernel⟩

theorem witness_SequencerFlowCompletes :
  (
    let s : State := sqNow sq (.nop)
    let q : Fin 64 := 2
    let c := s.chip
    sqIssues q.val 0x00 .nop c) ∧
  (
    let s : State := sqNow sq (.waitt 0 0 500)
    let q : Fin 64 := 2
    let f : BitVec 2 := 0
    let r : BitVec 3 := 0
    let v : BitVec 32 := 500
    let c := s.chip
    let x := sqOf q.val c
    let reg : Word := Tab.get x.s r.toNat 0
    let base := ((if f = 0 then x.lastShot.getD c.md.runGt else if f = 1 then c.md.runGt else reg.toNat) + v.toNat) % 2 ^ 64
    sqIssues q.val 0x10 (.waitt f r v) c ∧ x.cursor ≤ base) ∧
  (
    let s : State := sqNow { sq with s := [(3, 5)] } (.waitt 2 3 5)
    let q : Fin 64 := 2
    let f : BitVec 2 := 2
    let r : BitVec 3 := 3
    let v : BitVec 32 := 5
    let c := s.chip
    let x := sqOf q.val c
    let reg : Word := Tab.get x.s r.toNat 0
    let base := ((if f = 0 then x.lastShot.getD c.md.runGt else if f = 1 then c.md.runGt else reg.toNat) + v.toNat) % 2 ^ 64
    sqIssues q.val 0x10 (.waitt f r v) c ∧ base < x.cursor) ∧
  (
    let s : State := sqNow sq (.loop 50 3)
    let q : Fin 64 := 2
    let v : BitVec 32 := 3
    let a : BitVec 13 := 50
    let c := s.chip
    sqIssues q.val 0x13 (.loop a v) c ∧ v.toNat ≠ 0) ∧
  (
    let s : State := sqNow sq (.loop 50 0)
    let q : Fin 64 := 2
    let v : BitVec 32 := 0
    let a : BitVec 13 := 50
    let c := s.chip
    sqIssues q.val 0x13 (.loop a v) c ∧ v.toNat = 0) ∧
  (
    let s : State := sqNow sq (.loopr 3 50)
    let q : Fin 64 := 2
    let r : BitVec 3 := 3
    let a : BitVec 13 := 50
    let c := s.chip
    let x := sqOf q.val c
    let reg : Word := Tab.get x.s r.toNat 0
    sqIssues q.val 0x13 (.loopr r a) c ∧ reg.toNat ≠ 0) ∧
  (
    let s : State := sqNow { sq with s := [] } (.loopr 3 50)
    let q : Fin 64 := 2
    let r : BitVec 3 := 3
    let a : BitVec 13 := 50
    let c := s.chip
    let x := sqOf q.val c
    let reg : Word := Tab.get x.s r.toNat 0
    sqIssues q.val 0x13 (.loopr r a) c ∧ reg.toNat = 0) ∧
  (
    let s : State := sqNow { sq with loops := [(2, 4)] } (.endl)
    let q : Fin 64 := 2
    let m : Nat := 2
    let k : Nat := 4
    let ls : List (Nat × Nat) := []
    let c := s.chip
    let x := sqOf q.val c
    sqIssues q.val 0x14 .endl c ∧ x.loops = (m, k) :: ls ∧ 1 < m) ∧
  (
    let s : State := sqNow { sq with loops := [(1, 4)] } (.endl)
    let q : Fin 64 := 2
    let m : Nat := 1
    let k : Nat := 4
    let ls : List (Nat × Nat) := []
    let c := s.chip
    let x := sqOf q.val c
    sqIssues q.val 0x14 .endl c ∧ x.loops = (m, k) :: ls ∧ m ≤ 1) ∧
  (
    let s : State := sqNow sq (.call 50)
    let q : Fin 64 := 2
    let a : BitVec 13 := 50
    let c := s.chip
    sqIssues q.val 0x15 (.call a) c) ∧
  (
    let s : State := sqNow { sq with calls := [4] } (.ret)
    let q : Fin 64 := 2
    let k : Nat := 4
    let as : List Nat := []
    let c := s.chip
    let x := sqOf q.val c
    sqIssues q.val 0x16 .ret c ∧ x.calls = k :: as) ∧
  (
    let s : State := sqNow sq (.ldr 0 3 0x80000000)
    let q : Fin 64 := 2
    let r : BitVec 3 := 3
    let v : BitVec 32 := 0x80000000
    let c := s.chip
    sqIssues q.val 0x18 (.ldr 0 r v) c) ∧
  (
    let s : State := sqNow sq (.ldr 1 3 9)
    let q : Fin 64 := 2
    let r : BitVec 3 := 3
    let v : BitVec 32 := 9
    let c := s.chip
    sqIssues q.val 0x18 (.ldr 1 r v) c) ∧
  (
    let s : State := sqNow sq (.addr 3 0xFFFFFFFF)
    let q : Fin 64 := 2
    let r : BitVec 3 := 3
    let v : BitVec 32 := 0xFFFFFFFF
    let c := s.chip
    sqIssues q.val 0x19 (.addr r v) c) ∧
  (
    let s : State := sqNow sq (.getc 3)
    let q : Fin 64 := 2
    let r : BitVec 3 := 3
    let c := s.chip
    sqIssues q.val 0x1A (.getc r) c) :=
  ⟨by dsimp only; unfold sqIssues; decide +kernel,
  by dsimp only; unfold sqIssues; decide +kernel,
  by dsimp only; unfold sqIssues; decide +kernel,
  by dsimp only; unfold sqIssues; decide +kernel,
  by dsimp only; unfold sqIssues; decide +kernel,
  by dsimp only; unfold sqIssues; decide +kernel,
  by dsimp only; unfold sqIssues; decide +kernel,
  by dsimp only; unfold sqIssues; decide +kernel,
  by dsimp only; unfold sqIssues; decide +kernel,
  by dsimp only; unfold sqIssues; decide +kernel,
  by dsimp only; unfold sqIssues; decide +kernel,
  by dsimp only; unfold sqIssues; decide +kernel,
  by dsimp only; unfold sqIssues; decide +kernel,
  by dsimp only; unfold sqIssues; decide +kernel,
  by dsimp only; unfold sqIssues; decide +kernel⟩

theorem witness_SequencerPostsSlots :
  (
    let s : State := bound (sqNow sq (.play 0 1 60 0x12))
    let q : Fin 64 := 2
    let l : BitVec 4 := 1
    let adv : BitVec 16 := 60
    let v : BitVec 32 := 0x0012
    let c := s.chip
    let x := sqOf q.val c
    c.tl.gt + 17 ≤ x.cursor ∧ sqIssues q.val 0x01 (.play 0 l adv v) c) ∧
  (
    let s : State := on_ (bound (sqNow sq (.play 1 1 60 0x12))) (lay (sqProgAddr 2 7) [encodeSq (.ext 5 9)])
    let q : Fin 64 := 2
    let l : BitVec 4 := 1
    let adv : BitVec 16 := 60
    let v : BitVec 32 := 0x0012
    let c := s.chip
    let x := sqOf q.val c
    c.tl.gt + 17 ≤ x.cursor ∧ sqIssues q.val 0x01 (.play 1 l adv v) c) ∧
  (
    let s : State := bound (sqNow sq (.acq 1 60 400))
    let q : Fin 64 := 2
    let l : BitVec 4 := 1
    let adv : BitVec 16 := 60
    let n : BitVec 23 := 400
    let c := s.chip
    let x := sqOf q.val c
    c.tl.gt + 17 ≤ x.cursor ∧ sqIssues q.val 0x02 (.acq l adv n) c) ∧
  (
    let s : State := bound (sqNow sq (.frm 0 1 1 60 0x12))
    let q : Fin 64 := 2
    let l : BitVec 4 := 1
    let adv : BitVec 16 := 60
    let v : BitVec 32 := 0x0012
    let rep : BitVec 1 := 1
    let c := s.chip
    let x := sqOf q.val c
    c.tl.gt + 17 ≤ x.cursor ∧ sqIssues q.val 0x03 (.frm 0 rep l adv v) c) ∧
  (
    let s : State := on_ (bound (sqNow sq (.frm 1 1 1 60 0x12))) (lay (sqProgAddr 2 7) [encodeSq (.ext 5 9)])
    let q : Fin 64 := 2
    let l : BitVec 4 := 1
    let adv : BitVec 16 := 60
    let v : BitVec 32 := 0x0012
    let rep : BitVec 1 := 1
    let c := s.chip
    let x := sqOf q.val c
    c.tl.gt + 17 ≤ x.cursor ∧ sqIssues q.val 0x03 (.frm 1 rep l adv v) c) ∧
  (
    let s : State := bound (sqNow sq (.setf 1 0x123456789ABC))
    let q : Fin 64 := 2
    let l : BitVec 4 := 1
    let fw : BitVec 48 := 0x123456789ABC
    let c := s.chip
    let x := sqOf q.val c
    c.tl.gt + 17 ≤ x.cursor ∧ sqIssues q.val 0x04 (.setf l fw) c) ∧
  (
    let s : State := bound (sqNow sq (.shot 60))
    let q : Fin 64 := 2
    let adv : BitVec 16 := 60
    let c := s.chip
    let x := sqOf q.val c
    c.tl.gt + 17 ≤ x.cursor ∧ sqIssues q.val 0x05 (.shot adv) c) ∧
  (
    let s : State := bound (sqNow sq (.mark 60 5 1 9))
    let q : Fin 64 := 2
    let adv : BitVec 16 := 60
    let pin : BitVec 3 := 5
    let act : BitVec 2 := 1
    let wid : BitVec 24 := 9
    let c := s.chip
    let x := sqOf q.val c
    c.tl.gt + 17 ≤ x.cursor ∧ sqIssues q.val 0x06 (.mark adv pin act wid) c) ∧
  (
    let s : State := bound (sqNow sq (.post 60 1))
    let q : Fin 64 := 2
    let adv : BitVec 16 := 60
    let p : BitVec 1 := 1
    let c := s.chip
    let x := sqOf q.val c
    c.tl.gt + 17 ≤ x.cursor ∧ sqIssues q.val 0x07 (.post adv p) c) ∧
  (
    let s : State := bound (sqNow sq (.txc 60 77))
    let q : Fin 64 := 2
    let adv : BitVec 16 := 60
    let d : BitVec 16 := 77
    let c := s.chip
    let x := sqOf q.val c
    c.tl.gt + 17 ≤ x.cursor ∧ sqIssues q.val 0x08 (.txc adv d) c) ∧
  (
    let s : State := bound (sqNow sq (.calw 60 3))
    let q : Fin 64 := 2
    let adv : BitVec 16 := 60
    let j : BitVec 4 := 3
    let c := s.chip
    let x := sqOf q.val c
    c.tl.gt + 17 ≤ x.cursor ∧ sqIssues q.val 0x09 (.calw adv j) c) ∧
  (
    let s : State := bound (sqNow sq (.stop))
    let q : Fin 64 := 2
    let c := s.chip
    let x := sqOf q.val c
    c.tl.gt + 17 ≤ x.cursor ∧ sqIssues q.val 0x0A .stop c) :=
  ⟨by dsimp only; unfold sqIssues; decide +kernel,
  by dsimp only; unfold sqIssues; decide +kernel,
  by dsimp only; unfold sqIssues; decide +kernel,
  by dsimp only; unfold sqIssues; decide +kernel,
  by dsimp only; unfold sqIssues; decide +kernel,
  by dsimp only; unfold sqIssues; decide +kernel,
  by dsimp only; unfold sqIssues; decide +kernel,
  by dsimp only; unfold sqIssues; decide +kernel,
  by dsimp only; unfold sqIssues; decide +kernel,
  by dsimp only; unfold sqIssues; decide +kernel,
  by dsimp only; unfold sqIssues; decide +kernel,
  by dsimp only; unfold sqIssues; decide +kernel⟩

theorem witness_SequencerWaitsComplete :
  (
    let s : State := waitsAt { sq with sampled := some freshSel } (.waito 0x1234)
    let q : Fin 64 := 2
    let sel : BitVec 16 := 0x1234
    let v : Sel := freshSel
    let c := s.chip
    let x := sqOf q.val c
    let asks : Prop := sqIssues q.val 0x11 (.waito sel) c
    x.sampled = some v ∧ v.ready = .fresh ∧ asks) ∧
  (
    let s : State := waitsAt { sq with sampled := some freshSel } (.bro 0 50 0x1234 1)
    let q : Fin 64 := 2
    let sel : BitVec 16 := 0x1234
    let f : BitVec 2 := 0
    let a : BitVec 13 := 50
    let val : BitVec 2 := 1
    let v : Sel := freshSel
    let t : Nat := 50
    let c := s.chip
    let x := sqOf q.val c
    let target : Option Nat :=
      if f = 0 then (if v.value = val.toNat then some a.toNat else none)
      else if f = 1 then (if v.value ≠ val.toNat then some a.toNat else none)
      else match v.entry with
        | some e => if bitAt e 13 then some (bits e 0 13) else none
        | none => if v.alt then some a.toNat else none
    let branches : Prop := sqIssues q.val 0x12 (.bro f a sel val) c
    x.sampled = some v ∧ v.ready = .fresh ∧ branches ∧ target = some t) ∧
  (
    let s : State := waitsAt { sq with sampled := some freshSel } (.bro 0 50 0x1234 2)
    let q : Fin 64 := 2
    let sel : BitVec 16 := 0x1234
    let f : BitVec 2 := 0
    let a : BitVec 13 := 50
    let val : BitVec 2 := 2
    let v : Sel := freshSel
    let c := s.chip
    let x := sqOf q.val c
    let target : Option Nat :=
      if f = 0 then (if v.value = val.toNat then some a.toNat else none)
      else if f = 1 then (if v.value ≠ val.toNat then some a.toNat else none)
      else match v.entry with
        | some e => if bitAt e 13 then some (bits e 0 13) else none
        | none => if v.alt then some a.toNat else none
    let branches : Prop := sqIssues q.val 0x12 (.bro f a sel val) c
    x.sampled = some v ∧ v.ready = .fresh ∧ branches ∧ target = none) ∧
  (
    let s : State := waitsAt { sq with sampled := some laterSel } (.waito 0x1234)
    let q : Fin 64 := 2
    let sel : BitVec 16 := 0x1234
    let v : Sel := laterSel
    let c := s.chip
    let x := sqOf q.val c
    let asks : Prop := sqIssues q.val 0x11 (.waito sel) c
    x.sampled = some v ∧ v.ready = .notReady ∧ asks) ∧
  (
    let s : State := waitsAt { sq with sampled := some laterSel } (.bro 0 50 0x1234 1)
    let q : Fin 64 := 2
    let sel : BitVec 16 := 0x1234
    let f : BitVec 2 := 0
    let a : BitVec 13 := 50
    let val : BitVec 2 := 1
    let v : Sel := laterSel
    let c := s.chip
    let x := sqOf q.val c
    let branches : Prop := sqIssues q.val 0x12 (.bro f a sel val) c
    x.sampled = some v ∧ v.ready = .notReady ∧ branches) ∧
  (
    let s : State := on_ (waitsAt { sq with sampled := some staleSel } (.waito 0x1234)) (put [(P.osqStalePolicy 2, 1)])
    let q : Fin 64 := 2
    let sel : BitVec 16 := 0x1234
    let v : Sel := staleSel
    let c := s.chip
    let x := sqOf q.val c
    let asks : Prop := sqIssues q.val 0x11 (.waito sel) c
    x.sampled = some v ∧ v.ready = .stale ∧ x.staleSeen = false ∧ rd (P.osqStalePolicy q.val) c ≠ 0 ∧ asks) ∧
  (
    let s : State := on_ (waitsAt { sq with sampled := some staleSel } (.bro 0 50 0x1234 1)) (put [(P.osqStalePolicy 2, 1)])
    let q : Fin 64 := 2
    let sel : BitVec 16 := 0x1234
    let f : BitVec 2 := 0
    let a : BitVec 13 := 50
    let val : BitVec 2 := 1
    let v : Sel := staleSel
    let c := s.chip
    let x := sqOf q.val c
    let branches : Prop := sqIssues q.val 0x12 (.bro f a sel val) c
    x.sampled = some v ∧ v.ready = .stale ∧ x.staleSeen = false ∧ rd (P.osqStalePolicy q.val) c ≠ 0 ∧ branches) ∧
  (
    let s : State := waitsAt { sq with sampled := some freshSel, waiting := some 999990 } (.waito 0x1234)
    let q : Fin 64 := 2
    let v : Sel := freshSel
    let i : Nat := 999990
    let w : SqInstr := .waito 0x1234
    let c := s.chip
    waitingOn q.val c = some (w, i, v) ∧ inTrap q.val c = false ∧ (microOf q.val c).stopped = false ∧ i < c.clk ∧ v.ready = .fresh ∧ (seenBy q.val i c).2 = true) ∧
  (
    let s : State := waitsAt { sq with sampled := some laterSel, waiting := some 999900 } (.waito 0x1234)
    let q : Fin 64 := 2
    let v : Sel := laterSel
    let i : Nat := 999900
    let w : SqInstr := .waito 0x1234
    let c := s.chip
    let lim := rd (P.sqWaitoLimit q.val) c
    waitingOn q.val c = some (w, i, v) ∧ inTrap q.val c = false ∧ (microOf q.val c).stopped = false ∧ lim ≠ 0 ∧ i + lim < c.clk ∧ (v.ready = .fresh → (seenBy q.val i c).2 = false)) :=
  ⟨by dsimp only; unfold sqIssues; decide +kernel,
  by dsimp only; unfold sqIssues; decide +kernel,
  by dsimp only; unfold sqIssues; decide +kernel,
  by dsimp only; unfold sqIssues; decide +kernel,
  by dsimp only; unfold sqIssues; decide +kernel,
  by dsimp only; unfold sqIssues; decide +kernel,
  by dsimp only; unfold sqIssues; decide +kernel,
  by dsimp only; decide +kernel,
  by dsimp only; decide +kernel⟩

theorem witness_SequencerLateAndFaults :
  (
    let s : State := bound (sqNow { sq with cursor := 1000016 } (.play 0 1 60 0x12))
    let q : Fin 64 := 2
    let l : BitVec 4 := 1
    let adv : BitVec 16 := 60
    let v : BitVec 32 := 0x12
    let c := s.chip
    let x := sqOf q.val c
    sqIssues q.val 0x01 (.play 0 l adv v) c ∧ x.cursor < c.tl.gt + 17) ∧
  (
    let s : State := on_ (sqAt sq 0 .nop) (lay (sqProgAddr 2 6) [0x0B00000000000000])
    let q : Fin 64 := 2
    let op : Nat := 0x0B
    let k : Nat := 1
    let ks : List Nat := []
    let c := s.chip
    let x := sqOf q.val c
    patched c = false ∧ x.faulting = none ∧ sqBegun q.val op c = true ∧ sqFaults q.val c = k :: ks) ∧
  (
    let s : State := st (setSq 2 { sq with issuing := true, pc := 8192 } running)
    let q : Fin 64 := 2
    let c := s.chip
    let x := sqOf q.val c
    let free : Prop := x.issuing = true ∧ x.first ≤ c.clk ∧ (microOf q.val c).stopped = false ∧ inTrap q.val c = false
    patched c = false ∧ x.faulting = none ∧ free ∧ 8192 ≤ x.pc) ∧
  (
    let s : State := sqNow { sq with faulting := some (1000000, 3) } .nop
    let q : Fin 64 := 2
    let op : Nat := 0
    let code : Nat := 3
    let t : Nat := 1000000
    let c := s.chip
    let x := sqOf q.val c
    x.faulting = some (t, code) ∧ t ≤ c.clk ∧ sqBegun q.val op c = true) ∧
  (
    let s : State := st (setSq 2 { sq with issuing := true, pc := 8192, faulting := some (1000000, 9) } running)
    let q : Fin 64 := 2
    let code : Nat := 9
    let t : Nat := 1000000
    let c := s.chip
    let x := sqOf q.val c
    let free : Prop := x.issuing = true ∧ x.first ≤ c.clk ∧ (microOf q.val c).stopped = false ∧ inTrap q.val c = false
    x.faulting = some (t, code) ∧ t ≤ c.clk ∧ free ∧ 8192 ≤ x.pc) :=
  ⟨by dsimp only; unfold sqIssues; decide +kernel,
  by dsimp only; decide +kernel,
  by dsimp only; decide +kernel,
  by dsimp only; decide +kernel,
  by dsimp only; decide +kernel⟩

theorem witness_SlotsCommit :
  (
    let s : State := posted (slotOf 6 0x915 1000016) running
    let q : Fin 64 := 2
    let sl : Slot := slotOf 6 0x915 1000016
    let c := s.chip
    let x := sqOf q.val c
    x.slots.filter (fun y => y.time == c.tl.gt + 16) = [sl] ∧ sl.lb = false ∧ sl.kind = 6) ∧
  (
    let s : State := posted (slotOf 1 0x7FFF0009 1000016) (flux (shelf 9 running))
    let q : Fin 64 := 2
    let sl : Slot := slotOf 1 0x7FFF0009 1000016
    let tt : Target := .flx 3
    let c := s.chip
    let x := sqOf q.val c
    let shelf := sl.op0 % 2 ^ 13
    let ln := laneOf tt c
    x.slots.filter (fun y => y.time == c.tl.gt + 16) = [sl] ∧ sl.lb = false ∧ sl.kind = 1 ∧ bitAt sl.op0 13 = false ∧ (bindOf q.val sl.lane c).tone = some tt ∧ mayLatch tt shelf sl.time c ∧ (∀ y ∈ ln.plays, y.start < sl.time ∧ y.stop ≤ sl.time)) :=
  ⟨by dsimp only; decide +kernel,
  by dsimp only; unfold mayLatch; decide +kernel⟩

theorem witness_SlotsAct :
  (
    let s : State := act (latchedOf 4 0x123456 toTone) (toned)
    let q : Fin 64 := 2
    let l : Latched := latchedOf 4 0x123456 toTone
    let tt : Target := .drv 5 3
    let c := s.chip
    let fw := l.slot.op0 + l.slot.op1 % 2 ^ 16 * 2 ^ 32
    let due (kind : Nat) : Prop := actNow q.val kind c = [l]
    due 4 ∧ l.bind.tone = some tt ∧ isFlx tt = false ∧ bandOk (rd (P.portBand (tgtPort tt).1 (tgtPort tt).2) c) fw = true) ∧
  (
    let s : State := act wordChan (running)
    let q : Fin 64 := 2
    let l : Latched := wordChan
    let ch : Fin 288 := 77
    let c := s.chip
    let fw := l.slot.op0 + l.slot.op1 % 2 ^ 16 * 2 ^ 32
    let due (kind : Nat) : Prop := actNow q.val kind c = [l]
    due 4 ∧ l.bind.tone = none ∧ l.bind.chan = some ch.val ∧ pairOf ch.val c = none ∧ rxLegal fw = true) ∧
  (
    let s : State := act (latchedOf 3 0xFFFFFFFF toTone) (toned)
    let q : Fin 64 := 2
    let l : Latched := latchedOf 3 0xFFFFFFFF toTone
    let tt : Target := .drv 5 3
    let c := s.chip
    let due (kind : Nat) : Prop := actNow q.val kind c = [l]
    due 3 ∧ l.bind.tone = some tt ∧ isFlx tt = false) ∧
  (
    let s : State := act (latchedOf 4 0x123456 toFlux) (running)
    let q : Fin 64 := 2
    let l : Latched := latchedOf 4 0x123456 toFlux
    let p : Fin 24 := 3
    let c := s.chip
    let due (kind : Nat) : Prop := actNow q.val kind c = [l]
    l.bind.tone = some (.flx p) ∧ l.bind.chan = none ∧ due 4) ∧
  (
    let s : State := act (latchedOf 3 5 toFlux) (running)
    let q : Fin 64 := 2
    let l : Latched := latchedOf 3 5 toFlux
    let p : Fin 24 := 3
    let c := s.chip
    let due (kind : Nat) : Prop := actNow q.val kind c = [l]
    l.bind.tone = some (.flx p) ∧ l.bind.chan = none ∧ due 3) ∧
  (
    let s : State := act (latchedOf 2 400 toChan) (running)
    let q : Fin 64 := 2
    let l : Latched := latchedOf 2 400 toChan
    let ch : Fin 288 := 77
    let c := s.chip
    let due (kind : Nat) : Prop := actNow q.val kind c = [l]
    let live := (openOn ch.val c).filter (fun w => decide (c.tl.gt < w.stop))
    due 2 ∧ l.bind.chan = some ch.val ∧ live.length < 2) ∧
  (
    let s : State := act (latchedOf 2 400 toChan) (windows twoOpen running)
    let q : Fin 64 := 2
    let l : Latched := latchedOf 2 400 toChan
    let ch : Fin 288 := 77
    let c := s.chip
    let due (kind : Nat) : Prop := actNow q.val kind c = [l]
    let live := (openOn ch.val c).filter (fun w => decide (c.tl.gt < w.stop))
    due 2 ∧ l.bind.chan = some ch.val ∧ 2 ≤ live.length) ∧
  (
    let s : State := act (latchedOf 6 0x15 free) (put [(P.sqMarkOwner 5, 2)] running)
    let q : Fin 64 := 2
    let l : Latched := latchedOf 6 0x15 free
    let pin : Fin 8 := 5
    let c := s.chip
    let due (kind : Nat) : Prop := actNow q.val kind c = [l]
    due 6 ∧ l.op % 8 = pin.val ∧ rd (P.sqMarkOwner pin.val) c = q.val ∧ markSrcNow pin.val c = false) ∧
  (
    let s : State := act (latchedOf 6 0x15 free) (pulsing running)
    let pin : Fin 8 := 5
    let c := s.chip
    let old := Tab.get c.sqs.markHigh pin.val false
    Tab.find c.sqs.markEnd pin.val = some c.tl.gt ∧ old = true) :=
  ⟨by dsimp only; decide +kernel,
  by dsimp only; decide +kernel,
  by dsimp only; decide +kernel,
  by dsimp only; decide +kernel,
  by dsimp only; decide +kernel,
  by dsimp only; decide +kernel,
  by dsimp only; decide +kernel,
  by dsimp only; decide +kernel,
  by dsimp only; decide +kernel⟩

theorem witness_PostRaisesItsProducer :
  (
    let s : State := act (latchedOf 7 1 free) (put [(P.ecChEn 9, 1), (P.ecCons 9, 3), (P.ecEnRow 9 0, 32), (P.ecGateInv 9, 1)] running)
    let q : Fin 64 := 2
    let l : Latched := latchedOf 7 1 free
    let ch : Fin 128 := 9
    let c := s.chip
    let p := 2 * q.val + l.op % 2
    let k (n : Nat) : Nat := (chanCfg ch.val c).getD n 0
    actNow q.val 7 c = [l] ∧ (c.md.mode = .run ∨ c.md.mode = .hold) ∧ k 0 = 1 ∧ k 4 ≠ 0x7F ∧ bitAt (k (6 + p / 64)) (p % 64) = true ∧ bitAt c.now.gates (k 3) ≠ (k 2 == 1) ∧ (∀ f ∈ c.ev.flights, ¬(f.ch = ch.val ∧ f.raised = c.clk))) :=
  by dsimp only; decide +kernel

theorem witness_ShotBoundariesExecute :
  (
    let s : State := act (latchedOf 5 0 free) (put [(P.sqSqPacer, 7)] running)
    let q : Fin 64 := 2
    let l : Latched := latchedOf 5 0 free
    let c := s.chip
    boundaryMode q.val c = none ∧ actNow q.val 5 c = [l]) ∧
  (
    let s : State := act (latchedOf 10 0 free) (put [(P.sqSqPacer, 7)] running)
    let q : Fin 64 := 2
    let l : Latched := latchedOf 10 0 free
    let c := s.chip
    boundaryMode q.val c = none ∧ actNow q.val 10 c = [l]) :=
  ⟨by dsimp only; decide +kernel,
  by dsimp only; decide +kernel⟩

theorem witness_ShelvesPlay :
  (
    let s : State := lane3 [playing 999900 1000016 true] none (shelf 10 running)
    let t : Target := .flx 3
    let y : Play := playing 999900 1000016 true
    let n : Fin 8192 := 10
    let c := s.chip
    let ln := laneOf t c
    let b := c.tl.gt + 16
    lastPlay ln = some y ∧ y.stop = b ∧ y.next = some n.val ∧ jumpDue t c = false ∧ mayLatch t n.val b c) ∧
  (
    let s : State := lane3 [playing 999900 1000016 true] none (running)
    let t : Target := .flx 3
    let y : Play := playing 999900 1000016 true
    let n : Fin 8192 := 10
    let c := s.chip
    let ln := laneOf t c
    let b := c.tl.gt + 16
    lastPlay ln = some y ∧ y.stop = b ∧ y.next = some n.val ∧ jumpDue t c = false ∧ (shelfAt n.val c).getD 6 0 < shelfValid) ∧
  (
    let s : State := lane3 [playing 999900 1000016 true, playing 1000016 1000100 false] (some { shelf := some 10, boundary := 1000016, req := 1000000 }) (shelf 10 running)
    let t : Target := .flx 3
    let n : Fin 8192 := 10
    let req : Nat := 1000000
    let c := s.chip
    let ln := laneOf t c
    let b := c.tl.gt + 16
    let rival (p : Play) : Bool := p.start == b && p.kind == .play
    let kept := ln.plays.filter (fun p => !rival p)
    ln.jump = some { shelf := some n.val, boundary := b, req := req } ∧ (∀ p ∈ ln.plays, rival p = true → p.latched < req ∧ p.shelf < 8192) ∧ mayLatch t n.val b (setLane t { ln with plays := kept } c)) ∧
  (
    let s : State := lane3 [playing 999900 1000016 true] (some { shelf := none, boundary := 1000016, req := 1000000 }) (running)
    let t : Target := .flx 3
    let req : Nat := 1000000
    let c := s.chip
    let ln := laneOf t c
    let b := c.tl.gt + 16
    let rival (p : Play) : Bool := p.start == b && p.kind == .play
    ln.jump = some { shelf := none, boundary := b, req := req } ∧ (∀ p ∈ ln.plays, rival p = true → p.latched < req ∧ p.shelf < 8192)) ∧
  (
    let s : State := lane3 [{ playing 1000016 1000100 false with latched := 1000000 }] (some { shelf := some 10, boundary := 1000016, req := 1000000 }) (shelf 10 running)
    let t : Target := .flx 3
    let y : Play := { playing 1000016 1000100 false with latched := 1000000 }
    let o : Option Nat := some 10
    let req : Nat := 1000000
    let c := s.chip
    let ln := laneOf t c
    let b := c.tl.gt + 16
    let rival (p : Play) : Bool := p.start == b && p.kind == .play
    ln.jump = some { shelf := o, boundary := b, req := req } ∧ y ∈ ln.plays ∧ rival y = true ∧ req ≤ y.latched) ∧
  (
    let s : State := lane3 [playing 1000000 1000100 false] none (flux running)
    let t : Target := .flx 3
    let y : Play := playing 1000000 1000100 false
    let c := s.chip
    let ln := laneOf t c
    startDue ln c.tl.gt = some y ∧ y.silent = false) ∧
  (
    let s : State := lane3 [{ playing 1000000 1000000 false with silent := true, underrun := true }] none (running)
    let t : Target := .flx 3
    let y : Play := { playing 1000000 1000000 false with silent := true, underrun := true }
    let c := s.chip
    let ln := laneOf t c
    startDue ln c.tl.gt = some y ∧ y.silent = true) ∧
  (
    let s : State := lane3 [playing 999000 999984 true] none (put [(P.shelfState 9, 3)] running)
    let y : Play := playing 999000 999984 true
    let sh : Fin 8192 := 9
    let key : Nat := 2003
    let owner : Lane := flux3 [playing 999000 999984 true] none
    let c := s.chip
    rd (P.shelfState sh.val) c = shelfActive ∧ shelfRefs sh.val c = 0 ∧ (key, owner) ∈ c.syn.lanes ∧ y ∈ owner.plays ∧ y.holds sh.val = true ∧ y.stop + 16 = c.tl.gt) :=
  ⟨by dsimp only; unfold mayLatch; decide +kernel,
  by dsimp only; decide +kernel,
  by dsimp only; unfold mayLatch; decide +kernel,
  by dsimp only; decide +kernel,
  by dsimp only; decide +kernel,
  by dsimp only; decide +kernel,
  by dsimp only; decide +kernel,
  by dsimp only; decide +kernel⟩

theorem witness_BiasStringsUpdate :
  (
    let s : State := st (setBias 4 { BiasOut.reset with updates := [(1000000, 0x3FFFF)] } running)
    let o : Fin 32 := 4
    let code : Nat := 0x3FFFF
    let c := s.chip
    let x := biasOf o.val c
    x.updates.filter (fun u => u.1 == c.clk) = [(c.clk, code)]) ∧
  (
    let s : State := st (setBias 4 { BiasOut.reset with switchAt := some 1000000, pendCode := 7, pendSpan := 2 } (put [(P.biaSpanBusy 4, 1)] running))
    let o : Fin 32 := 4
    let c := s.chip
    let x := biasOf o.val c
    x.switchAt = some c.clk) :=
  ⟨by dsimp only; decide +kernel,
  by dsimp only; decide +kernel⟩

theorem witness_ScheduledCommitsApply :
  (
    let s : State := st (drawn (scheduled [dueNow (.drawer 6)] running))
    let i : Fin 24 := 3
    let v : Nat := 99
    let dr : Nat := 6
    let n : Nat := 4
    let id : Nat := offset3
    let e : Sched := dueNow (.drawer 6)
    let c := s.chip
    let f := P.flxFlxOffset i.val
    let full : Drawer := { owner := n, entries := [{ id := f.id, value := v, mask := 2 ^ 16 - 1 }] }
    let drawerDue : Prop := schedDue isDrawerAct c = some e ∧ e.act = .drawer dr ∧ Tab.find c.mb.drawers dr = some full
    modeAdmitsSh c = true ∧ drawerDue ∧ schedKeeps e c = true) ∧
  (
    let s : State := st (time (fun t => { t with state := 5 }) (drawn (scheduled [{ dueNow (.drawer 6) with gt0 := false }] running)))
    let i : Fin 24 := 3
    let v : Nat := 99
    let dr : Nat := 6
    let n : Nat := 4
    let id : Nat := offset3
    let e : Sched := { dueNow (.drawer 6) with gt0 := false }
    let c := s.chip
    let f := P.flxFlxOffset i.val
    let full : Drawer := { owner := n, entries := [{ id := f.id, value := v, mask := 2 ^ 16 - 1 }] }
    let drawerDue : Prop := schedDue isDrawerAct c = some e ∧ e.act = .drawer dr ∧ Tab.find c.mb.drawers dr = some full
    drawerDue ∧ schedKeeps e c = false) ∧
  (
    let s : State := act (latchedOf 8 6 free) (drawn running)
    let i : Fin 24 := 3
    let v : Nat := 99
    let dr : Nat := 6
    let n : Nat := 4
    let id : Nat := offset3
    let q : Fin 64 := 2
    let l : Latched := latchedOf 8 6 free
    let c := s.chip
    let f := P.flxFlxOffset i.val
    let full : Drawer := { owner := n, entries := [{ id := f.id, value := v, mask := 2 ^ 16 - 1 }] }
    let slotDue : Prop := actNow q.val 0x08 c = [l] ∧ l.op % 2 ^ 16 = dr ∧ Tab.find c.mb.drawers dr = some full
    modeAdmitsSh c = true ∧ slotDue) ∧
  (
    let s : State := st (scheduled [dueNow (.group offset3 true)] running)
    let id : Nat := offset3
    let b : Bool := true
    let g : GroupKind × Nat := (.offset, 3)
    let e : Sched := dueNow (.group offset3 true)
    let c := s.chip
    let groupDue : Prop := schedDue isGroupAct c = some e ∧ e.act = .group id b ∧ groupOfId id = some g ∧ schedKeeps e c = true
    groupDue ∧ (b = false ∨ drawerHolds g c = false)) ∧
  (
    let s : State := st (drawn (scheduled [dueNow (.group offset3 true)] running))
    let id : Nat := offset3
    let b : Bool := true
    let g : GroupKind × Nat := (.offset, 3)
    let e : Sched := dueNow (.group offset3 true)
    let c := s.chip
    let groupDue : Prop := schedDue isGroupAct c = some e ∧ e.act = .group id b ∧ groupOfId id = some g ∧ schedKeeps e c = true
    groupDue ∧ b = true ∧ drawerHolds g c = true) :=
  ⟨by dsimp only; decide +kernel,
  by dsimp only; decide +kernel,
  by dsimp only; decide +kernel,
  by dsimp only; decide +kernel,
  by dsimp only; decide +kernel⟩

theorem witness_WindowsGiveResults :
  (
    let s : State := st (windows [window] running)
    let e : Fin 24 := 1
    let k : Fin 12 := 7
    let j : Fin 2 := 1
    let w : Window := window
    let c := s.chip
    w ∈ c.rin.windows ∧ w.ch = 12 * e.val + k.val ∧ w.w = j.val ∧ w.due = none ∧ w.stop = c.tl.gt ∧ (∀ y ∈ c.rin.windows, y.ch = w.ch → y.w = w.w → y.due = none → y.stop = c.tl.gt → y = w)) ∧
  (
    let s : State := st (windows [{ window with due := some 1000000 }] (put [(P.dxeRshift 1 7, 3)] running))
    let e : Fin 24 := 1
    let k : Fin 12 := 7
    let j : Fin 2 := 1
    let w : Window := { window with due := some 1000000 }
    let c := s.chip
    let x := engOf e.val c
    w ∈ c.rin.windows ∧ w.ch = 12 * e.val + k.val ∧ w.w = j.val ∧ dueResults e.val c = [w] ∧ x.queue.length < 32) ∧
  (
    let s : State := st (setEng 1 { Engine.reset with queue := List.replicate 32 result } (windows [{ window with due := some 1000000 }] running))
    let e : Fin 24 := 1
    let k : Fin 12 := 7
    let j : Fin 2 := 1
    let w : Window := { window with due := some 1000000 }
    let c := s.chip
    let x := engOf e.val c
    w ∈ c.rin.windows ∧ w.ch = 12 * e.val + k.val ∧ w.w = j.val ∧ dueResults e.val c = [w] ∧ 32 ≤ x.queue.length) :=
  ⟨by dsimp only; decide +kernel,
  by dsimp only; decide +kernel,
  by dsimp only; decide +kernel⟩

theorem witness_ReadoutCorrects :
  (
    let s : State := on_ (rin4 50) (fun c => { c with th := { c.th with pause := 1024 }, rin := { c.rin with ests := [(4, { Estimator.reset with ended := some false, from_ := some 999000 })] } })
    let r : Fin 12 := 4
    let over_ : Bool := false
    let c := s.chip
    let x := estOf r.val c
    x.ended = some over_ ∧ blockPaused r.val c = true) ∧
  (
    let s : State := on_ (rin4 51) (fun c => { c with rin := { c.rin with ests := [(4, { Estimator.reset with ended := some false })] } })
    let r : Fin 12 := 4
    let b : EstBlock := block
    let over_ : Bool := false
    let c := s.chip
    let x := estOf r.val c
    let rejected : Bool := decide (b.rms < rd (P.rinEstMin r.val) c) || over_
    x.ended = some over_ ∧ blockPaused r.val c = false ∧ rejected = true) ∧
  (
    let s : State := on_ (rin4 50) (fun c => { c with rin := { c.rin with ests := [(4, { Estimator.reset with ended := some false })] } })
    let r : Fin 12 := 4
    let b : EstBlock := { block with skewBlind := true }
    let over_ : Bool := false
    let c := s.chip
    let x := estOf r.val c
    let rejected : Bool := decide (b.rms < rd (P.rinEstMin r.val) c) || over_
    x.ended = some over_ ∧ blockPaused r.val c = false ∧ rejected = false ∧ b.skewBlind = true) ∧
  (
    let s : State := on_ (rin4 50) (fun c => { c with rin := { c.rin with ests := [(4, { Estimator.reset with ended := some false })] } })
    let r : Fin 12 := 4
    let b : EstBlock := block
    let over_ : Bool := false
    let c := s.chip
    let x := estOf r.val c
    let rejected : Bool := decide (b.rms < rd (P.rinEstMin r.val) c) || over_
    x.ended = some over_ ∧ blockPaused r.val c = false ∧ rejected = false ∧ b.skewBlind = false) ∧
  (
    let s : State := rinSwitch
    let r : Fin 12 := 4
    let e : Sched := dueNow (.calSwitch 4)
    let es : List (Int × Int × Int) := [(5, -6, 7), (8, 9, 10)]
    let j : Fin 8 := 1
    let set : Int × Int × Int := (8, 9, 10)
    let c := s.chip
    let x := estOf r.val c
    let mine (k : Sched) : Bool := k.act == .calSwitch r.val && k.gt == c.tl.gt
    c.tl.sched.filter mine = [e] ∧ schedKeeps e c = true ∧ sampling c = true ∧ x.lastAt ≠ some c.clk ∧ x.prior = some es ∧ es[j.val]? = some set) :=
  ⟨by dsimp only; decide +kernel,
  by dsimp only; decide +kernel,
  by dsimp only; decide +kernel,
  by dsimp only; decide +kernel,
  by dsimp only; decide +kernel⟩

theorem witness_CalibrationWindowsComplete :
  (
    let s : State := passAt (gapAt' 1000000) 3
    let p : Port := .prb 5
    let g : Gap := gapAt' 1000000
    let c := s.chip
    let k := portOp p
    g ∈ c.rin.gaps ∧ g.port = k ∧ g.taken = true ∧ g.start = c.tl.gt) ∧
  (
    let s : State := st { chipIn .calibrate with rin := { Readout.reset with calTodo := [45] } }
    let p : Port := .prb 5
    let c := s.chip
    let k := portOp p
    c.md.mode = .calibrate ∧ c.md.trans = none ∧ k ∈ c.rin.calTodo.take 4 ∧ rd W.thrLevel c ≠ 4 ∧ c.pw.forcedZero = false ∧ (∀ y ∈ c.rin.gaps, y.port = k → y.start + 2048 ≤ c.tl.gt)) ∧
  (
    let s : State := passAt ({ gapAt' 997952 with spoiled := true }) 3
    let p : Port := .prb 5
    let g : Gap := { gapAt' 997952 with spoiled := true }
    let c := s.chip
    let k := portOp p
    let ends (y : Gap) : Prop := y.port = k ∧ y.taken = true ∧ y.start + 2048 = c.tl.gt
    g ∈ c.rin.gaps ∧ ends g ∧ (∀ y ∈ c.rin.gaps, ends y → y = g) ∧ g.spoiled = true) ∧
  (
    let s : State := passAt (gapAt' 997952) 3
    let p : Port := .prb 5
    let g : Gap := gapAt' 997952
    let c := s.chip
    let k := portOp p
    let ends (y : Gap) : Prop := y.port = k ∧ y.taken = true ∧ y.start + 2048 = c.tl.gt
    g ∈ c.rin.gaps ∧ ends g ∧ (∀ y ∈ c.rin.gaps, ends y → y = g) ∧ g.spoiled = false ∧ rd (dcalDone k) c < 15) ∧
  (
    let s : State := passAt (gapAt' 997952) 15
    let p : Port := .prb 5
    let g : Gap := gapAt' 997952
    let pass : Bool := true
    let c := s.chip
    let k := portOp p
    let ends (y : Gap) : Prop := y.port = k ∧ y.taken = true ∧ y.start + 2048 = c.tl.gt
    g ∈ c.rin.gaps ∧ ends g ∧ (∀ y ∈ c.rin.gaps, ends y → y = g) ∧ g.spoiled = false ∧ rd (dcalDone k) c = 15 ∧ pass = true) ∧
  (
    let s : State := passAt (gapAt' 997952) 15
    let p : Port := .prb 5
    let g : Gap := gapAt' 997952
    let pass : Bool := false
    let c := s.chip
    let k := portOp p
    let ends (y : Gap) : Prop := y.port = k ∧ y.taken = true ∧ y.start + 2048 = c.tl.gt
    g ∈ c.rin.gaps ∧ ends g ∧ (∀ y ∈ c.rin.gaps, ends y → y = g) ∧ g.spoiled = false ∧ rd (dcalDone k) c = 15 ∧ pass = false) :=
  ⟨by dsimp only; decide +kernel,
  by dsimp only; decide +kernel,
  by dsimp only; decide +kernel,
  by dsimp only; decide +kernel,
  by dsimp only; decide +kernel,
  by dsimp only; decide +kernel⟩

theorem witness_OutcomesBecomeVisible :
  (
    let s : State := st { running with oc := { Outcomes.reset with bus := [outcome] } }
    let e : Fin 24 := 1
    let o : OutRec := outcome
    let ch : Fin 288 := 19
    let c := s.chip
    let mine (o : OutRec) : Bool := o.engine == e.val && o.due == c.clk
    c.oc.bus.filter mine = [o] ∧ o.ch = ch.val) ∧
  (
    let s : State := st (setDu 6 { DecUnit.reset with reads := [1000000], sample := some decision } running)
    let u : Fin 64 := 6
    let y : Decision := decision
    let c := s.chip
    let x := duOf u.val c
    decModes c = true ∧ x.reads.contains c.clk = true ∧ x.sample = some y) ∧
  (
    let s : State := st (chipIn .fallback)
    let c := s.chip
    decModes c = false) ∧
  (
    let s : State := st (setDu 6 { DecUnit.reset with forming := [decision] } running)
    let u : Fin 64 := 6
    let y : Decision := decision
    let c := s.chip
    let x := duOf u.val c
    decModes c = true ∧ x.forming.find? (fun s => s.visible == c.clk) = some y) :=
  ⟨by dsimp only; decide +kernel,
  by dsimp only; decide +kernel,
  by dsimp only; decide +kernel,
  by dsimp only; decide +kernel⟩

theorem witness_TriggerInputsTaken :
  (
    let s : State := st (put [(P.pinEdgeSel 2, 1)] running)
    let p : Fin 4 := 2
    let falling : Bool := false
    let high : Bool := true
    let gt : BitVec 64 := 999996
    let f : BitVec 8 := 77
    let c := s.chip
    let pinAt : Int := (gt.toNat : Int) * 256 + (f.toNat : Int)
    let t := edgeTime p.val pinAt c
    let stamped : Prop := (Tab.find c.aq.lastEdge p.val).all (fun l => decide (l + 1024 ≤ pinAt)) = true
    (edgeSelected p.val falling c = true ∧ inModes [.reset, .boot, .shutdown] c = false ∧ stamped ∧ t / 256 + 4 = (c.tl.gt : Int)) ∧
    (edgeSelected p.val (!high) c = true ∧ inModes [.reset, .boot, .shutdown] c = false)) ∧
  (
    let s : State := st (put [(P.pinEdgeSel 2, 1)] running)
    let p : Fin 4 := 2
    let falling : Bool := false
    let gt : BitVec 64 := 999999
    let f : BitVec 8 := 77
    let c := s.chip
    let pinAt : Int := (gt.toNat : Int) * 256 + (f.toNat : Int)
    let t := edgeTime p.val pinAt c
    let stamped : Prop := (Tab.find c.aq.lastEdge p.val).all (fun l => decide (l + 1024 ≤ pinAt)) = true
    edgeSelected p.val falling c = true ∧ inModes [.reset, .boot, .shutdown] c = false ∧ stamped ∧ (c.tl.gt : Int) < t / 256 + 4) ∧
  (
    let s : State := st (put [(P.pinEdgeSel 2, 1)] { running with aq := { Acq.reset with lastEdge := [(2, 255999100)] } })
    let p : Fin 4 := 2
    let falling : Bool := false
    let gt : BitVec 64 := 999997
    let f : BitVec 8 := 77
    let c := s.chip
    let pinAt : Int := (gt.toNat : Int) * 256 + (f.toNat : Int)
    let t := edgeTime p.val pinAt c
    let stamped : Prop := (Tab.find c.aq.lastEdge p.val).all (fun l => decide (l + 1024 ≤ pinAt)) = true
    edgeSelected p.val falling c = true ∧ inModes [.reset, .boot, .shutdown] c = false ∧ ¬ stamped ∧ (c.tl.gt : Int) ≤ t / 256 + 4) :=
  ⟨by dsimp only; decide +kernel,
  by dsimp only; decide +kernel,
  by dsimp only; decide +kernel⟩

theorem witness_TriggerUnitsArmAndDecide :
  (
    let s : State := unit3 TrigUnit.reset (scheduled [dueNow (.arm 3)] running)
    let t : Fin 8 := 3
    let e : Sched := dueNow (.arm 3)
    let c := s.chip
    schedDue (· == .arm t.val) c = some e ∧ schedKeeps e c = true) ∧
  (
    let s : State := unit3 { TrigUnit.reset with state := 1 } (time (fun t => { t with state := 5 }) (scheduled [{ dueNow (.arm 3) with gt0 := false }] running))
    let t : Fin 8 := 3
    let e : Sched := { dueNow (.arm 3) with gt0 := false }
    let c := s.chip
    let x := tuOf t.val c
    schedDue (· == .arm t.val) c = some e ∧ schedKeeps e c = false ∧ x.state = 1) ∧
  (
    let s : State := unit3 { TrigUnit.reset with state := 4, rearmAt := 1000000 } running
    let t : Fin 8 := 3
    let c := s.chip
    let x := tuOf t.val c
    x.state = 4 ∧ x.rearmAt ≤ c.clk) ∧
  (
    let s : State := unit3 { TrigUnit.reset with state := 3, settleAt := 1000000, cands := [candidate] } running
    let t : Fin 8 := 3
    let y : Cand := candidate
    let c := s.chip
    let x := tuOf t.val c
    x.state = 3 ∧ tuRuns t.val c = true ∧ x.settleAt ≤ c.clk ∧ y ∈ x.cands ∧ (∀ z ∈ x.cands, y.f < z.f ∨ (y.f = z.f ∧ y.node < z.node) ∨ y = z)) :=
  ⟨by dsimp only; decide +kernel,
  by dsimp only; decide +kernel,
  by dsimp only; decide +kernel,
  by dsimp only; decide +kernel⟩

theorem witness_StreamsCarryRecords :
  (
    let s : State := st (gtAt 1024000 (stream5 1 Stream.reset { running with aq := { Acq.reset with chanBuf := List.replicate 73 [] ++ [List.range 256] } }))
    let k : Fin 16 := 5
    let ch : Fin 288 := 73
    let l : List Nat := List.range 256
    let c := s.chip
    let x := streamOf k.val c
    on (P.stStreamEn k.val) c = true ∧ rd (P.stKind k.val) c = 1 ∧ on (P.stTriggered k.val) c = false ∧ modeTakes 7 c = true ∧ chanMask k.val c = [ch.val] ∧ c.tl.gt % 1024 = 0 ∧ c.aq.chanBuf.getD ch.val [] = l ∧ l.length = 256 ∧ x.lost = 0 ∧ roomFor k.val 1040 c = true ∧ (∀ y ∈ x.staged, y.offered ≠ c.clk)) ∧
  (
    let s : State := st (gtAt 1024000 (put [(P.stTriggered 5, 1), (P.rinRinEn 3, 1)] (stream5 2 Stream.reset running)))
    let k : Fin 16 := 5
    let c := s.chip
    let x := streamOf k.val c
    let input := bits (rd (P.stSrcSel k.val) c) 0 4
    on (P.stStreamEn k.val) c = true ∧ rd (P.stKind k.val) c = 2 ∧ on (P.stTriggered k.val) c = true ∧ modeTakes 8 c = true ∧ input < 12 ∧ on (P.rinRinEn input) c = true ∧ sampling c = true ∧ c.tl.gt % 256 = 0 ∧ 256 ≤ c.tl.gt ∧ 256 ≤ c.clk ∧ x.win = none ∧ recBytes x.staged + recBytes (x.held ++ [rawRec input (on (P.stRawCorr k.val) c) c]) ≤ partBytes k.val c) ∧
  (
    let s : State := st (setRing 300 { Ring.reset with ty := 5, run := true, log2 := 10, base := 4096 } (stream5 2 { Stream.reset with staged := [record2] } running))
    let k : Fin 16 := 5
    let q : Rec := record2
    let rest : List Rec := []
    let c := s.chip
    let x := streamOf k.val c
    let all := recHeader q x.seq :: q.words
    let ws := (all.drop x.sent).take 64
    x.staged = q :: rest ∧ x.sent < all.length ∧ portFree c = true ∧ streamTurn c = some k.val ∧ streamWins c = true ∧ x.sent + ws.length < all.length) ∧
  (
    let s : State := st (setRing 300 { Ring.reset with ty := 5, run := true, log2 := 10, base := 4096 } (stream5 2 { Stream.reset with staged := [record1] } running))
    let k : Fin 16 := 5
    let q : Rec := record1
    let rest : List Rec := []
    let c := s.chip
    let x := streamOf k.val c
    let all := recHeader q x.seq :: q.words
    let ws := (all.drop x.sent).take 64
    x.staged = q :: rest ∧ x.sent < all.length ∧ portFree c = true ∧ streamTurn c = some k.val ∧ streamWins c = true ∧ x.sent + ws.length = all.length) ∧
  (
    let s : State := st (stream5 2 { Stream.reset with lost := 3 } running)
    let k : Fin 16 := 5
    let c := s.chip
    let x := streamOf k.val c
    x.lost ≠ 0 ∧ roomFor k.val 24 c = true) :=
  ⟨by dsimp only; decide +kernel,
  by dsimp only; decide +kernel,
  by dsimp only; decide +kernel,
  by dsimp only; decide +kernel,
  by dsimp only; decide +kernel⟩

theorem witness_SmbusTransfersComplete :
  (
    let s : State := alerted
    let pec : Option Bool := none
    let c := s.chip
    (pec ≠ some false) ∧
    (pec ≠ some false ∧ c.now.set = []) ∧
    (alertLow c = true)) ∧
  (
    let pec : Option Bool := some false
    pec = some false) :=
  ⟨by dsimp only; decide +kernel,
  by decide +kernel⟩

theorem witness_JtagInstructionsComplete :
  (
    let s : State := pinN false
    let code : BitVec 8 := 0x55
    let c := s.chip
    (c.pw.resetN = false) ∧
    (code.toNat ∉ [0x00, 0x01, 0x02, 0x03, 0x20, 0xFE])) ∧
  (
    let s : State := pinN true
    let c := s.chip
    c.pw.resetN = true) ∧
  (
    let s : State := st (chipIn .bench)
    let c := s.chip
    c.md.mode = .bench) ∧
  (
    let s : State := debugs 0x00000002000000000000000000000100
    let c := s.chip
    let a := bits c.pn.dbg.toNat 0 32
    let ready : Prop := c.md.mode = .bench ∧ c.pn.dbgGo = true ∧ portFree c = true
    ready ∧ bitAt c.pn.dbg.toNat 96 = false ∧ oneRegion a 8 = true ∧ readRefused a 8 = none) ∧
  (
    let s : State := debugs 0x00000001998877665544332200000100
    let c := s.chip
    let a := bits c.pn.dbg.toNat 0 32
    let ready : Prop := c.md.mode = .bench ∧ c.pn.dbgGo = true ∧ portFree c = true
    ready ∧ bitAt c.pn.dbg.toNat 96 = true ∧ oneRegion a 8 = true ∧ regionOf a = some .shelves ∧ inActiveShelf a 8 c = false) :=
  ⟨by dsimp only; decide +kernel,
  by dsimp only; decide +kernel,
  by dsimp only; decide +kernel,
  by dsimp only; decide +kernel,
  by dsimp only; decide +kernel⟩

theorem witness_ThermalSamplesComplete :
  (
    let s : State := st running
    let raw : List Int := readings
    let c := s.chip
    sampleDue c = true ∧ raw.length = 9 ∧ (∀ t ∈ raw, 40 ≤ t ∧ t < 736) ∧ (∀ k : Fin 9, on (W.sensorFailed k.val) c = false) ∧ on P.thmSensorsLow c = false ∧ newFailures raw c = []) :=
  by dsimp only; decide +kernel

theorem witness_ThermalDwellsComplete :
  (
    let s : State := st (put [(W.tjWarn, 1)] (warm (fun t => { t with sampledAt := some 500000000, warnSince := some 1000, telemAt := 500000000 })))
    let c := s.chip
    (c.th.sampledAt = some c.clk ∧ on W.tjWarn c = true ∧ dwelt c.th.warnSince c = true) ∧
    (c.th.sampledAt = some c.clk ∧ c.th.telemAt ≤ c.clk ∧ inModes [.reset, .shutdown] c = false ∧ c.th.telemLast = none)) ∧
  (
    let s : State := st (put [(W.thrLevel, 2)] (warm (fun t => { t with sampledAt := some 500000000, fallSince := some 1000, telemAt := 500000001, holdUntil := 7 })))
    let c := s.chip
    (mayFall c = true ∧ rd W.thrLevel c < 8) ∧
    (c.th.holdUntil ≠ 0 ∧ c.th.holdUntil ≤ c.clk)) ∧
  (
    let s : State := st (warm (fun t => { t with nvSince := some 1000 }))
    let c := s.chip
    dwelt c.th.nvSince c = true) ∧
  (
    let s : State := st (put [(P.thmSenseFast, 1)] (warm (fun t => { t with midSince := some 1000 })))
    let c := s.chip
    on P.thmSenseFast c = true ∧ dwelt c.th.midSince c = true) ∧
  (
    let s : State := st (put [(P.thmRefcomp, 1)] (warm id))
    let c := s.chip
    on P.thmRefcomp c = true ∧ c.th.factorAt + 100000000 ≤ c.clk) :=
  ⟨by dsimp only; decide +kernel,
  by dsimp only; decide +kernel,
  by dsimp only; decide +kernel,
  by dsimp only; decide +kernel,
  by dsimp only; decide +kernel⟩

theorem witness_MicrotrapsComplete :
  (
    let s : State := patched18 (utick 0)
    let e : Fin 64 := 18
    let op : Nat := 0
    let u : UTick := utick 0
    let c := s.chip
    (sqWords e.val op u c) ∧
    (sqWords e.val op u c ∧ uRaise u.word = false ∧ uSeq u.word = 0 ∧ uSlot u.word = 0 ∧ uDest u.word = 0)) ∧
  (
    let s : State := patched18 (utick (2 ^ 83 * 2))
    let e : Fin 64 := 18
    let op : Nat := 0
    let u : UTick := utick (2 ^ 83 * 2)
    let c := s.chip
    sqWords e.val op u c ∧ uRaise u.word = false ∧ uSeq u.word = 0 ∧ uSlot u.word = 0 ∧ uDest u.word = 2) ∧
  (
    let s : State := patched18 (utick (2 ^ 83 * 3))
    let e : Fin 64 := 18
    let op : Nat := 0
    let u : UTick := utick (2 ^ 83 * 3)
    let c := s.chip
    sqWords e.val op u c ∧ uRaise u.word = false ∧ uSeq u.word = 0 ∧ uSlot u.word = 0 ∧ uDest u.word = 3) ∧
  (
    let s : State := patched18 (utick (2 ^ 125 * 4))
    let e : Fin 64 := 18
    let op : Nat := 0
    let u : UTick := utick (2 ^ 125 * 4)
    let c := s.chip
    sqWords e.val op u c ∧ uRaise u.word = false ∧ uSeq u.word = 4 ∧ uSlot u.word = 0 ∧ uDest u.word = 0) ∧
  (
    let s : State := patched18 { utick 0 with wake := 1 }
    let e : Fin 64 := 18
    let u : UTick := { utick 0 with wake := 1 }
    let c := s.chip
    let m := microOf e.val c
    patched c = true ∧ waitingOn e.val c = none ∧ m.due = some u ∧ m.did = false ∧ u.wake = 1) ∧
  (
    let s : State := patched18 { utick 0 with wake := 2 }
    let e : Fin 64 := 18
    let u : UTick := { utick 0 with wake := 2 }
    let c := s.chip
    let m := microOf e.val c
    patched c = true ∧ waitingOn e.val c = none ∧ m.due = some u ∧ m.did = false ∧ u.wake = 2) ∧
  (
    let s : State := live18 Micro.reset
    let e : Fin 64 := 18
    let n : Nat := 4
    let c := s.chip
    let m := microOf e.val c
    let runs : Prop := engineRuns e.val c = true
    (runs ∧ 1 ≤ n ∧ n ≤ 6 ∧ m.frame.length < 8) ∧
    (runs ∧ c.md.mode ≠ .reset)) ∧
  (
    let s : State := live18 { Micro.reset with frame := List.replicate 8 (0, none) }
    let e : Fin 64 := 18
    let n : Nat := 4
    let c := s.chip
    let m := microOf e.val c
    let runs : Prop := engineRuns e.val c = true
    runs ∧ 1 ≤ n ∧ n ≤ 6 ∧ 8 ≤ m.frame.length) ∧
  (
    let s : State := live18 { Micro.reset with peek := [(asker, 1)] }
    let e : Fin 64 := 18
    let n : Nat := 8
    let c := s.chip
    let m := microOf e.val c
    let runs : Prop := engineRuns e.val c = true
    runs ∧ m.frame = [] ∧ m.peek ≠ [] ∧ uTrapm (uWordAt e.val (wordDue e.val c) c) = false ∧ 1 ≤ n ∧ n ≤ 8) ∧
  (
    let s : State := live18 { Micro.reset with stopped := true }
    let r : Fin 4 := 1
    let c := s.chip
    (∃ q : Fin 64, q.val / 16 = r.val ∧ (microOf q.val c).stopped = true)) :=
  ⟨by dsimp only; unfold sqWords; decide +kernel,
  by dsimp only; unfold sqWords; decide +kernel,
  by dsimp only; unfold sqWords; decide +kernel,
  by dsimp only; unfold sqWords; decide +kernel,
  by dsimp only; decide +kernel,
  by dsimp only; decide +kernel,
  by dsimp only; decide +kernel,
  by dsimp only; decide +kernel,
  by dsimp only; decide +kernel,
  by dsimp only; decide +kernel⟩

set_option maxRecDepth 100000 in
theorem witness_CabinetWorkCompletes :
  (
    let s : State := st (cabinet (fun n => { n with queue := [boardReq] }) (put [(P.secCredit, 1), (W.nvWindow, 1)] (cool .run)))
    let q : NvReq := boardReq
    let rest : List NvReq := []
    let b : BoardRec := board
    let k : Nat := 272
    let c := s.chip
    c.nv.queue = q :: rest ∧ q.data = .board b ∧ q.blocks = 1 ∧ nvModes c = true ∧ c.nv.sumAt = none ∧ 1 ≤ rd P.secCredit c ∧ on W.nvWindow c = true ∧ firstBy (fun i => wearOf i c) (freeBlocks c) = some k ∧ wearOf k c + 1 < 100000) ∧
  (
    let s : State := st (cabinet (fun n => { n with biasPend := some biases }) (cool .run))
    let rs : List BiasRec := biases
    let k : Nat := 16
    let c := s.chip
    c.nv.biasPend = some rs ∧ c.nv.biasAt = none ∧ nvModes c = true ∧ biasBlock c = some k ∧ wearOf k c + 1 < 100000) ∧
  (
    let s : State := st { put [(P.secCredit, 1024)] (cool .run) with clk := 10000000000 }
    let c := s.chip
    c.pw.supplies = true ∧ c.nv.creditAt + 10000000000 ≤ c.clk) ∧
  (
    let s : State := st worn
    let j : Nat := 273
    let k : Nat := 272
    let c := s.chip
    let ws := (List.range 1776).map (fun i => wearOf (i + 272) c)
    wearModes c = true ∧ rd P.secCredit c = 1024 ∧ ws.sum + 1024 * 1776 < ws.foldl max 0 * 1776 ∧ firstBy (fun i => wearOf i c) (usedBlocks c) = some k ∧ firstBy (fun i => 1000000 - wearOf i c) (freeBlocks c) = some j ∧ wearOf j c + 1 < 100000) ∧
  (
    let s : State := st { put [(P.calSavePeriod, 7)] (cool .run) with clk := 10000000000 }
    let q : NvReq := boardReq
    let c := s.chip
    nvModes c = true ∧ rd P.calSavePeriod c ≠ 0 ∧ c.rin.saveAt + rd P.calSavePeriod c * 1000000000 ≤ c.clk ∧ tjInWindow c = true ∧ c.nv.queue.all (fun q => q.data.kind != .cal) = true) ∧
  (
    let s : State := st { put [(P.secCredit, 1024), (P.calSavePeriod, 7)] running with clk := 10000000000 }
    let c := s.chip
    nvModes c = true ∧ rd P.calSavePeriod c ≠ 0 ∧ c.rin.saveAt + rd P.calSavePeriod c * 1000000000 ≤ c.clk ∧ tjInWindow c = false) :=
  ⟨by dsimp only; decide +kernel,
  by dsimp only; decide +kernel,
  by dsimp only; decide +kernel,
  by dsimp only; decide +kernel,
  by dsimp only; decide +kernel,
  by dsimp only; decide +kernel⟩

theorem witness_SuppliesAndResetsComplete :
  (
    let s : State := st (powered (fun p => { p with supplies := false }) (chipIn .reset))
    let c := s.chip
    c.pw.supplies = false ∧ c.pw.aonLatch = false) ∧
  (
    let s : State := st (powered (fun p => { p with supplies := false, aonLatch := true }) (chipIn .shutdown))
    let c := s.chip
    c.pw.supplies = false ∧ c.pw.aonLatch = true) ∧
  (
    let s : State := st (mailbox 3 running)
    let c := s.chip
    (c.pw.supplies = true) ∧
    (c.pw.supplies = true ∧ c.md.mode ≠ .reset ∧ c.md.mode ≠ .shutdown)) ∧
  (
    let s : State := st (cabinet (fun n => { n with bias := some biases }) (chipIn .boot))
    let rs : List BiasRec := biases
    let c := s.chip
    c.pw.supplies = true ∧ c.pw.biasLoaded = false ∧ c.pw.suppliesAt + 16000 ≤ c.clk ∧ c.nv.bias = some rs ∧ c.md.mode ≠ .shutdown) :=
  ⟨by dsimp only; decide +kernel,
  by dsimp only; decide +kernel,
  by dsimp only; decide +kernel,
  by dsimp only; decide +kernel⟩

set_option maxRecDepth 100000 in
theorem witness_BootAndClocksComplete :
  (
    let s : State := st (chipIn .reset)
    let src : ClockSource := .refclk
    let c := s.chip
    (c.md.mode = .reset ∧ c.pw.supplies = true ∧ fabricGood c = true ∧ c.pw.suppliesAt + 20000 ≤ c.clk) ∧
    (clockPowered (srcNo src) c = true ∧ monitored src c = false) ∧
    (c.pw.supplies = true)) ∧
  (
    let s : State := st (powered (fun p => { p with goodAt := p.goodAt.set 1 none }) (chipIn .boot))
    let src : ClockSource := .refclk
    let c := s.chip
    (c.md.mode = .boot ∧ c.md.bootStopped = false ∧ fabricGood c = false) ∧
    (clockPowered (srcNo src) c = true ∧ monitored src c = true) ∧
    (c.md.mode ≠ .reset)) ∧
  (
    let s : State := st (chipIn .boot)
    let b : BootInput := bootBad
    let c := s.chip
    let boots : Prop := c.md.mode = .boot ∧ c.md.bootStopped = false ∧ fabricGood c = true
    boots ∧ bootFailure b c ≠ 0) ∧
  (
    let s : State := st (chipIn .boot)
    let b : BootInput := bootGood
    let c := s.chip
    let boots : Prop := c.md.mode = .boot ∧ c.md.bootStopped = false ∧ fabricGood c = true
    boots ∧ bootFailure b c = 0) ∧
  (
    let s : State := st (powered (fun p => { p with forcedZero := true }) running)
    let c := s.chip
    c.pw.forcedZero = true ∧ clocksGood c = true) :=
  ⟨by dsimp only; decide +kernel,
  by dsimp only; decide +kernel,
  by dsimp only; decide +kernel,
  by dsimp only; decide +kernel,
  by dsimp only; decide +kernel⟩

theorem witness_ModeTransitionsComplete :
  (
    let s : State := st (mailbox 0 (chipIn .standby))
    let h : Cmd := cmd
    let cr : Nat := 300
    let rr : Nat := 301
    let c := s.chip
    (taken h 0x40 1 true cr rr c ∧ c.md.trans = none ∧ c.now.moved = false ∧ c.md.mode = .standby ∧ outranked 0x4 s.pending c = false) ∧
    (taken h 0x40 1 true cr rr c ∧ c.md.trans = none ∧ outranked 0x0 s.pending c = false) ∧
    (c.md.mode ≠ .reset ∧ c.now.set = [])) ∧
  (
    let s : State := st (mailbox 0 (chipIn .ready))
    let h : Cmd := cmd
    let cr : Nat := 300
    let rr : Nat := 301
    let gt : BitVec 64 := 2000000
    let c := s.chip
    taken h 0x40 2 true cr rr c ∧ c.md.trans = none ∧ c.now.moved = false ∧ c.md.mode = .ready ∧ runRefused gt.toNat c = false ∧ schedRoom c = true ∧ outranked 0x8 s.pending c = false) ∧
  (
    let s : State := st (moded (fun m => { m with trans := some .hold, fault := true }) running)
    let c := s.chip
    c.md.fault = true ∧ c.md.mode = .run ∧ c.md.transAt ≤ c.clk) ∧
  (
    let s : State := st (moded (fun m => { m with trans := some .configure }) (chipIn .standby))
    let m : Mode := .configure
    let c := s.chip
    c.md.fault = false ∧ waitsAnalog c = some m ∧ m ∈ [Mode.configure, .standby, .bench, .fallback]) ∧
  (
    let s : State := st (moded (fun m => { m with trans := some .run, transGt := 1000000, runGt := 1000000 }) (chipIn .ready))
    let c := s.chip
    c.md.trans = some .run ∧ c.md.transGt = c.tl.gt ∧ vouched c = true ∧ c.md.mode = .ready) ∧
  (
    let s : State := st (moded (fun m => { m with trans := some .ready, transGt := 1000000 }) running)
    let m : Mode := .ready
    let c := s.chip
    modeWaits c = some m ∧ m ∈ [Mode.hold, .ready] ∧ pacerLive c = false ∧ vouched c = true) ∧
  (
    let s : State := st (chipIn .calibrate)
    let c := s.chip
    c.md.mode = .calibrate ∧ calWindow c = false ∧ (c.rin.calTodo = [] ∨ c.md.trans = some .configure)) ∧
  (
    let s : State := st (put [(P.tlSyncTimeout, 1000)] (chipIn .syncing))
    let c := s.chip
    c.md.mode = .syncing ∧ c.tl.syncAt + 1000 * rd P.tlSyncTimeout c ≤ c.clk) ∧
  (
    let s : State := st (chipIn .bench)
    let c := s.chip
    c.md.mode = .bench ∧ c.tl.gt % rd P.sysBenchPeriod c = 0) :=
  ⟨by dsimp only; unfold taken; decide +kernel,
  by dsimp only; unfold taken; decide +kernel,
  by dsimp only; decide +kernel,
  by dsimp only; decide +kernel,
  by dsimp only; decide +kernel,
  by dsimp only; decide +kernel,
  by dsimp only; decide +kernel,
  by dsimp only; decide +kernel,
  by dsimp only; decide +kernel⟩

theorem witness_EventsAreDelivered :
  (
    let s : State := st (evented (fun e => { e with flights := [flight], history := [(9, [1, 999999])] }) running)
    let ch : Fin 128 := 9
    let k : Fin 16 := 5
    let f : Flight := flight
    let c := s.chip
    let past := (Tab.get c.ev.history ch.val []).filter (fun t => c.clk < t + 128)
    let due : Prop := c.ev.flights.filter (fun g => g.ch == ch.val && g.arrive == c.clk) = [f] ∧ matrixRuns c = true
    let alone : Prop := (Tab.find c.ev.arrivals f.cons).all (fun p => p.1 != c.clk) = true
    due ∧ past.length < 64 ∧ alone ∧ f.cons = 0x18 + k.val) ∧
  (
    let s : State := st (evented (fun e => { e with flights := [{ flight with cons := 5 }] }) running)
    let ch : Fin 128 := 9
    let k : Fin 16 := 5
    let f : Flight := { flight with cons := 5 }
    let c := s.chip
    let past := (Tab.get c.ev.history ch.val []).filter (fun t => c.clk < t + 128)
    let due : Prop := c.ev.flights.filter (fun g => g.ch == ch.val && g.arrive == c.clk) = [f] ∧ matrixRuns c = true
    let alone : Prop := (Tab.find c.ev.arrivals f.cons).all (fun p => p.1 != c.clk) = true
    due ∧ past.length < 64 ∧ alone ∧ f.cons = k.val) ∧
  (
    let s : State := st (evented (fun e => { e with flights := [flight], history := [(9, List.replicate 64 999900)] }) running)
    let ch : Fin 128 := 9
    let f : Flight := flight
    let c := s.chip
    let past := (Tab.get c.ev.history ch.val []).filter (fun t => c.clk < t + 128)
    let due : Prop := c.ev.flights.filter (fun g => g.ch == ch.val && g.arrive == c.clk) = [f] ∧ matrixRuns c = true
    due ∧ 64 ≤ past.length) ∧
  (
    let s : State := st { evented (fun e => { e with pulses := [(6, (3, 1000000))] }) running with sqs := { running.sqs with markHigh := [(6, true)] } }
    let pin : Fin 8 := 6
    let a : Nat := 3
    let c := s.chip
    Tab.find c.ev.pulses pin.val = some (a, c.clk) ∧ Tab.get c.sqs.markHigh pin.val false = true ∧ eventsDrive c = true) :=
  ⟨by dsimp only; decide +kernel,
  by dsimp only; decide +kernel,
  by dsimp only; decide +kernel,
  by dsimp only; decide +kernel⟩

theorem witness_TimelineEventsComplete :
  (
    let s : State := st (epoch running)
    let c := s.chip
    c.tl.counting = true ∧ c.pw.forcedZero = false ∧ on P.tlEpochArmed c = true ∧ c.tl.epochAt = none) ∧
  (
    let s : State := st (epoch (time (fun t => { t with epochAt := some 1000000 }) (chipIn .configure)))
    let c := s.chip
    let loads : Prop := c.tl.epochAt = some c.clk ∧ c.pw.forcedZero = false ∧ c.tl.counting = true
    let idle : Prop := c.tl.sched = [] ∧ c.tl.snaps = [] ∧ c.md.trans = none
    (loads ∧ idle ∧ c.md.mode = .configure) ∧
    (loads ∧ c.md.mode = .configure)) ∧
  (
    let s : State := st (epoch (time (fun t => { t with epochAt := some 1000000, align := .waitEpoch }) (chipIn .syncing)))
    let c := s.chip
    let loads : Prop := c.tl.epochAt = some c.clk ∧ c.pw.forcedZero = false ∧ c.tl.counting = true
    loads ∧ c.md.mode = .syncing ∧ c.tl.align = .waitEpoch) ∧
  (
    let s : State := st (time (fun t => { t with beacon := t.beacon.set 2 { BeaconPort.reset with txDue := some 1000000 } }) (link 2 3 running))
    let g : Fin 4 := 2
    let gt : BitVec 64 := 1000000
    let f : BitVec 8 := 77
    let rx : Rx := received
    let b : Beacon := beacon2
    let c := s.chip
    let sound : Prop := g.val < c.tl.beacon.length
    let comes (i : Instr) : Prop := timingHeard rx c = true ∧ hears rx.lg.val i c = true
    (beaconDue g.val c = true ∧ timingMay g.val c = true) ∧
    (comes (.beaconRx rx b gt f) ∧ rx.lg = g ∧ sound ∧ (uplinks c).contains g.val = false)) ∧
  (
    let s : State := st (uplink2 (time (fun t => { t with state := 4 }) (link 2 3 running)))
    let g : Fin 4 := 2
    let gt : BitVec 64 := 1000000
    let f : BitVec 8 := 77
    let rx : Rx := received
    let b : Beacon := beacon2
    let c := s.chip
    let comes (i : Instr) : Prop := timingHeard rx c = true ∧ hears rx.lg.val i c = true
    comes (.beaconRx rx b gt f) ∧ rx.lg = g ∧ (uplinks c).contains g.val = true ∧ uplinkActive c = g.val ∧ c.tl.state = 4 ∧ c.md.mode = .run ∧ b.echoValid = false ∧ b.gtState ≠ 5) ∧
  (
    let s : State := st (time heard2 (link 2 3 running))
    let g : Fin 4 := 2
    let c := s.chip
    let p := portOf g.val c
    let sound : Prop := g.val < c.tl.beacon.length
    beaconMissed g.val c = true ∧ sound ∧ p.missed + 1 ≠ 8) ∧
  (
    let s : State := st (link 2 3 running)
    let gt : BitVec 64 := 2000000
    let rx : Rx := received
    let id : BitVec 16 := 9
    let node : Fin 64 := 7
    let c := s.chip
    let comes (i : Instr) : Prop := timingHeard rx c = true ∧ hears rx.lg.val i c = true
    comes (.snapshotFrameRx rx gt id node) ∧ c.tl.snapSeen.contains (node.val, id.toNat) = false ∧ c.tl.gt < gt.toNat ∧ c.tl.snaps.length < 8 ∧ schedRoom c = true) ∧
  (
    let s : State := st (time (fun t => { t with snaps := [snap1], latches := [latch1] }) running)
    let x : Snap := snap1
    let l : Latch := latch1
    let k : Fin 2 := 1
    let c := s.chip
    let uncopied := c.tl.latches.filter (fun y => !y.missed)
    let due : Prop := c.tl.snaps.filter (fun y => y.gt == c.tl.gt) = [x] ∧ x.issuers = []
    (due ∧ uncopied.length < 8 ∧ c.tl.latches ≠ []) ∧
    (c.tl.latches = [l] ∧ l.bank = k.val)) ∧
  (
    let s : State := st (time (fun t => { t with snaps := [snap1] }) running)
    let x : Snap := snap1
    let c := s.chip
    let due : Prop := c.tl.snaps.filter (fun y => y.gt == c.tl.gt) = [x] ∧ x.issuers = []
    due ∧ c.tl.latches = []) ∧
  (
    let s : State := st (time (fun t => { t with snaps := [snap1], latches := List.replicate 8 latch1 }) running)
    let x : Snap := snap1
    let c := s.chip
    let uncopied := c.tl.latches.filter (fun y => !y.missed)
    let due : Prop := c.tl.snaps.filter (fun y => y.gt == c.tl.gt) = [x] ∧ x.issuers = []
    due ∧ 8 ≤ uncopied.length) :=
  ⟨by dsimp only; decide +kernel,
  by dsimp only; decide +kernel,
  by dsimp only; decide +kernel,
  by dsimp only; decide +kernel,
  by dsimp only; decide +kernel,
  by dsimp only; decide +kernel,
  by dsimp only; decide +kernel,
  by dsimp only; decide +kernel,
  by dsimp only; decide +kernel,
  by dsimp only; decide +kernel⟩

theorem witness_LaneEventsComplete :
  (
    let s : State := st (put [(P.laneLaneState 9, 2)] (link 2 3 running))
    let l : Fin 16 := 9
    let c := s.chip
    let n := rd (P.laneLaneState l.val) c
    (n = laneAligning) ∧
    (laneAligning ≤ n ∧ rd (P.lanePattern l.val) c = 0)) ∧
  (
    let s : State := st (put [(P.laneLaneState 9, 3)] (link 2 3 running))
    let l : Fin 16 := 9
    let c := s.chip
    let n := rd (P.laneLaneState l.val) c
    n = laneAligned) ∧
  (
    let s : State := st (put [(P.lanePattern 9, 2)] (chipIn .bench))
    let l : Fin 16 := 9
    let c := s.chip
    rd (P.lanePattern l.val) c ≠ 0 ∧ c.md.mode = .bench) ∧
  (
    let s : State := st { running with lk := { running.lk with wokenAt := [(9, 5)] } }
    let t : Fin 20 := 9
    let c := s.chip
    (Tab.find c.lk.wokenAt t.val).isSome = true ∧ c.lk.txReady.contains t.val = false) ∧
  (
    let s : State := st (put [(P.ckLaneState 2, 2)] (link 2 3 running))
    let g : Fin 4 := 2
    let c := s.chip
    laneAligning ≤ rd (P.ckLaneState g.val) c) ∧
  (
    let s : State := st (put [(P.ckCkPresent 2, 1)] (link 2 3 running))
    let g : Fin 4 := 2
    let c := s.chip
    on (P.ckCkPresent g.val) c = true ∧ c.md.mode = .run) :=
  ⟨by dsimp only; decide +kernel,
  by dsimp only; decide +kernel,
  by dsimp only; decide +kernel,
  by dsimp only; decide +kernel,
  by dsimp only; decide +kernel,
  by dsimp only; decide +kernel⟩

theorem witness_GroupEventsComplete :
  (
    let s : State := trained
    let g : Fin 4 := 2
    let skew : Nat := 16
    let t : Nat := 900000
    let c := s.chip
    let x := groupOf g.val c
    let p := partner g.val
    let st (k : Nat) := lgState k c
    let comesUp : Prop := x.goodSince = some t ∧ st g = lgTraining ∧ t + 1024 ≤ c.clk ∧ skew ≤ 16 ∧
      groupGood g.val (wr (P.lgSkewMax g.val) skew c) = true
    let beside : Prop := paired g.val c = true ∧ st p ∈ [lgActive, lgSwitching]
    (comesUp ∧ ¬ beside) ∧
    (lgTraining ≤ st g)) ∧
  (
    let s : State := on_ trained (fun c => setGroup 3 { Group.reset with upAt := some 1000000 } (beside2 3 c))
    let g : Fin 4 := 2
    let skew : Nat := 16
    let t : Nat := 900000
    let c := s.chip
    let x := groupOf g.val c
    let p := partner g.val
    let st (k : Nat) := lgState k c
    let comesUp : Prop := x.goodSince = some t ∧ st g = lgTraining ∧ t + 1024 ≤ c.clk ∧ skew ≤ 16 ∧
      groupGood g.val (wr (P.lgSkewMax g.val) skew c) = true
    let beside : Prop := paired g.val c = true ∧ st p ∈ [lgActive, lgSwitching]
    let tie : Prop := g.val < p ∧ st p = lgActive ∧ (groupOf p c).upAt = some c.clk
    comesUp ∧ beside ∧ tie) ∧
  (
    let s : State := on_ trained (fun c => beside2 3 c)
    let g : Fin 4 := 2
    let skew : Nat := 16
    let t : Nat := 900000
    let c := s.chip
    let x := groupOf g.val c
    let p := partner g.val
    let st (k : Nat) := lgState k c
    let comesUp : Prop := x.goodSince = some t ∧ st g = lgTraining ∧ t + 1024 ≤ c.clk ∧ skew ≤ 16 ∧
      groupGood g.val (wr (P.lgSkewMax g.val) skew c) = true
    let beside : Prop := paired g.val c = true ∧ st p ∈ [lgActive, lgSwitching]
    let tie : Prop := g.val < p ∧ st p = lgActive ∧ (groupOf p c).upAt = some c.clk
    (comesUp ∧ beside ∧ ¬ tie) ∧
    (comesUp ∧ beside)) ∧
  (
    let s : State := trained
    let g : Fin 4 := 2
    let skew : Nat := 17
    let c := s.chip
    let st (k : Nat) := lgState k c
    st g = lgTraining ∧ 16 < skew) ∧
  (
    let s : State := st (beside2 4 (link 2 3 running))
    let g : Fin 4 := 2
    let c := s.chip
    let p := partner g.val
    let st (k : Nat) := lgState k c
    let fails : Prop := failCause g.val c = true ∧ st g ∈ [lgActive, lgStandby]
    let takesOver : Prop := st g = lgActive ∧ paired g.val c = true ∧ st p = lgStandby ∧ inGap g.val c = false
    fails ∧ takesOver) ∧
  (
    let s : State := st (link 2 3 running)
    let g : Fin 4 := 2
    let why : FrameBad := .badLen
    let c := s.chip
    let p := partner g.val
    let st (k : Nat) := lgState k c
    let fails : Prop := failCause g.val c = true ∧ st g ∈ [lgActive, lgStandby]
    let takesOver : Prop := st g = lgActive ∧ paired g.val c = true ∧ st p = lgStandby ∧ inGap g.val c = false
    (fails ∧ ¬ takesOver) ∧
    (timingModes c = true ∧ recvUp g.val c = true ∧ hears g.val (.frameDiscard g why) c = true ∧ why ≠ .badCrc ∧ why ≠ .badSubtype)) ∧
  (
    let s : State := st (lanes2 (link 2 6 running))
    let g : Fin 4 := 2
    let c := s.chip
    let x := groupOf g.val c
    let st (k : Nat) := lgState k c
    st g = lgDown ∧ x.downAt + 1024 ≤ c.clk) ∧
  (
    let s : State := st (group2 (fun g => { g with gapAt := some 999800, goodSince := some 999900 }) (lanes2 (link 2 5 running)))
    let g : Fin 4 := 2
    let t : Nat := 999800
    let u : Nat := 999900
    let c := s.chip
    let x := groupOf g.val c
    x.gapAt = some t ∧ t + 64 ≤ c.clk ∧ c.clk ≤ t + 400 ∧ x.goodSince = some u ∧ u + 64 ≤ c.clk) ∧
  (
    let s : State := st (group2 (fun g => { g with gapAt := some 999600 }) (lanes2 (link 2 5 running)))
    let g : Fin 4 := 2
    let t : Nat := 999600
    let healthy : Bool := false
    let c := s.chip
    let x := groupOf g.val c
    x.gapAt = some t ∧ t + 400 ≤ c.clk ∧ (healthy = false ∨ x.goodSince = none)) ∧
  (
    let s : State := st (lanes2 (link 2 3 running))
    let g : Fin 4 := 2
    let why : FrameBad := .badCrc
    let c := s.chip
    timingModes c = true ∧ recvUp g.val c = true ∧ hears g.val (.frameDiscard g why) c = true ∧ why = .badCrc) ∧
  (
    let s : State := st (lanes2 (link 2 3 running))
    let g : Fin 4 := 2
    let why : FrameBad := .badSubtype
    let c := s.chip
    timingModes c = true ∧ recvUp g.val c = true ∧ hears g.val (.frameDiscard g why) c = true ∧ why = .badSubtype) :=
  ⟨by dsimp only; decide +kernel,
  by dsimp only; decide +kernel,
  by dsimp only; decide +kernel,
  by dsimp only; decide +kernel,
  by dsimp only; decide +kernel,
  by dsimp only; decide +kernel,
  by dsimp only; decide +kernel,
  by dsimp only; decide +kernel,
  by dsimp only; decide +kernel,
  by dsimp only; decide +kernel,
  by dsimp only; decide +kernel⟩

theorem witness_ControlFramesAct :
  (
    let s : State := st (put [(P.lnkPair, 2)] (lanes2 (link 3 3 (link 2 4 running))))
    let rx : Rx := received
    let k : Ctl := control 1
    let c := s.chip
    let g := rx.lg.val
    let id := k.node.val
    let fresh (i : Instr) : Prop := timingHeard rx c = true ∧ hears g i c = true ∧ k.originSerial.toNat ≠ ownSerial ∧
      c.lk.seen.contains (k.originSerial.toNat, k.cseq.toNat) = false
    let mine : Prop := k.subjectSerial.toNat = ownSerial
    (fresh (.switchFrame rx k) ∧ lgState g c = lgStandby ∧ paired g c = true ∧ lgState (partner g) c = lgActive ∧ inGap g c = false) ∧
    (fresh (.joinAck rx k) ∧ mine) ∧
    (fresh (.joinNak rx k) ∧ mine) ∧
    (fresh (.leaveFrame rx k) ∧ (on P.lnkNodeValid c = false ∨ rd P.lnkNodeId c ≠ id))) ∧
  (
    let s : State := st (put [(P.lnkNodeAuth, 1)] (link 2 3 running))
    let rx : Rx := received
    let k : Ctl := control 0
    let c := s.chip
    let g := rx.lg.val
    let id := k.node.val
    let fresh (i : Instr) : Prop := timingHeard rx c = true ∧ hears g i c = true ∧ k.originSerial.toNat ≠ ownSerial ∧
      c.lk.seen.contains (k.originSerial.toNat, k.cseq.toNat) = false
    fresh (.joinReq rx k) ∧ isAuthority c = true ∧ (c.lk.holders.find? (fun p => p.2 == k.subjectSerial.toNat)) = none ∧ k.nodeValid = true ∧ Tab.find c.lk.holders id = none) ∧
  (
    let s : State := st (put [(P.lnkNodeValid, 1), (P.lnkNodeId, 7)] (link 2 3 running))
    let rx : Rx := received
    let k : Ctl := control 0
    let c := s.chip
    let g := rx.lg.val
    let id := k.node.val
    let fresh (i : Instr) : Prop := timingHeard rx c = true ∧ hears g i c = true ∧ k.originSerial.toNat ≠ ownSerial ∧
      c.lk.seen.contains (k.originSerial.toNat, k.cseq.toNat) = false
    fresh (.leaveFrame rx k) ∧ on P.lnkNodeValid c = true ∧ rd P.lnkNodeId c = id) ∧
  (
    let s : State := st (mesh3 0 (link 2 3 running))
    let rx : Rx := received
    let k : Ctl := control (0x0300000000000000 + 2000000)
    let t : Fin 8 := 3
    let c := s.chip
    let g := rx.lg.val
    let x := tuOf t.val c
    let gt := nearGt k.arg.toNat c.tl.gt
    let fresh (i : Instr) : Prop := timingHeard rx c = true ∧ hears g i c = true ∧ k.originSerial.toNat ≠ ownSerial ∧
      c.lk.seen.contains (k.originSerial.toNat, k.cseq.toNat) = false
    let unit (i : Instr) : Prop := fresh i ∧ bits k.arg.toNat 56 3 = t.val ∧ tuMesh t.val c = true
    (unit (.trigArm rx k) ∧ bitAt k.arg.toNat 60 = false ∧ c.tl.gt ≤ gt ∧ x.state = 0 ∧ schedRoom c = true) ∧
    (unit (.trigFire rx k) ∧ x.state < 2)) ∧
  (
    let s : State := st (mesh3 2 (link 2 3 running))
    let rx : Rx := received
    let k : Ctl := control (0x0300000000000000 + 255000000)
    let t : Fin 8 := 3
    let c := s.chip
    let g := rx.lg.val
    let x := tuOf t.val c
    let gt := nearGt k.arg.toNat c.tl.gt
    let fresh (i : Instr) : Prop := timingHeard rx c = true ∧ hears g i c = true ∧ k.originSerial.toNat ≠ ownSerial ∧
      c.lk.seen.contains (k.originSerial.toNat, k.cseq.toNat) = false
    let unit (i : Instr) : Prop := fresh i ∧ bits k.arg.toNat 56 3 = t.val ∧ tuMesh t.val c = true
    (unit (.trigArm rx k) ∧ bitAt k.arg.toNat 60 = false ∧ (gt < c.tl.gt ∨ x.state ≠ 0 ∨ schedRoom c = false)) ∧
    (unit (.trigFire rx k) ∧ (x.state = 2 ∧ x.cands = [] ∨ x.state = 3 ∧ x.cands ≠ []))) ∧
  (
    let s : State := st (mesh3 0 (link 2 3 running))
    let rx : Rx := received
    let k : Ctl := control (0x1300000000000000 + 2000000)
    let t : Fin 8 := 3
    let c := s.chip
    let g := rx.lg.val
    let fresh (i : Instr) : Prop := timingHeard rx c = true ∧ hears g i c = true ∧ k.originSerial.toNat ≠ ownSerial ∧
      c.lk.seen.contains (k.originSerial.toNat, k.cseq.toNat) = false
    let unit (i : Instr) : Prop := fresh i ∧ bits k.arg.toNat 56 3 = t.val ∧ tuMesh t.val c = true
    unit (.trigArm rx k) ∧ bitAt k.arg.toNat 60 = true) ∧
  (
    let s : State := st { link 2 3 running with lk := { running.lk with joinFirst := some 900000 } }
    let since : Nat := 900000
    let c := s.chip
    c.lk.joinFirst = some since ∧ on P.lnkNodeValid c = false ∧ since < c.clk ∧ (c.clk - since) % 100000 = 0) :=
  ⟨⟨⟨⟨by decide +kernel, by decide +kernel, control_fresh _, rfl⟩, by decide +kernel, by decide +kernel, by decide +kernel, by decide +kernel⟩,
    ⟨⟨by decide +kernel, by decide +kernel, control_fresh _, rfl⟩, control_mine _⟩,
    ⟨⟨by decide +kernel, by decide +kernel, control_fresh _, rfl⟩, control_mine _⟩,
    ⟨⟨by decide +kernel, by decide +kernel, control_fresh _, rfl⟩, by decide +kernel⟩⟩,
  ⟨⟨by decide +kernel, by decide +kernel, control_fresh _, rfl⟩, by decide +kernel, by decide +kernel, by decide +kernel, by decide +kernel⟩,
  ⟨⟨by decide +kernel, by decide +kernel, control_fresh _, rfl⟩, by decide +kernel, by decide +kernel⟩,
  ⟨⟨⟨⟨by decide +kernel, by decide +kernel, control_fresh _, rfl⟩, by decide +kernel, by decide +kernel⟩, by decide +kernel, by decide +kernel, by decide +kernel, by decide +kernel⟩,
    ⟨⟨⟨by decide +kernel, by decide +kernel, control_fresh _, rfl⟩, by decide +kernel, by decide +kernel⟩, by decide +kernel⟩⟩,
  ⟨⟨⟨⟨by decide +kernel, by decide +kernel, control_fresh _, rfl⟩, by decide +kernel, by decide +kernel⟩, by decide +kernel, by decide +kernel⟩,
    ⟨⟨⟨by decide +kernel, by decide +kernel, control_fresh _, rfl⟩, by decide +kernel, by decide +kernel⟩, by decide +kernel⟩⟩,
  ⟨⟨⟨by decide +kernel, by decide +kernel, control_fresh _, rfl⟩, by decide +kernel, by decide +kernel⟩, by decide +kernel⟩,
  by dsimp only; decide +kernel⟩

theorem witness_FramesAreCarried :
  (
    let s : State := st (group2 (fun g => { g with timing := [timing1] }) (up2 running))
    let g : Fin 4 := 2
    let rx : Rx := received
    let recs : List (BitVec 64) := [5, 6]
    let w : BitVec 64 := 5
    let b : Bulk := bulk1
    let t : Timing := timing1
    let c := s.chip
    let up : Prop := trafficModes c = true ∧ (recvUp g.val c = true ∨ inGap g.val c = true)
    let comes (i : Instr) : Prop := rx.lg = g ∧ up ∧ hears g.val i c = true
    let z := rxOf g.val b.chan.val c
    let whole : Prop := 1 ≤ b.dataLen ∧ b.dataLen ≤ 56 ∧ b.data.length = b.dataLen
    (timingMay g.val c = true ∧ beaconDue g.val c = false ∧ nextTiming g.val c = some t) ∧
    (comes (.outcomeFrameRx rx recs) ∧ 1 ≤ recs.length ∧ recs.length ≤ 8) ∧
    (comes (.outcomeFrameRx rx [w]) ∧ lgState g.val c ≠ lgStandby ∧ anyGap c = false) ∧
    (comes (.bulkFrameRx rx b) ∧ whole ∧ b.bseq.toNat ≠ z.next)) ∧
  (
    let s : State := st (up2 { running with oc := { running.oc with queues := [(2, [1, 2, 3, 4, 5, 6, 7, 8, 9])] } })
    let g : Fin 4 := 2
    let c := s.chip
    let y := groupOf g.val c
    let q := outQueue g.val c
    outcomeMay g.val c = true ∧ y.mirror = [] ∧ sendMember g.val c = g.val ∧ outcomeStart g.val c = true ∧ q ≠ []) ∧
  (
    let s : State := st (group2 (fun g => { g with mirror := [[1, 2]] }) (up2 running))
    let g : Fin 4 := 2
    let out : List Nat := [1, 2]
    let rest : List (List Nat) := []
    let c := s.chip
    let y := groupOf g.val c
    outcomeMay g.val c = true ∧ y.mirror = out :: rest) ∧
  (
    let s : State := st (group2 (fun g => { g with rx := [(6, { BulkRx.reset with ackDue := true, next := 3 })] }) (up2 running))
    let g : Fin 4 := 2
    let rx : Rx := received
    let ch : Fin 64 := 6
    let b : Bulk := bulk1
    let c := s.chip
    let y := groupOf g.val c
    let q := outQueue g.val c
    let up : Prop := trafficModes c = true ∧ (recvUp g.val c = true ∨ inGap g.val c = true)
    let comes (i : Instr) : Prop := rx.lg = g ∧ up ∧ hears g.val i c = true
    let idle : Prop := trafficModes c = true ∧ sendMember g.val c = g.val ∧ txUp g.val c = true ∧ c.tl.gt % 8 = 0 ∧
      lineFree g.val c = true ∧ y.period ≠ some (c.tl.gt / 8) ∧ q = [] ∧ y.mirror = [] ∧ nextTiming g.val c = none ∧
      beaconDue g.val c = false
    let z := rxOf g.val b.chan.val c
    let whole : Prop := 1 ≤ b.dataLen ∧ b.dataLen ≤ 56 ∧ b.data.length = b.dataLen
    (idle ∧ nextAck g.val c = some ch.val) ∧
    (comes (.bulkFrameRx rx b) ∧ whole ∧ b.bseq.toNat = z.next ∧ rxRoom g.val b.chan.val c = false)) ∧
  (
    let s : State := st (group2 (fun g => { g with tx := [(6, { BulkTx.reset with resend := [bulk2], unacked := [bulk2] })] }) (up2 running))
    let g : Fin 4 := 2
    let rx : Rx := received
    let ch : Fin 64 := 6
    let next : BitVec 16 := 0
    let f : BulkFrame := bulk2
    let fs : List BulkFrame := []
    let c := s.chip
    let y := groupOf g.val c
    let q := outQueue g.val c
    let up : Prop := trafficModes c = true ∧ (recvUp g.val c = true ∨ inGap g.val c = true)
    let comes (i : Instr) : Prop := rx.lg = g ∧ up ∧ hears g.val i c = true
    let idle : Prop := trafficModes c = true ∧ sendMember g.val c = g.val ∧ txUp g.val c = true ∧ c.tl.gt % 8 = 0 ∧
      lineFree g.val c = true ∧ y.period ≠ some (c.tl.gt / 8) ∧ q = [] ∧ y.mirror = [] ∧ nextTiming g.val c = none ∧
      beaconDue g.val c = false
    let quiet : Prop := nextAck g.val c = none ∧ paused c = false
    let x := txOf g.val ch.val c
    let others (p : BulkTx → Prop) : Prop := ∀ j : Fin 64, j ≠ ch → p (txOf g.val j.val c)
    let done (f : BulkFrame) : Bool := let d := (next.toNat + 2 ^ 16 - f.bseq) % 2 ^ 16; decide (1 ≤ d ∧ d ≤ 2 ^ 15)
    (idle ∧ quiet ∧ others (fun x => x.resend = []) ∧ x.resend = f :: fs) ∧
    (comes (.bulkAck rx ch next) ∧ x.unacked.any done = true) ∧
    (x.unacked ≠ [] ∧ x.since + 4096 ≤ c.clk)) ∧
  (
    let s : State := st (group2 (fun g => { g with tx := [(6, { BulkTx.reset with waiting := [bulk2] })] }) (up2 running))
    let g : Fin 4 := 2
    let ch : Fin 64 := 6
    let f : BulkFrame := bulk2
    let fs : List BulkFrame := []
    let c := s.chip
    let y := groupOf g.val c
    let q := outQueue g.val c
    let idle : Prop := trafficModes c = true ∧ sendMember g.val c = g.val ∧ txUp g.val c = true ∧ c.tl.gt % 8 = 0 ∧
      lineFree g.val c = true ∧ y.period ≠ some (c.tl.gt / 8) ∧ q = [] ∧ y.mirror = [] ∧ nextTiming g.val c = none ∧
      beaconDue g.val c = false
    let quiet : Prop := nextAck g.val c = none ∧ paused c = false
    let x := txOf g.val ch.val c
    let others (p : BulkTx → Prop) : Prop := ∀ j : Fin 64, j ≠ ch → p (txOf g.val j.val c)
    idle ∧ quiet ∧ others (fun x => x.resend = [] ∧ x.waiting = []) ∧ x.resend = [] ∧ x.waiting = f :: fs ∧ unackedOf g.val c < 64) ∧
  (
    let s : State := st (put [(P.rxRxRing 2 6, 500), (P.rxRxEn 2 6, 1)] (setRing 500 { Ring.reset with ty := 6, run := true, log2 := 5, base := 8192 } (group2 (fun g => { g with rx := [(6, { BulkRx.reset with next := 3 })] }) (up2 running))))
    let g : Fin 4 := 2
    let rx : Rx := received
    let b : Bulk := bulk1
    let c := s.chip
    let up : Prop := trafficModes c = true ∧ (recvUp g.val c = true ∨ inGap g.val c = true)
    let comes (i : Instr) : Prop := rx.lg = g ∧ up ∧ hears g.val i c = true
    let z := rxOf g.val b.chan.val c
    let whole : Prop := 1 ≤ b.dataLen ∧ b.dataLen ≤ 56 ∧ b.data.length = b.dataLen
    comes (.bulkFrameRx rx b) ∧ whole ∧ b.bseq.toNat = z.next ∧ rxRoom g.val b.chan.val c = true) :=
  ⟨by dsimp only; decide +kernel,
  by dsimp only; decide +kernel,
  by dsimp only; decide +kernel,
  by dsimp only; decide +kernel,
  by dsimp only; decide +kernel,
  by dsimp only; decide +kernel,
  by dsimp only; decide +kernel⟩

theorem witness_DescriptorsComplete :
  (
    let s : State := st (chan9 Chan.reset running)
    let ch : Fin 64 := 9
    let c := s.chip
    let k := chanOf ch.val c
    let sr := ringOf (rd (P.dchSubRing ch.val) c) c
    dmaModes c = true ∧ on (P.dchChAssigned ch.val) c = true ∧ on (P.dchChHalted ch.val) c = false ∧ sr.ty = 3 ∧ sr.run = true ∧ 1 ≤ ringUsed sr ∧ inFlight k < 64) ∧
  (
    let s : State := st (chan9 { Chan.reset with fetched := [outward] } running)
    let ch : Fin 64 := 9
    let q : Desc := outward
    let c := s.chip
    let k := chanOf ch.val c
    k.fetched = [q] ∧ k.aborting = false ∧ mayStart ch.val q c = true ∧ badDesc ch.val q = false ∧ descSrcSp q = 1 ∧ descDstSp q ≠ 2 ∧ descAtomic q = false) ∧
  (
    let s : State := st (chan9 { Chan.reset with fetched := [inward] } running)
    let ch : Fin 64 := 9
    let q : Desc := inward
    let c := s.chip
    let k := chanOf ch.val c
    k.fetched = [q] ∧ k.aborting = false ∧ mayStart ch.val q c = true ∧ badDesc ch.val q = false ∧ descSrcSp q = 0 ∧ descDstSp q ≠ 2 ∧ descLen q ≠ 0) ∧
  (
    let s : State := st (chan9 { Chan.reset with fetched := [{ outward with w5 := 1 }] } running)
    let ch : Fin 64 := 9
    let q : Desc := { outward with w5 := 1 }
    let c := s.chip
    let k := chanOf ch.val c
    k.fetched = [q] ∧ k.aborting = false ∧ mayStart ch.val q c = true ∧ badDesc ch.val q = true) ∧
  (
    let s : State := st (chan9 { Chan.reset with work := some { Work.start outward with moved := 1000 } } running)
    let ch : Fin 64 := 9
    let w : Work := { Work.start outward with moved := 1000 }
    let c := s.chip
    let k := chanOf ch.val c
    dmaModes c = true ∧ k.work = some w ∧ k.held = none ∧ completesWith w c = some Dm.ok) ∧
  (
    let s : State := st (put [(P.dchStopOnErr 9, 1)] (chan9 { Chan.reset with work := some { Work.start outward with moved := 1000, status := some 7 } } running))
    let ch : Fin 64 := 9
    let w : Work := { Work.start outward with moved := 1000, status := some 7 }
    let e : Nat := 7
    let c := s.chip
    let k := chanOf ch.val c
    dmaModes c = true ∧ k.work = some w ∧ completesWith w c = some e ∧ e ≠ Dm.ok ∧ e < 256) ∧
  (
    let s : State := st (chan9 { Chan.reset with held := some held1 } running)
    let ch : Fin 64 := 9
    let h : Held := held1
    let c := s.chip
    let k := chanOf ch.val c
    dmaModes c = true ∧ k.held = some h ∧ complRoom ch.val c = true) :=
  ⟨by dsimp only; decide +kernel,
  by dsimp only; decide +kernel,
  by dsimp only; decide +kernel,
  by dsimp only; decide +kernel,
  by dsimp only; decide +kernel,
  by dsimp only; decide +kernel,
  by dsimp only; decide +kernel⟩

theorem witness_BurstsMoveBytes :
  (
    let s : State := st (chan9 { Chan.reset with work := some (Work.start outward) } (lay 0x100 [5, 6] running))
    let ch : Fin 64 := 9
    let w : Work := Work.start outward
    let cls : Nat := 0
    let cr : List Nat := [1, 2, 4, 8]
    let p : Requester := .streamWriter
    let q : Requester := .dmaWrite
    let t : BitVec 64 := 5
    let u : BitVec 64 := 900000
    let c := s.chip
    let k := chanOf ch.val c
    let n := burstSize w
    let src := descSrc w.desc + w.moved
    let bursts : Prop := dmaModes c = true ∧ portFree c = true ∧ streamWins c = false ∧ nextBurst c = some (cls, ch.val, cr) ∧ k.work = some w
    let score (r : Requester) (t : BitVec 64) : Nat := c.clk - t.toNat + rd (P.arbArbBias (reqNo r)) c
    let stamped : Prop := p ≠ q ∧ t.toNat ≤ c.clk ∧ u.toNat ≤ c.clk
    (bursts ∧ descSrcSp w.desc = 1 ∧ descDstSp w.desc = 0 ∧ w.gathered = false ∧ readRefused src n = none) ∧
    (stamped ∧ (score q u < score p t ∨ (score q u = score p t ∧ reqNo p < reqNo q)) ∧ c.dma.owner = none)) ∧
  (
    let s : State := st (chan9 { Chan.reset with work := some (Work.start hiddenDesc) } running)
    let ch : Fin 64 := 9
    let w : Work := Work.start hiddenDesc
    let cls : Nat := 0
    let cr : List Nat := [1, 2, 4, 8]
    let c := s.chip
    let k := chanOf ch.val c
    let bursts : Prop := dmaModes c = true ∧ portFree c = true ∧ streamWins c = false ∧ nextBurst c = some (cls, ch.val, cr) ∧ k.work = some w
    bursts ∧ readsZero w.desc = true ∧ descDstSp w.desc = 0) ∧
  (
    let s : State := st (chan9 { Chan.reset with work := some { Work.start inward with asked := 16, arrived := List.replicate 16 7 } } running)
    let ch : Fin 64 := 9
    let w : Work := { Work.start inward with asked := 16, arrived := List.replicate 16 7 }
    let cls : Nat := 0
    let cr : List Nat := [1, 2, 4, 8]
    let c := s.chip
    let k := chanOf ch.val c
    let n := burstSize w
    let dst := descDst w.desc + w.moved
    let bursts : Prop := dmaModes c = true ∧ portFree c = true ∧ streamWins c = false ∧ nextBurst c = some (cls, ch.val, cr) ∧ k.work = some w
    let ends := c.clk + (n + 63) / 64
    let begun : Chip := { c with dma := { c.dma with credit := cr.set cls (cr.getD cls 0 - 1), last := c.dma.last.set cls ch.val,
                                                     burstAt := some ends, ask := some ends } }
    let toShelves : Prop := descSrcSp w.desc = 0 ∧ descDstSp w.desc = 1 ∧ regionOf dst = some .shelves
    let bytes := w.arrived.take n
    let awaits : Prop := dmaModes c = true ∧ k.work = some w ∧ w.status = none ∧ w.barrierAsked = false ∧ descSrcSp w.desc = 0
    (bursts ∧ toShelves ∧ inActiveShelf dst bytes.length begun = false) ∧
    (awaits ∧ w.asked = descLen w.desc) ∧
    (dmaModes c = true ∧ k.work = some w ∧ w.status = none ∧ (w.barrierAsked = true ∨ descSrcSp w.desc = 0))) ∧
  (
    let s : State := st (put [(P.shelfLength 0, 128), (P.shelfState 0, 3)] (chan9 { Chan.reset with work := some { Work.start inward with asked := 16, arrived := List.replicate 16 7 } } running))
    let ch : Fin 64 := 9
    let w : Work := { Work.start inward with asked := 16, arrived := List.replicate 16 7 }
    let cls : Nat := 0
    let cr : List Nat := [1, 2, 4, 8]
    let c := s.chip
    let k := chanOf ch.val c
    let n := burstSize w
    let dst := descDst w.desc + w.moved
    let bursts : Prop := dmaModes c = true ∧ portFree c = true ∧ streamWins c = false ∧ nextBurst c = some (cls, ch.val, cr) ∧ k.work = some w
    let ends := c.clk + (n + 63) / 64
    let begun : Chip := { c with dma := { c.dma with credit := cr.set cls (cr.getD cls 0 - 1), last := c.dma.last.set cls ch.val,
                                                     burstAt := some ends, ask := some ends } }
    let toShelves : Prop := descSrcSp w.desc = 0 ∧ descDstSp w.desc = 1 ∧ regionOf dst = some .shelves
    let bytes := w.arrived.take n
    bursts ∧ toShelves ∧ inActiveShelf dst bytes.length begun = true) ∧
  (
    let s : State := st (chan9 { Chan.reset with work := some { Work.start farDesc with asked := 16 } } running)
    let ch : Fin 64 := 9
    let w : Work := { Work.start farDesc with asked := 16 }
    let bs : List (BitVec 8) := List.replicate 16 9
    let c := s.chip
    let k := chanOf ch.val c
    let due := w.asked - w.moved - w.arrived.length
    let awaits : Prop := dmaModes c = true ∧ k.work = some w ∧ w.status = none ∧ w.barrierAsked = false ∧ descSrcSp w.desc = 0
    awaits ∧ w.asked < descLen w.desc ∧ due ≤ bs.length) ∧
  (
    let s : State := st (id { running with dma := { running.dma with owner := some (reqNo .dmaWrite), stamps := [(reqNo .dmaWrite, 900000)] } })
    let p : Requester := .streamWriter
    let q : Requester := .dmaWrite
    let t : BitVec 64 := 5
    let u : BitVec 64 := 900000
    let c := s.chip
    let stamped : Prop := p ≠ q ∧ t.toNat ≤ c.clk ∧ u.toNat ≤ c.clk
    stamped ∧ c.dma.owner = some (reqNo q) ∧ Tab.find c.dma.stamps (reqNo q) = some u.toNat) :=
  ⟨by dsimp only; decide +kernel,
  by dsimp only; decide +kernel,
  by dsimp only; decide +kernel,
  by dsimp only; decide +kernel,
  by dsimp only; decide +kernel,
  by dsimp only; decide +kernel⟩

theorem witness_HostAccessesComplete :
  (
    let s : State := at500 ring2
    let fn : Fin 64 := 2
    let r : Fin 16384 := 500
    let v : BitVec 32 := 0x80000005
    let off : BitVec 21 := 0
    let size : Nat := 4
    let speed : BitVec 3 := 3
    let width : BitVec 3 := 4
    let c := s.chip
    let x := ringOf r.val c
    let i := v.toNat % 2 ^ 17
    let m := 2 ^ (x.log2 + 1)
    let live : Prop := inModes [.reset, .boot, .shutdown] c = false
    (live ∧ reaches fn.val r.val c = true ∧ x.ty ≠ 0 ∧ x.run = true ∧ i < m ∧ (if hostProduces x then (i + m - x.pidx) % m ≤ 2 ^ x.log2 - ringUsed x else (i + m - x.cidx) % m ≤ ringUsed x)) ∧
    (live ∧ reaches fn.val r.val c = true ∧ x.base % 64 = 0 ∧ 6 ≤ x.log2 ∧ x.log2 ≤ 16 ∧ x.vector < tableSize x.fn) ∧
    (live ∧ reaches fn.val r.val c = true) ∧
    (c.md.mode ≠ .reset ∧ c.now.set = []) ∧
    (goodAccess off.toNat size = true) ∧
    (live ∧ (ringOf (2 * fn.val) c).ty = 0 ∧ (ringOf (2 * fn.val + 1) c).ty = 0) ∧
    (1 ≤ speed.toNat ∧ speed.toNat ≤ 5 ∧ mayTrain c = true ∧ (width = 1 ∨ width = 2 ∨ width = 4))) ∧
  (
    let s : State := at500 { ring2 with run := false }
    let fn : Fin 64 := 2
    let r : Fin 16384 := 500
    let off : BitVec 21 := 0x107D00
    let c := s.chip
    let x := ringOf r.val c
    let live : Prop := inModes [.reset, .boot, .shutdown] c = false
    live ∧ reaches fn.val r.val c = true ∧ x.run = false ∧ off.toNat = 0x100000 + 64 * r.val) ∧
  (
    let s : State := at500 ring2
    let fn : Fin 64 := 2
    let off : BitVec 21 := 92
    let k : Fin 16 := 5
    let c := s.chip
    off.toNat = 16 * k.val + 12 ∧ c.hostPba.contains (fn.val, k.val) = false) ∧
  (
    let s : State := st (put [(⟨bar 0x10004, 3, 1, 0⟩, 1)] running)
    let off : BitVec 21 := 3
    let size : Nat := 4
    let c := s.chip
    c.md.mode ≠ .reset ∧ goodAccess off.toNat size = false) ∧
  (
    let s : State := st (setMsix 2 0 { Msix.reset with masked := false } (at500 { ring2 with ty := 2, armed := true, firstAt := some 5, coalTime := 3 }).chip)
    let r : Fin 16384 := 500
    let t : Nat := 5
    let c := s.chip
    let x := ringOf r.val c
    let live : Prop := inModes [.reset, .boot, .shutdown] c = false
    live ∧ x.firstAt = some t ∧ x.ty ≠ 0 ∧ hostProduces x = false ∧ x.run = true ∧ x.armed = true ∧ x.coalTime ≠ 0 ∧ t + 1000 * x.coalTime ≤ c.clk ∧ (msixOf x.fn x.vector c).masked = false) :=
  ⟨by dsimp only; decide +kernel,
  by dsimp only; decide +kernel,
  by dsimp only; decide +kernel,
  by dsimp only; decide +kernel,
  by dsimp only; decide +kernel⟩

theorem witness_SessionsHoldResources :
  (
    let s : State := st (bootRings running)
    let h : Cmd := bcmd
    let cr : Nat := 4
    let rr : Nat := 5
    let f : Fin 64 := 2
    let c := s.chip
    let roomy : Prop := 2 ≤ (freeRings c).length
    (taken h 0x01 1 false cr rr c ∧ h.mb = .boot f ∧ (∃ k : Fin 1024, Tab.find c.mb.sessions k.val = none) ∧ roomy) ∧
    (taken h 0x03 1 false cr rr c)) ∧
  (
    let s : State := asked running
    let h : Cmd := cmd
    let cr : Nat := 300
    let rr : Nat := 301
    let n : Fin 1024 := 3
    let ty : BitVec 3 := 5
    let c := s.chip
    let roomy : Prop := 2 ≤ (freeRings c).length
    (taken h 0x02 1 false cr rr c ∧ h.mb = .ses n) ∧
    (taken h 0x10 1 false cr rr c ∧ h.mb = .ses n ∧ (ty = 4 ∨ ty = 5 ∨ ty = 6) ∧ freeRings c ≠ []) ∧
    (taken h 0x12 1 false cr rr c ∧ h.mb = .ses n ∧ (∃ k : Fin 64, on (P.dchChAssigned k.val) c = false) ∧ roomy)) ∧
  (
    let s : State := asked (setRing 400 { Ring.reset with ty := 4, ses := 3 } running)
    let h : Cmd := cmd
    let cr : Nat := 300
    let rr : Nat := 301
    let n : Fin 1024 := 3
    let ring : BitVec 14 := 400
    let c := s.chip
    taken h 0x11 1 false cr rr c ∧ h.mb = .ses n ∧ holdsRing n.val ring.toNat c = true ∧ ringBusy n.val ring.toNat c = false) ∧
  (
    let s : State := asked (put [(P.dchChAssigned 9, 1)] (setChan 9 { Chan.reset with ses := 3 } running))
    let h : Cmd := cmd
    let cr : Nat := 300
    let rr : Nat := 301
    let n : Fin 1024 := 3
    let ch : BitVec 6 := 9
    let c := s.chip
    taken h 0x13 1 false cr rr c ∧ h.mb = .ses n ∧ on (P.dchChAssigned ch.toNat) c = true ∧ (chanOf ch.toNat c).ses = n.val ∧ inFlight (chanOf ch.toNat c) = 0) :=
  ⟨by dsimp only; unfold taken; decide +kernel,
  by dsimp only; unfold taken; decide +kernel,
  by dsimp only; unfold taken; decide +kernel,
  by dsimp only; unfold taken; decide +kernel⟩

theorem witness_ParametersAndDrawersAnswer :
  (
    let s : State := asked running
    let h : Cmd := cmd
    let cr : Nat := 300
    let rr : Nat := 301
    let n : Fin 1024 := 3
    let id : BitVec 32 := BitVec.ofNat 32 (P.flxFlxOffset 8).id
    let v : BitVec 64 := 9
    let gt : BitVec 64 := 2000000
    let dr : BitVec 16 := 6
    let t : Fin 8 := 5
    let c := s.chip
    let f := P.tuValue t.val
    (taken h 0x20 1 false cr rr c ∧ (fieldsOf id.toNat).isEmpty = false ∧ peekNeeded id.toNat (consumed h c) = none) ∧
    (taken h 0x21 1 true cr rr c ∧ passes h f.id v.toNat (2 ^ 64 - 1) c) ∧
    (taken h 0x22 1 true cr rr c ∧ passes h f.id v.toNat (2 ^ 64 - 1) c) ∧
    (taken h 0x30 1 false cr rr c ∧ h.mb = .ses n ∧ dr ≠ 0 ∧ dr ≠ 0xFFFF ∧ Tab.find c.mb.drawers dr.toNat = none ∧ c.mb.drawers.length < 64) ∧
    (taken h 0x33 2 true cr rr c ∧ (groupOfId id.toNat).isSome = true) ∧
    (taken h 0x41 2 false cr rr c ∧ c.tl.gt + 1000 ≤ gt.toNat ∧ c.tl.snaps = [] ∧ schedRoom c = true)) ∧
  (
    let s : State := asked (drawer6 running)
    let h : Cmd := cmd
    let cr : Nat := 300
    let rr : Nat := 301
    let n : Fin 1024 := 3
    let id : BitVec 32 := BitVec.ofNat 32 (P.flxFlxOffset 8).id
    let gt : BitVec 64 := 2000000
    let w : BitVec 16 := 77
    let dr : BitVec 16 := 6
    let x : Drawer := drawer3
    let k : Fin 24 := 8
    let c := s.chip
    let owns : Prop := h.mb = .ses n ∧ Tab.find c.mb.drawers dr.toNat = some x ∧ x.owner = n.val
    let o := P.flxFlxOffset k.val
    let full : Nat := 2 ^ 16 - 1
    (taken h 0x20 1 false cr rr c ∧ owns ∧ dr ≠ 0 ∧ (fieldsOf id.toNat).isEmpty = false ∧ x.entries.find? (fun e => e.id == id.toNat) = none) ∧
    (taken h 0x21 1 true cr rr c ∧ owns ∧ dr ≠ 0xFFFF ∧ passes h o.id w.toNat full c ∧ x.entries = []) ∧
    (taken h 0x31 1 false cr rr c ∧ owns) ∧
    (taken h 0x32 2 true cr rr c ∧ owns ∧ schedTests gt.toNat 1000 c = none)) ∧
  (
    let s : State := asked (adapt (P.flxFlxOffset 8).id running)
    let h : Cmd := cmd
    let cr : Nat := 300
    let rr : Nat := 301
    let id : BitVec 32 := BitVec.ofNat 32 (P.flxFlxOffset 8).id
    let c := s.chip
    taken h 0x33 2 true cr rr c ∧ (groupOfId id.toNat).isSome = true ∧ inAdapt id.toNat c = true ∧ schedRoom c = true) :=
  ⟨⟨⟨by unfold taken; decide +kernel, by decide +kernel, by decide +kernel⟩,
    ⟨by unfold taken; decide +kernel, passes_of (by decide +kernel)⟩,
    ⟨by unfold taken; decide +kernel, passes_of (by decide +kernel)⟩,
    ⟨by unfold taken; decide +kernel, by decide +kernel, by decide +kernel, by decide +kernel, by decide +kernel, by decide +kernel⟩,
    ⟨by unfold taken; decide +kernel, by decide +kernel⟩,
    ⟨by unfold taken; decide +kernel, by decide +kernel, by decide +kernel, by decide +kernel⟩⟩,
  ⟨⟨by unfold taken; decide +kernel, by decide +kernel, by decide +kernel, by decide +kernel, by decide +kernel⟩,
    ⟨by unfold taken; decide +kernel, by decide +kernel, by decide +kernel, passes_of (by decide +kernel), by decide +kernel⟩,
    ⟨by unfold taken; decide +kernel, by decide +kernel⟩,
    ⟨by unfold taken; decide +kernel, by decide +kernel, by decide +kernel⟩⟩,
  by dsimp only; unfold taken; decide +kernel⟩

theorem witness_SavesAndProofsComplete :
  (
    let s : State := asked (put [(P.sysAuditTotal, 1000)] (cool .bench))
    let h : Cmd := cmd
    let cr : Nat := 300
    let rr : Nat := 301
    let o : Fin 32 := 4
    let v : BitVec 64 := 0x1234
    let b : BoardRec := board
    let len : BitVec 64 := 3200
    let e : Fin 24 := 5
    let ack : BitVec 48 := 99
    let slots : BitVec 4 := 2
    let c := s.chip
    let recs := imageRecs (consumed h c)
    let empty : Prop := c.nv.queue = []
    let p := P.biaPuCode o.val
    (taken h 0x50 1 true cr rr c ∧ c.md.mode ≠ .fallback ∧ recs.length ≤ 65535 ∧ tjInWindow c = true ∧ c.mb.cfgSaveAt = none ∧ empty) ∧
    (taken h 0x60 1 false cr rr c ∧ 3200 ≤ len.toNat) ∧
    (taken h 0x60 1 false cr rr c ∧ 1536 ≤ len.toNat) ∧
    (taken h 0x21 1 true cr rr c ∧ passes h P.sysAuditAck.id ack.toNat (2 ^ 48 - 1) c) ∧
    (taken h 0x21 1 true cr rr c ∧ passes h p.id v.toNat (2 ^ 18 - 1) c ∧ c.nv.biasPend = none ∧ rd p c < 2 ^ 18) ∧
    (taken h 0x21 1 true cr rr c ∧ passes h P.calCalSave.id 1 1 c ∧ empty) ∧
    (taken h 0x21 1 true cr rr c ∧ passes h (P.dxeSeedSave e.val).id 1 1 c ∧ empty) ∧
    (taken h 0x21 1 true cr rr c ∧ passes h P.secBoardWrite.id 1 1 c ∧ b.linkOk = true ∧ b.fluxOk = true ∧ empty) ∧
    (taken h 0x21 1 true cr rr c ∧ passes h P.secSvnAdvance.id 1 1 c) ∧
    (taken h 0x21 1 true cr rr c ∧ passes h P.secKeyRevoke.id (slots.toNat * 16) 0xF0 c)) ∧
  (
    let s : State := asked (cool .standby)
    let h : Cmd := cmd
    let cr : Nat := 300
    let rr : Nat := 301
    let img : CfgImage := image
    let c := s.chip
    taken h 0x51 1 true cr rr c ∧ (c.md.mode = .fallback ∨ c.md.mode = .standby) ∧ img.headerOk = true ∧ img.lengthOk = true ∧ img.checkOk = true ∧ (applyImage img.recs (consumed h c)).isSome = true) ∧
  (
    let s : State := asked { cool .standby with clk := 2 ^ 46 }
    let c := s.chip
    inModes [.reset, .boot, .shutdown] c = false ∧ c.mb.auditAt + 2 ^ 46 ≤ c.clk) :=
  ⟨⟨⟨by unfold taken; decide +kernel, by decide +kernel, by decide +kernel, by decide +kernel, by decide +kernel, by decide +kernel⟩,
    ⟨by unfold taken; decide +kernel, by decide +kernel⟩,
    ⟨by unfold taken; decide +kernel, by decide +kernel⟩,
    ⟨by unfold taken; decide +kernel, passes_of (by decide +kernel)⟩,
    ⟨by unfold taken; decide +kernel, passes_of (by decide +kernel), by decide +kernel, by decide +kernel⟩,
    ⟨by unfold taken; decide +kernel, passes_of (by decide +kernel), by decide +kernel⟩,
    ⟨by unfold taken; decide +kernel, passes_of (by decide +kernel), by decide +kernel⟩,
    ⟨by unfold taken; decide +kernel, passes_of (by decide +kernel), by decide +kernel, by decide +kernel, by decide +kernel⟩,
    ⟨by unfold taken; decide +kernel, passes_of (by decide +kernel)⟩,
    ⟨by unfold taken; decide +kernel, passes_of (by decide +kernel)⟩⟩,
  by dsimp only; unfold taken; decide +kernel,
  by dsimp only; decide +kernel⟩

theorem witness_ActingWritesComplete :
  (
    let s : State := asked (streamy (cool .configure))
    let h : Cmd := cmd
    let cr : Nat := 300
    let rr : Nat := 301
    let r : Fin 12 := 4
    let e : Fin 24 := 5
    let u : Fin 8 := 6
    let k : Fin 16 := 2
    let ch : Fin 128 := 8
    let pin : Fin 8 := 2
    let gt : BitVec 64 := 2000000
    let v : BitVec 64 := 5
    let b : Bool := true
    let c := s.chip
    let once : Prop := taken h 0x21 1 true cr rr c ∧ c.md.mode ≠ .hold
    let full : Nat := 2 ^ 64 - 1
    (once ∧ passes h P.tlEpochArm.id 1 1 c) ∧
    (once ∧ passes h (P.rinCalSwitchAt r.val).id 0 full c) ∧
    (taken h 0x21 2 true cr rr c ∧ c.md.mode ≠ .hold ∧ gt ≠ 0 ∧ passes h (P.rinCalSwitchAt r.val).id gt.toNat full c) ∧
    (once ∧ passes h (P.dxeDxeRun e.val).id 1 1 c ∧ on (P.dxeDxeRun e.val) c = false) ∧
    (once ∧ passes h (P.dxeDxeMsg e.val).id v.toNat full c) ∧
    (taken h 0x21 2 true cr rr c ∧ tuMesh u.val c = false ∧ passes h (P.tuArmAt u.val).id gt.toNat full c) ∧
    (once ∧ tuMesh u.val c = false ∧ passes h (P.tuDisarm u.val).id 1 1 c) ∧
    (once ∧ passes h (P.stStreamEn k.val).id 1 1 c ∧ on (P.stStreamEn k.val) c = false) ∧
    (once ∧ passes h (P.stStreamEn k.val).id 0 1 c) ∧
    (once ∧ passes h (P.ecLock ch.val).id 2 2 c) ∧
    (once ∧ passes h (P.ciMarkSrc (0x10 + pin.val)).id (2 ^ 24 * b2n b) (2 ^ 24) c)) ∧
  (
    let s : State := asked (cool .run)
    let h : Cmd := cmd
    let cr : Nat := 300
    let rr : Nat := 301
    let t : Target := .flx 3
    let shelf : Fin 8192 := 9
    let c := s.chip
    let once : Prop := taken h 0x21 1 true cr rr c ∧ c.md.mode ≠ .hold
    (once ∧ passes h (jumpId t) shelf.val (2 ^ 13 - 1) c) ∧
    (once ∧ passes h (jumpId t) (2 ^ 13) (2 ^ 13) c)) ∧
  (
    let s : State := asked (wired (cool .run))
    let h : Cmd := cmd
    let cr : Nat := 300
    let rr : Nat := 301
    let ch : Fin 128 := 8
    let j : Fin 16 := 3
    let mask : BitVec 16 := 8
    let c := s.chip
    let once : Prop := taken h 0x21 1 true cr rr c ∧ c.md.mode ≠ .hold
    once ∧ passes h P.evmSwFire.id mask.toNat (2 ^ 16 - 1) c ∧ bitAt mask.toNat j.val = true ∧ c.ev.flights = [] ∧ c.ev.old = [] ∧ on (P.ecChEn ch.val) c = true ∧ rd (P.ecChEn ch.val) c < 2 ∧ rd (P.ecCons ch.val) c ≠ 0x7F ∧ bitAt (rd (P.ecEnRow ch.val 3) c) (0x30 + j.val) = true ∧ bitAt c.now.gates (rd (P.ecGateSel ch.val) c) ≠ (rd (P.ecGateInv ch.val) c == 1)) :=
  ⟨⟨⟨by unfold taken; decide +kernel, passes_of (by decide +kernel)⟩,
    ⟨by unfold taken; decide +kernel, passes_of (by decide +kernel)⟩,
    ⟨by unfold taken; decide +kernel, by decide +kernel, by decide +kernel, passes_of (by decide +kernel)⟩,
    ⟨by unfold taken; decide +kernel, passes_of (by decide +kernel), by decide +kernel⟩,
    ⟨by unfold taken; decide +kernel, passes_of (by decide +kernel)⟩,
    ⟨by unfold taken; decide +kernel, by decide +kernel, passes_of (by decide +kernel)⟩,
    ⟨by unfold taken; decide +kernel, by decide +kernel, passes_of (by decide +kernel)⟩,
    ⟨by unfold taken; decide +kernel, passes_of (by decide +kernel), by decide +kernel⟩,
    ⟨by unfold taken; decide +kernel, passes_of (by decide +kernel)⟩,
    ⟨by unfold taken; decide +kernel, passes_of (by decide +kernel)⟩,
    ⟨by unfold taken; decide +kernel, passes_of (by decide +kernel)⟩⟩,
  ⟨⟨by unfold taken; decide +kernel, passes_of (by decide +kernel)⟩,
    ⟨by unfold taken; decide +kernel, passes_of (by decide +kernel)⟩⟩,
  ⟨by unfold taken; decide +kernel, passes_of (by decide +kernel), by decide +kernel, by decide +kernel, by decide +kernel, by decide +kernel, by decide +kernel, by decide +kernel, by decide +kernel, by decide +kernel⟩⟩

theorem witness_LinkAndChannelWritesComplete :
  (
    let s : State := asked (put [(P.lnkPair, 2)] (link 3 4 (link 2 3 (cool .run))))
    let h : Cmd := cmd
    let cr : Nat := 300
    let rr : Nat := 301
    let g : Fin 4 := 2
    let ch : Fin 64 := 9
    let c := s.chip
    let once : Prop := taken h 0x21 1 true cr rr c
    (once ∧ passes h (P.lgSwitchNow g.val).id 2 2 c ∧ paired g.val c = true ∧ lgState g.val c = lgActive ∧ lgState (partner g.val) c = lgStandby ∧ inGap g.val c = false) ∧
    (once ∧ passes h P.lnkJoin.id 1 1 c ∧ on P.lnkNodeValid c = false) ∧
    (once ∧ passes h (P.dchChResume ch.val).id 1 1 c)) ∧
  (
    let s : State := asked (fetched9 (cool .configure))
    let h : Cmd := cmd
    let cr : Nat := 300
    let rr : Nat := 301
    let ch : Fin 64 := 9
    let q : Desc := outward
    let b : Bool := true
    let c := s.chip
    let once : Prop := taken h 0x21 1 true cr rr c
    let k := chanOf ch.val c
    (once ∧ passes h P.lnkLeave.id 2 2 c) ∧
    (once ∧ passes h (P.dchChAbort ch.val).id 2 2 c ∧ k.work = none ∧ k.fetched = [q] ∧ k.held = none) ∧
    (once ∧ passes h P.thmRefcomp.id (b2n b) 1 c)) ∧
  (
    let s : State := asked (fetched9 (cool .bench))
    let h : Cmd := cmd
    let cr : Nat := 300
    let rr : Nat := 301
    let g : Fin 4 := 2
    let v : BitVec 64 := 77
    let c := s.chip
    let once : Prop := taken h 0x21 1 true cr rr c
    once ∧ passes h P.lnkOutTestRec.id v.toNat (2 ^ 64 - 1) c ∧ trafficModes c = true ∧ rd P.outShareLg c = 2 ^ g.val ∧ (outQueue g.val c).length < 64) :=
  ⟨⟨⟨by unfold taken; decide +kernel, passes_of (by decide +kernel), by decide +kernel, by decide +kernel, by decide +kernel, by decide +kernel⟩,
    ⟨by unfold taken; decide +kernel, passes_of (by decide +kernel), by decide +kernel⟩,
    ⟨by unfold taken; decide +kernel, passes_of (by decide +kernel)⟩⟩,
  ⟨⟨by unfold taken; decide +kernel, passes_of (by decide +kernel)⟩,
    ⟨by unfold taken; decide +kernel, passes_of (by decide +kernel), by decide +kernel, by decide +kernel, by decide +kernel⟩,
    ⟨by unfold taken; decide +kernel, passes_of (by decide +kernel)⟩⟩,
  ⟨by unfold taken; decide +kernel, passes_of (by decide +kernel), by decide +kernel, by decide +kernel, by decide +kernel⟩⟩

theorem witness_CommandsAreRefused :
  (
    let s : State := asked (moded (fun m => { m with trans := some .hold }) running)
    let h : Cmd := cmd
    let cr : Nat := 300
    let rr : Nat := 301
    let c := s.chip
    taken h 0x40 2 true cr rr c ∧ c.md.trans.isSome = true) ∧
  (
    let s : State := asked (chipIn .ready)
    let h : Cmd := cmd
    let cr : Nat := 300
    let rr : Nat := 301
    let gt : BitVec 64 := 1099999
    let c := s.chip
    taken h 0x40 2 true cr rr c ∧ (c.md.mode = .ready ∨ c.md.mode = .hold) ∧ gt.toNat < c.tl.gt + 100000) ∧
  (
    let s : State := asked (put [(P.lgLgEn 2, 1)] (chipIn .ready))
    let h : Cmd := cmd
    let cr : Nat := 300
    let rr : Nat := 301
    let g : Fin 4 := 2
    let c := s.chip
    taken h 0x40 2 true cr rr c ∧ on P.lnkNodeValid c = false ∧ on (P.lgLgEn g.val) c = true) ∧
  (
    let s : State := asked (put [(P.sqSqEn 7, 1), (P.sqSqFault 7, 1)] (chipIn .hold))
    let h : Cmd := cmd
    let cr : Nat := 300
    let rr : Nat := 301
    let q : Fin 64 := 7
    let c := s.chip
    taken h 0x40 2 true cr rr c ∧ c.md.mode = .hold ∧ on (P.sqSqEn q.val) c = true ∧ on (P.sqSqFault q.val) c = true) ∧
  (
    let s : State := { asked (chipIn .ready) with pending := [.resetNLow] }
    let h : Cmd := cmd
    let cr : Nat := 300
    let rr : Nat := 301
    let m : BitVec 4 := 4
    let c := s.chip
    taken h 0x40 2 true cr rr c ∧ outranked m.toNat s.pending c = true) ∧
  (
    let s : State := asked (put [(P.dxeDxeRun 3, 1)] (chipIn .configure))
    let h : Cmd := cmd
    let cr : Nat := 300
    let rr : Nat := 301
    let e : Fin 24 := 3
    let n : Nat := 32768
    let c := s.chip
    (taken h 0x21 1 true cr rr c ∧ on (P.dxeDxeRun e.val) c = true ∧ c.md.mode ∈ [Mode.configure, .syncing, .ready, .bench]) ∧
    (taken h 0x21 1 true cr rr c ∧ on (P.dxeDxeRun e.val) c = true ∧ c.md.mode ∈ [Mode.configure, .syncing, .ready, .bench] ∧ n ≤ 32768)) :=
  ⟨by dsimp only; unfold taken; decide +kernel,
  by dsimp only; unfold taken; decide +kernel,
  by dsimp only; unfold taken; decide +kernel,
  by dsimp only; unfold taken; decide +kernel,
  by dsimp only; unfold taken; decide +kernel,
  by dsimp only; unfold taken; decide +kernel⟩

theorem witness_WriteRightsHold :
  (
    let s : State := st (mailbox 3 running)
    let i : Instr := .armAt cmd 3 5
    let h : Cmd := cmd
    let op : Nat := 0x21
    let n : Fin 1024 := 3
    let x : Session := { fn := 3, cmdRing := 300, rspRing := 301 }
    let cr : Nat := 300
    let rr : Nat := 301
    let c := s.chip
    writeCommand i = some (h, op) ∧ h.mb = .ses n ∧ h.rsvd = false ∧ Tab.find c.mb.sessions n.val = some x ∧ x.fn ≠ 0 ∧ bitAt (rd P.sysVfWriteEn c) (x.fn - 1) = false ∧ inModes [.reset, .boot, .shutdown] c = false ∧ mboxRings h.mb c = some (cr, rr) ∧ (ringOf cr c).ty = 1 ∧ (ringOf rr c).ty = 2 ∧ (ringOf cr c).run = true ∧ (ringOf rr c).run = true ∧ 0 < ringUsed (ringOf cr c) ∧ promised h.mb c + 2 ≤ ringRoom (ringOf rr c) ∧ mboxBusy h.mb c = false) :=
  by dsimp only; decide +kernel

end Sys2Proof.Tests
end

/-!
PROOFS. What a mailbox command that is refused does: the entry leaves the CMD ring and one response is written, nothing else (R374).
-/

namespace Sys2Proof.Machine

/-! ### Consuming a command's entry -/

/-- Consuming entries touches the ring and outputs. -/
theorem ringConsume_sameBut (r n : Nat) (c : Chip) : sameBut [.rings, .out, .hostPba] c (ringConsume r n c) :=
  sameBut_ite _ (setRing_sameBut r _ c) (sameBut_trans (setRing_sameBut r _ c) (emit_sameBut _ _))

@[simp] theorem ringConsume_md (r n : Nat) (c : Chip) : (ringConsume r n c).md = c.md :=
  ringConsume_sameBut r n c .md (by decide)

@[simp] theorem ringConsume_tl (r n : Nat) (c : Chip) : (ringConsume r n c).tl = c.tl :=
  ringConsume_sameBut r n c .tl (by decide)

@[simp] theorem ringConsume_mb (r n : Nat) (c : Chip) : (ringConsume r n c).mb = c.mb :=
  ringConsume_sameBut r n c .mb (by decide)

@[simp] theorem rd_ringConsume (f : Field) (r n : Nat) (c : Chip) : rd f (ringConsume r n c) = rd f c :=
  rd_of_regs (ringConsume_sameBut r n c .regs (by decide))

@[simp] theorem on_ringConsume (f : Field) (r n : Nat) (c : Chip) : on f (ringConsume r n c) = on f c := by
  simp [on]

/-- Every other ring stays. -/
theorem ringOf_ringConsume_other {r q : Nat} (n : Nat) (c : Chip) (h : q ≠ r) : ringOf q (ringConsume r n c) = ringOf q c := by
  unfold ringConsume
  simp only
  split
  · exact ringOf_setRing_other _ c h
  · exact ringOf_setRing_other _ c h

/-- A mailbox's rings are those its session was given. -/
theorem mboxRings_of_mb {m : Mbox} {c d : Chip} (h : d.mb = c.mb) : mboxRings m d = mboxRings m c := by
  unfold mboxRings
  rw [h]

/-! ### A response that is written stays among the outputs -/

/-- A vector takes no output back. -/
theorem mem_out_sendVector {o : Output} {c : Chip} (fn vec : Nat) (h : o ∈ c.out) : o ∈ (sendVector fn vec c).out := by
  unfold sendVector
  split
  · exact h
  · split
    · exact h
    · split
      · split <;> exact h
      · exact List.mem_append_left _ h

/-- Producing entries takes no output back. -/
theorem mem_out_ringProduce {o : Output} {c : Chip} (r n : Nat) (irq : Bool) (h : o ∈ c.out) : o ∈ (ringProduce r n irq c).out := by
  have hwb : ∀ (b : Prop) [Decidable b] (x : Ring) (w : Output),
      o ∈ (if b then setRing r x c else emit w (setRing r x c)).out := by
    intro b _ x w
    split
    · exact h
    · exact List.mem_append_left _ h
  unfold ringProduce
  simp only
  split
  · exact mem_out_sendVector _ _ (hwb _ _ _)
  · exact hwb _ _ _

/-- A mailbox whose RSP ring runs gets the answer of its command (R374). -/
theorem answer_mem_out {i : Issuer} {cr rr : Nat} {c : Chip} (status : Nat) (res : List Nat) (hm : mboxRings i.mb c = some (cr, rr))
    (hr : (ringOf rr c).run = true) :
    .rsp i.mb i.opcode i.ctag status true false i.acceptGt c.tl.gt res ∈ (answer i status res c).out := by
  simp only [answer, respond, hm, hr, if_true]
  exact mem_out_ringProduce _ _ _ (List.mem_append_right _ (List.mem_singleton.2 rfl))

/-! ### A command that is taken -/

/-- A command that is taken is carried out on the chip whose CMD ring has given up the entry. -/
theorem take_of_taken {h : Cmd} {op n m cr rr : Nat} {write : Bool} {c : Chip} (f : Issuer → Chip → Chip)
    (ht : taken h op m write cr rr c) (hn : n ≤ m) : take h op n write f c = f (entryIssuer h op c) (ringConsume cr 1 c) := by
  obtain ⟨hmode, hrings, -, -, hcrun, hused, hrrun, hroom, hbusy, hrsvd, htakes, hwrite⟩ := ht
  have hroom' : promised h.mb c + n ≤ ringRoom (ringOf rr c) := by omega
  have hright : (write && !mayWrite h.mb c) = false := by
    cases write with
    | false => rfl
    | true => simp [hwrite rfl]
  simp [take, hmode, hrings, hcrun, hused, hrrun, hroom', hbusy, hrsvd, htakes, hright, entryIssuer]

/-- A command has its one response and has done nothing else: but for the rings and what is put out, the chip is as before. -/
abbrev onlyAnswered (h : Cmd) (op status : Nat) (c d : Chip) : Prop :=
  answered h op status [] c d ∧ sameBut [.rings, .out, .hostPba] c d

/-- A command that is taken and only answers completes with that answer alone. -/
theorem completes_of_answers {i : Instr} {s : State} {h : Cmd} {op n m cr rr status : Nat} {write : Bool} {f : Issuer → Chip → Chip}
    (ht : taken h op m write cr rr s.chip) (hn : n ≤ m) (he : exec i s = onChip (take h op n write f) s)
    (hf : f (entryIssuer h op s.chip) (ringConsume cr 1 s.chip) =
      answer (entryIssuer h op s.chip) status [] (ringConsume cr 1 s.chip)) :
    completes i s (onlyAnswered h op status s.chip) := by
  have htake := (take_of_taken f ht hn).trans hf
  obtain ⟨-, hrings, hcty, hrty, -, -, hrrun, -⟩ := ht
  have hne : rr ≠ cr := by
    rintro rfl
    omega
  have hrings' : mboxRings h.mb (ringConsume cr 1 s.chip) = some (cr, rr) := (mboxRings_of_mb (ringConsume_mb _ _ _)).trans hrings
  have hrrun' : (ringOf rr (ringConsume cr 1 s.chip)).run = true := by rw [ringOf_ringConsume_other 1 s.chip hne, hrrun]
  refine completes_onChip _ he ?_
  rw [htake]
  refine ⟨?_, sameBut_trans (ringConsume_sameBut cr 1 s.chip) (respond_sameBut _ _ _ _ _ _)⟩
  have hout := answer_mem_out (i := entryIssuer h op s.chip) status [] hrings' hrrun'
  rw [ringConsume_tl] at hout
  exact hout

end Sys2Proof.Machine

/-!
PROOFS. When MODE_SET is refused with MODE_REFUSED (R21–R23, R210, R278).
-/

namespace Sys2Proof.Machine

/-! ### RUN is refused -/

/-- RUN at a GT that is too near (R23). -/
theorem runRefused_of_near {gt : Nat} {c : Chip} (h : gt < c.tl.gt + 100000) : runRefused gt c = true := by
  simp [runRefused, h]

/-- RUN with a link group enabled on a node that is not valid (R278). -/
theorem runRefused_of_unjoined {c : Chip} (gt : Nat) {g : Nat} (hg : g < 4) (hn : on P.lnkNodeValid c = false)
    (he : on (P.lgLgEn g) c = true) : runRefused gt c = true := by
  have hany : (List.range 4).any (fun g => on (P.lgLgEn g) c) = true := List.any_eq_true.2 ⟨g, List.mem_range.2 hg, he⟩
  simp [runRefused, hn, hany]

/-- An enabled sequencer with SQ_FAULT set blocks a run (R210). -/
theorem runBlocked_of_sqFault {c : Chip} {q : Nat} (hq : q < 64) (he : on (P.sqSqEn q) c = true) (hf : on (P.sqSqFault q) c = true) :
    runBlocked c = true :=
  List.any_eq_true.2 ⟨q, List.mem_range.2 hq, by simp [he, hf]⟩

/-- RUN from HOLD with a run blocked (R210). -/
theorem runRefused_of_blocked {c : Chip} (gt : Nat) (hm : c.md.mode = .hold) (hb : runBlocked c = true) : runRefused gt c = true := by
  simp [runRefused, hm, hb]

/-! ### MODE_SET is refused -/

/-- A transition in progress goes on (R22). -/
theorem modeSet_in_transition (late : Bool) (target gt : Nat) (i : Issuer) {c : Chip} (h : c.md.trans.isSome = true) :
    modeSet late target gt i c = answer i St.modeRefused [] c := by
  unfold modeSet
  cases codeMode target with
  | none => rfl
  | some m => simp [h]

/-- A transition to RUN that is refused is answered so, whatever the mode. -/
theorem modeGo_run_refused {gt : Nat} (i : Issuer) {c : Chip} (h : runRefused gt c = true) :
    modeGo .run gt i c = answer i St.modeRefused [] c := by
  simp [modeGo, h]

/-- MODE_SET RUN is refused where RUN is: R20's own tests refuse it with the same status. -/
theorem modeSet_run_refused (late : Bool) {gt : Nat} (i : Issuer) {c : Chip} (h : runRefused gt c = true) :
    modeSet late 0x8 gt i c = answer i St.modeRefused [] c := by
  simp only [modeSet, codeMode, modeGo_run_refused i h, ite_self]

/-- A MODE_SET that `modeSet` answers with MODE_REFUSED completes with that answer and changes nothing else. -/
theorem completes_modeSet_refused {s : State} {h : Cmd} {cr rr : Nat} {m : BitVec 4} {gt : BitVec 64} (ht : taken h 0x40 2 true cr rr s.chip)
    (hr : ∀ i : Issuer, modeSet (outranked m.toNat s.pending s.chip) m.toNat gt.toNat i (ringConsume cr 1 s.chip) =
      answer i St.modeRefused [] (ringConsume cr 1 s.chip)) :
    completes (.modeSet h m gt) s (onlyAnswered h 0x40 St.modeRefused s.chip) :=
  completes_of_answers ht (by split <;> omega) rfl (hr _)

/-- MODE_SET RUN completes with MODE_REFUSED where RUN is refused once the entry is consumed. -/
theorem completes_modeSet_run_refused {s : State} {h : Cmd} {cr rr : Nat} {gt : BitVec 64} (ht : taken h 0x40 2 true cr rr s.chip)
    (hr : runRefused gt.toNat (ringConsume cr 1 s.chip) = true) :
    completes (.modeSet h 0x8 gt) s (onlyAnswered h 0x40 St.modeRefused s.chip) :=
  completes_modeSet_refused ht (fun i => modeSet_run_refused _ i hr)

end Sys2Proof.Machine

/-!
PROOFS. A write to CB_BASE or CB_LEN of a running engine is refused with ENGINE_RUNNING (R156, R464).
-/

namespace Sys2Proof.Machine

/-! ### Parameter IDs (R6) -/

theorem idBlock_pid (b : Nat) {i k : Nat} (hi : i < 2 ^ 12) (hk : k < 2 ^ 12) : idBlock (pid b i k) = b := by
  unfold idBlock pid
  omega

theorem idInst_pid (b : Nat) {i k : Nat} (hi : i < 2 ^ 12) (hk : k < 2 ^ 12) : idInst (pid b i k) = i := by
  unfold idInst pid
  omega

theorem idItem_pid (b i : Nat) {k : Nat} (hk : k < 2 ^ 12) : idItem (pid b i k) = k := by
  unfold idItem pid
  omega

/-! ### Fields under a mask -/

/-- A value written under a mask with every bit of the field reads back, whatever the field held. -/
theorem rd_wr_fullMask {f : Field} {v : Nat} (c : Chip) (hv : v < 2 ^ f.w) :
    rd f (wr f (rd f c - (rd f c &&& (2 ^ f.w - 1)) + (v &&& (2 ^ f.w - 1))) c) = v := by
  rw [rd_wr_same, Nat.and_two_pow_sub_one_eq_mod, Nat.and_two_pow_sub_one_eq_mod, Nat.mod_eq_of_lt hv]
  have hold : rd f c - rd f c % 2 ^ f.w = 2 ^ f.w * (rd f c / 2 ^ f.w) := by
    have := Nat.div_add_mod (rd f c) (2 ^ f.w)
    omega
  rw [hold, Nat.mul_add_mod, Nat.mod_eq_of_lt hv]

/-! ### The parameter of a buffer -/

theorem idBlock_cb {e j : Nat} (he : e < 24) (hj : j < 16) : idBlock (P.dxeCbBase e j).id = 8 :=
  idBlock_pid 8 (by omega) (by omega)

theorem idInst_cb {e j : Nat} (he : e < 24) (hj : j < 16) : idInst (P.dxeCbBase e j).id = e :=
  idInst_pid 8 (by omega) (by omega)

theorem idItem_cb {j : Nat} (e : Nat) (hj : j < 16) : idItem (P.dxeCbBase e j).id = 0x30 + j :=
  idItem_pid 8 e (by omega)

/-- The fields of a buffer's parameter: CB_BASE and CB_LEN, both RW. -/
def cbRows (e j : Nat) : List Row :=
  [⟨P.dxeCbBase e j, .rw, fun _ => true, false⟩, ⟨P.dxeCbLen e j, .rw, (· ≤ 32768), false⟩]

theorem fieldsOf_cb {e j : Nat} (he : e < 24) (hj : j < 16) : fieldsOf (P.dxeCbBase e j).id = cbRows e j := by
  have hb : (P.dxeCbBase e j).id / 2 ^ 24 = 8 := idBlock_cb he hj
  have hi : (P.dxeCbBase e j).id / 2 ^ 12 % 2 ^ 12 = e := idInst_cb he hj
  have hk : (P.dxeCbBase e j).id % 2 ^ 12 = 48 + j := idItem_cb e hj
  have hbelow : ∀ n < 48, 48 + j ≠ n := by omega
  have hshift : ¬ 48 + j < 28 := by omega
  have hbuffer : 48 + j < 64 := by omega
  simp only [fieldsOf, hb, hi, hk]
  simp [rowsDxe, he, hbelow, hshift, hbuffer, cbRows]

/-- A buffer's parameter is no decision entry: it lies in block 0x08. -/
theorem isDecEntry_cb {e j : Nat} (he : e < 24) (hj : j < 16) : isDecEntry (P.dxeCbBase e j).id = false :=
  decide_eq_false (by simp only [P.dxeCbBase, pid]; omega)

/-- Every field that a mask covers in a buffer's parameter is RW. -/
theorem acc_of_covered_cb {e j mask : Nat} (he : e < 24) (hj : j < 16) : ∀ r ∈ covered (P.dxeCbBase e j).id mask, r.acc = .rw := by
  intro r hr
  have hmem : r ∈ cbRows e j := by
    rw [covered, fieldsOf_cb he hj] at hr
    exact (List.mem_filter.1 hr).1
  simp only [cbRows, List.mem_cons, List.not_mem_nil, or_false] at hmem
  rcases hmem with rfl | rfl <;> rfl

/-- No field that a mask covers in a buffer's parameter passes a test that RW fields fail. -/
theorem covered_cb_any_false {e j mask : Nat} {p : Row → Bool} (he : e < 24) (hj : j < 16) (hp : ∀ r : Row, r.acc = .rw → p r = false) :
    (covered (P.dxeCbBase e j).id mask).any p = false :=
  List.any_eq_false.2 fun r hr => by simp [hp r (acc_of_covered_cb he hj r hr)]

/-! ### The tests of a write to a buffer (R464) -/

/-- CONFIGURE, SYNCING, READY and BENCH admit a write to a buffer at once (R19). -/
theorem modeAdmits_cb {e j : Nat} {c : Chip} (value mask : Nat) (he : e < 24) (hj : j < 16)
    (hm : c.md.mode ∈ [Mode.configure, .syncing, .ready, .bench]) : modeAdmits (P.dxeCbBase e j).id value mask c = true := by
  have hb := idBlock_cb he hj
  have hblock : blockMode (P.dxeCbBase e j).id value mask c = true := by
    simp [blockMode, hb, idItem_cb e hj]
  simp only [List.mem_cons, List.not_mem_nil, or_false] at hm
  rcases hm with h | h | h | h <;> simp [modeAdmits, hblock, h, hb]

/-- The engine's own state refuses a write to a buffer while it runs (R156). -/
theorem stateRefused_cb {e j mask : Nat} {c c1 : Chip} (w : Writer) (value : Nat) (he : e < 24) (hj : j < 16)
    (hrun : on (P.dxeDxeRun e) c = true) (hcov : covered (P.dxeCbBase e j).id mask ≠ []) :
    stateRefused w (P.dxeCbBase e j).id value mask c c1 = some St.engineRunning := by
  obtain ⟨r, hr⟩ := List.exists_mem_of_ne_nil _ hcov
  have hrw : writesRw (P.dxeCbBase e j).id mask = true :=
    List.any_eq_true.2 ⟨r, hr, by simp [acc_of_covered_cb he hj r hr]⟩
  have hitem : 48 + j < 80 := by omega
  simp [stateRefused, idBlock_cb he hj, idInst_cb he hj, idItem_cb e hj, hrw, hrun, hitem]

/-- A write to a buffer of a running engine whose value is in range is refused with ENGINE_RUNNING: every test before the engine's
own passes (R156, R464). -/
theorem writeRefused_cb {e j value mask : Nat} {base now : Chip} (w : Writer) (he : e < 24) (hj : j < 16)
    (hm : now.md.mode ∈ [Mode.configure, .syncing, .ready, .bench]) (hrun : on (P.dxeDxeRun e) now = true)
    (hcov : covered (P.dxeCbBase e j).id mask ≠ [])
    (hok : ∀ r ∈ covered (P.dxeCbBase e j).id mask, r.ok (rd r.f (storeValue (P.dxeCbBase e j).id value mask keepsRow base)) = true) :
    writeRefused w (P.dxeCbBase e j).id value mask base now = some St.engineRunning := by
  have hro := covered_cb_any_false (mask := mask) (p := fun r => r.acc == .ro || r.acc == .rc) he hj (by intro r h; simp [h])
  have hsh := covered_cb_any_false (mask := mask) (p := fun r => r.acc == .sh) he hj (by intro r h; simp [h])
  have hrange : (covered (P.dxeCbBase e j).id mask).any (fun r =>
      keepsRow r && !r.ok (if isDecEntry (P.dxeCbBase e j).id then 0 else
        rd r.f (storeValue (P.dxeCbBase e j).id value mask keepsRow base))) = false :=
    List.any_eq_false.2 fun r hr => by simp [isDecEntry_cb he hj, hok r hr]
  have hlayout : layoutOk (P.dxeCbBase e j).id value mask now (storeValue (P.dxeCbBase e j).id value mask keepsRow base) = true := by
    simp [layoutOk, idBlock_cb he hj]
  have hfields : (fieldsOf (P.dxeCbBase e j).id).isEmpty = false := by rw [fieldsOf_cb he hj]; rfl
  simp only [writeRefused, hfields, hro, hsh, modeAdmits_cb value mask he hj hm, writesSh, hrange, hlayout,
    stateRefused_cb w value he hj hrun hcov]
  simp

/-! ### The value a write to CB_LEN leaves -/

/-- A mask of CB_BASE's bits covers CB_BASE alone. -/
theorem covered_cbBase {e j : Nat} (he : e < 24) (hj : j < 16) :
    covered (P.dxeCbBase e j).id 0x7FFF = [⟨P.dxeCbBase e j, .rw, fun _ => true, false⟩] := by
  have hbase : covers 0x7FFF (P.dxeCbBase e j) = true := show (bits 0x7FFF 0 15 != 0) = true by decide
  have hlen : covers 0x7FFF (P.dxeCbLen e j) = false := show (bits 0x7FFF 16 16 != 0) = false by decide
  simp [covered, fieldsOf_cb he hj, cbRows, hbase, hlen]

/-- No bit of CB_LEN's mask lies in CB_BASE. -/
theorem bits_cbLenMask_cbBase (e j : Nat) : bits 0xFFFF0000 (P.dxeCbBase e j).lo (P.dxeCbBase e j).w = 0 :=
  show bits 0xFFFF0000 0 15 = 0 by decide

/-- CB_LEN's mask has all of its bits. -/
theorem bits_cbLenMask_cbLen (e j : Nat) :
    bits 0xFFFF0000 (P.dxeCbLen e j).lo (P.dxeCbLen e j).w = 2 ^ (P.dxeCbLen e j).w - 1 :=
  show bits 0xFFFF0000 16 16 = 2 ^ 16 - 1 by decide

theorem cbLenMask_ne_zero (e j : Nat) : 2 ^ (P.dxeCbLen e j).w - 1 ≠ 0 := show 2 ^ 16 - 1 ≠ 0 by decide

/-- A mask of CB_LEN's bits covers CB_LEN alone. -/
theorem covered_cbLen {e j : Nat} (he : e < 24) (hj : j < 16) :
    covered (P.dxeCbBase e j).id 0xFFFF0000 = [⟨P.dxeCbLen e j, .rw, (· ≤ 32768), false⟩] := by
  have hbase : covers 0xFFFF0000 (P.dxeCbBase e j) = false := by rw [covers, bits_cbLenMask_cbBase]; rfl
  have hlen : covers 0xFFFF0000 (P.dxeCbLen e j) = true := by
    rw [covers, bits_cbLenMask_cbLen, bne_iff_ne]
    exact cbLenMask_ne_zero e j
  simp [covered, fieldsOf_cb he hj, cbRows, hbase, hlen]

/-- A write of CB_LEN stores its value, whatever the buffer held. -/
theorem rd_storeValue_cbLen {e j n : Nat} (he : e < 24) (hj : j < 16) (hn : n ≤ 32768) (c : Chip) :
    rd (P.dxeCbLen e j) (storeValue (P.dxeCbBase e j).id (n * 65536) 0xFFFF0000 keepsRow c) = n := by
  have hfit : n < 2 ^ (P.dxeCbLen e j).w := by simp only [P.dxeCbLen]; omega
  have hval : bits (n * 65536) (P.dxeCbLen e j).lo (P.dxeCbLen e j).w = n := by
    simp only [bits, P.dxeCbLen]
    omega
  have hstore : storeValue (P.dxeCbBase e j).id (n * 65536) 0xFFFF0000 keepsRow c = wr (P.dxeCbLen e j)
      (rd (P.dxeCbLen e j) c - (rd (P.dxeCbLen e j) c &&& (2 ^ (P.dxeCbLen e j).w - 1)) + (n &&& (2 ^ (P.dxeCbLen e j).w - 1))) c := by
    simp only [storeValue, isDecEntry_cb he hj, fieldsOf_cb he hj, cbRows, keepsRow, List.foldl, bits_cbLenMask_cbBase,
      bits_cbLenMask_cbLen, hval]
    simp [cbLenMask_ne_zero]
  rw [hstore, rd_wr_fullMask c hfit]

/-! ### The command -/

/-- A PARAM_SET to a buffer of a running engine whose value is in range completes with ENGINE_RUNNING and changes nothing else. -/
theorem completes_paramSet_cb {s : State} {h : Cmd} {cr rr e j : Nat} {id : BitVec 32} {value mask : BitVec 64} (he : e < 24) (hj : j < 16)
    (hid : id.toNat = (P.dxeCbBase e j).id)
    (ht : taken h 0x21 1 true cr rr s.chip) (hrun : on (P.dxeDxeRun e) s.chip = true)
    (hm : s.chip.md.mode ∈ [Mode.configure, .syncing, .ready, .bench]) (hcov : covered (P.dxeCbBase e j).id mask.toNat ≠ [])
    (hok : ∀ (base : Chip), ∀ r ∈ covered (P.dxeCbBase e j).id mask.toNat,
      r.ok (rd r.f (storeValue (P.dxeCbBase e j).id value.toNat mask.toNat keepsRow base)) = true) :
    completes (.paramSet h id value mask 0) s (onlyAnswered h 0x21 St.engineRunning s.chip) := by
  have hsched : writeSchedules id.toNat value.toNat mask.toNat = false := by
    simp [writeSchedules, hid, idBlock_cb he hj]
  refine completes_of_answers ht (by simp [hsched]) rfl ?_
  have hsh := covered_cb_any_false (mask := mask.toNat) (p := fun r => r.acc == .sh) he hj (by intro r h; simp [h])
  have hvf : ((P.dxeCbBase e j).id == P.sysVfWriteEn.id) = false := by
    simp only [P.dxeCbBase, P.sysVfWriteEn, pid, beq_eq_false_iff_ne]
    omega
  have hrefused := fun w => writeRefused_cb w he hj (now := ringConsume cr 1 s.chip) (by simpa using hm) (by simpa using hrun) hcov
    (hok (heldBase (ringConsume cr 1 s.chip)))
  simp [paramSet, hid, writeParam, hvf, hsh, hrefused, St.engineRunning, St.ok, St.loopRefused]

end Sys2Proof.Machine

/-!
PROOFS. O59: the commands that are refused change nothing.
-/

namespace Sys2Proof.Machine

/-- Settles O59: once the entry is consumed each MODE_SET is answered with MODE_REFUSED for its reason, and the writes to CB_BASE
and CB_LEN pass every test of R464 but the engine's own. -/
theorem commandsAreRefused : Obligations.CommandsAreRefused := by
  intro s h cr rr m gt g q e j v n c kept refused cb
  constructor
  · intro ht
    refine ⟨fun htrans => ?_, fun _ hgt => ?_, fun hvalid hen => ?_, fun hhold hen hfault => ?_, fun hlate => ?_⟩
    · exact completes_modeSet_refused ht fun i => modeSet_in_transition _ _ _ i (by simpa using htrans)
    · exact completes_modeSet_run_refused ht (runRefused_of_near (by simpa using hgt))
    · exact completes_modeSet_run_refused ht (runRefused_of_unjoined _ g.isLt (by simpa using hvalid) (by simpa using hen))
    · exact completes_modeSet_run_refused ht (runRefused_of_blocked _ (by simpa using hhold)
        (runBlocked_of_sqFault q.isLt (by simpa using hen) (by simpa using hfault)))
    · exact completes_modeSet_refused ht fun i => by rw [hlate]; exact modeSet_late _ _ i _
  · intro ht hrun hm
    have hid : cb.toNat = (P.dxeCbBase e.val j.val).id := by
      simp only [cb, BitVec.toNat_ofNat, P.dxeCbBase, pid]
      omega
    constructor
    · have hcov := covered_cbBase e.isLt j.isLt
      exact completes_paramSet_cb e.isLt j.isLt hid ht hrun hm (by simp [hcov]) (by simp [hcov])
    · intro hn
      have hcov := covered_cbLen e.isLt j.isLt
      have hv : (BitVec.ofNat 64 (n * 2 ^ 16)).toNat = n * 65536 := by
        rw [BitVec.toNat_ofNat]
        omega
      exact completes_paramSet_cb e.isLt j.isLt hid ht hrun hm (by simp [hcov])
        (by rw [hv]; simp [hcov, rd_storeValue_cbLen e.isLt j.isLt hn, hn])

end Sys2Proof.Machine

/-!
PROOFS. A write command from a session that lacks the right is refused with NOT_PERMITTED (R372).
-/

namespace Sys2Proof.Machine

/-! ### The right to write -/

/-- A session of a virtual function whose bit in VF_WRITE_EN is 0 lacks the right (R372). -/
theorem mayWrite_of_vf_disabled {n : Fin 1024} {x : Session} {c : Chip} (hx : Tab.find c.mb.sessions n.val = some x) (hfn : x.fn ≠ 0)
    (hen : bitAt (rd P.sysVfWriteEn c) (x.fn - 1) = false) : mayWrite (.ses n) c = false := by
  simp [mayWrite, mboxFn, hx, hfn, hen]

/-- Without the right a write command, whatever it would do, is taken as a command that answers NOT_PERMITTED and does nothing else
(R372). -/
theorem take_without_right {h : Cmd} {c : Chip} (op n : Nat) (f : Issuer → Chip → Chip) (hright : mayWrite h.mb c = false) :
    take h op n true f c = take h op n false (fun i => answer i St.notPermitted []) c := by
  simp [take, hright]

/-! ### The write commands -/

/-- A write command whose opcode is PARAM_SET's is a PARAM_SET of one parameter (R379). -/
theorem exec_writeCommand_paramSet {i : Instr} {h : Cmd} (s : State) (hw : writeCommand i = some (h, 0x21)) :
    ∃ id value mask drawer b, exec i s = onChip (setCmd h id value mask drawer b) s := by
  unfold writeCommand at hw
  split at hw <;> cases hw <;> exact ⟨_, _, _, _, _, rfl⟩

/-- Every other write command is taken as one, with room for at most two responses. -/
theorem exec_writeCommand_other {i : Instr} {h : Cmd} {op : Nat} (s : State) (hw : writeCommand i = some (h, op)) (hop : op ≠ 0x21) :
    ∃ n f, n ≤ 2 ∧ exec i s = onChip (take h op n true f) s := by
  cases i
  case paramList => cases hw; exact ⟨1, _, by decide, rfl⟩
  case txnCommit => cases hw; exact ⟨2, _, by decide, rfl⟩
  case groupMode => cases hw; exact ⟨2, _, by decide, rfl⟩
  case modeSet h target gt =>
    cases hw
    refine ⟨if modeNames target.toNat gt.toNat s.chip then 2 else 1, _, ?_, rfl⟩
    split <;> decide
  case cfgSave => cases hw; exact ⟨1, _, by decide, rfl⟩
  case cfgLoad => cases hw; exact ⟨1, _, by decide, rfl⟩
  all_goals cases hw
  all_goals exact absurd rfl hop

/-- Every write command is taken as one, with room for at most two responses. -/
theorem exec_writeCommand {i : Instr} {h : Cmd} {op : Nat} (s : State) (hw : writeCommand i = some (h, op)) :
    ∃ n f, n ≤ 2 ∧ exec i s = onChip (take h op n true f) s := by
  by_cases hop : op = 0x21
  · subst hop
    obtain ⟨id, value, mask, drawer, b, he⟩ := exec_writeCommand_paramSet s hw
    refine ⟨if writeSchedules id value mask then 2 else 1, _, ?_, he⟩
    split <;> decide
  · exact exec_writeCommand_other s hw hop

/-- No write command opens a session. -/
theorem writeCommand_op_ne_sessionOpen {i : Instr} {h : Cmd} {op : Nat} (hw : writeCommand i = some (h, op)) : op ≠ 1 := by
  unfold writeCommand at hw
  split at hw <;> cases hw <;> decide

/-- A session's mailbox takes every write command (R370). -/
theorem mboxTakes_writeCommand {i : Instr} {h : Cmd} {op : Nat} (n : Fin 1024) (hw : writeCommand i = some (h, op)) :
    mboxTakes (.ses n) op = true :=
  bne_iff_ne.2 (writeCommand_op_ne_sessionOpen hw)

/-! ### The refusal -/

/-- Settles O60: without the right each write command is taken as one that answers NOT_PERMITTED, and a command that only answers
changes nothing else. -/
theorem writeRightsHold : Obligations.WriteRightsHold := by
  intro s i h op n x cr rr c hw hses hrsvd hx hfn hen hmode hrings hcty hrty hcrun hrrun hused hroom hbusy
  obtain ⟨m, f, hm, hexec⟩ := exec_writeCommand s hw
  have hright : mayWrite h.mb c = false := by rw [hses]; exact mayWrite_of_vf_disabled hx hfn hen
  have htakes : mboxTakes h.mb op = true := by rw [hses]; exact mboxTakes_writeCommand n hw
  have htaken : taken h op 2 false cr rr c :=
    ⟨hmode, hrings, hcty, hrty, hcrun, hused, hrrun, hroom, hbusy, hrsvd, htakes, Bool.noConfusion⟩
  have hrefused : exec i s = onChip (take h op m false fun i => answer i St.notPermitted []) s := by
    rw [hexec, onChip_eq, onChip_eq, take_without_right op m f hright]
  exact completes_of_answers htaken hm hrefused rfl

end Sys2Proof.Machine
